-- ==== Sys2Proof/Word.lean ====
section
/-! DEFINITION. The plain value types of the IBX-410: what the spec carries as bits, and the index types. -/

namespace Sys2Proof

/-- One byte of a frame. -/
abbrev Byte := BitVec 8

/-- A 48-bit Ethernet address (R1). -/
abbrev Addr := BitVec 48

/-- A value of the 32-bit millisecond timebase (R33). -/
abbrev Time := BitVec 32

/-- A 16-bit modular number: an epoch number or a sequence number (Conventions, "Modular numbers"). -/
abbrev Num16 := BitVec 16

/-- A unit number, 0 to 63 (R35). -/
abbrev UnitNo := Fin 64

/-- An Order Slot number, 0 to 11 (R63). -/
abbrev SlotNo := Fin 12

/-- An Event Log slot number, 0 to 31 (R180). -/
abbrev LogNo := Fin 32

end Sys2Proof
end

