-- ==== Sys2Proof/Syntax.lean ====
section
/-! DEFINITION. The commands of the block: one constructor of `Instr` for each row of spec/opcode_table.json, with the
contents that the arrival, request, expiry or completion carries. -/

namespace Sys2Proof

/-- The two station-bus ports (R2). -/
inductive Port where
  | pa
  | pb
  deriving DecidableEq, Repr, Inhabited

/-- The port opposite to `p`: frames received on one are sent on the other (section 1.2). -/
def Port.other : Port → Port
  | .pa => .pb
  | .pb => .pa

/-- The unit kinds of the common header, coded 0 to 5 (section 1.7, R35). -/
inductive UnitKind where
  | noUnit
  | genset
  | pv
  | storage
  | feeder
  | meter
  deriving DecidableEq, Repr, Inhabited

/-- Breaker codes 0 and 1 (section 1.7). -/
inductive Breaker where
  | opn
  | closed
  deriving DecidableEq, Repr, Inhabited

/-- Engine codes 0 to 3 (section 1.7). -/
inductive Engine where
  | stopped
  | cranking
  | running
  | faulted
  deriving DecidableEq, Repr, Inhabited

/-- Selector codes 0 and 1 (section 1.7). -/
inductive Selector where
  | remote
  | localPanel
  deriving DecidableEq, Repr, Inhabited

/-- Order kinds, coded 1 to 6 (section 1.7). -/
inductive OrderKind where
  | start
  | stop
  | setCap
  | clearCap
  | opn
  | close
  deriving DecidableEq, Repr, Inhabited

/-- The reasons of a REFUSE reply, coded 1 to 4 (section 1.7). -/
inductive RefuseReason where
  | localControl
  | notReady
  | outOfRange
  | unitFault
  deriving DecidableEq, Repr, Inhabited

/-- The verdict an ORDER REPLY carries (section 1.7, R72). -/
inductive Verdict where
  | accept
  | refuse (reason : RefuseReason)
  deriving DecidableEq, Repr, Inhabited

/-- The payload of a READING, by the kind in its header, each power, frequency and voltage in its 32 carried bits
(section 1.7). A PV payload's cap is absent when its cap-present flag is 0. -/
inductive ReadingBody where
  | genset (output : BitVec 32) (breaker : Breaker) (engine : Engine) (selector : Selector)
  | pv (output available : BitVec 32) (cap : Option (BitVec 32)) (breaker : Breaker)
  | storage (output discharge charge : BitVec 32) (soc : Byte) (breaker : Breaker)
  | feeder (load : BitVec 32) (breaker : Breaker)
  | meter (frequency voltage : BitVec 32)
  deriving DecidableEq, Repr, Inhabited

/-! A delivery carries the common header whole (R12). Its version is 1 and its frame class is the delivery's own (R10), and its
payload length is that of the payload; the other four fields stand in each structure below. -/

/-- A delivered READING with its arrival port and source address (R12). Its header's unit kind is that of its body. -/
structure ReadingMsg where
  port  : Port
  src   : Addr
  unit  : UnitNo
  seq   : Num16
  epoch : Num16
  body  : ReadingBody
  deriving DecidableEq, Repr, Inhabited

/-- A delivered EPOCH MARK: its source, its header's unit number, unit kind and sequence, the epoch field of its header, which
is the mark's number (section 1.7), and its period (R12, R20). -/
structure MarkMsg where
  src    : Addr
  unit   : Byte
  kind   : Byte
  seq    : Num16
  number : Num16
  period : Num16
  deriving DecidableEq, Repr, Inhabited

/-- An observed ORDER: its source, its header's unit number, unit kind, sequence and epoch, and its payload (R12, R59). -/
structure ObservedMsg where
  src    : Addr
  unit   : UnitNo
  kind   : UnitKind
  seq    : Num16
  epoch  : Num16
  number : Byte
  order  : OrderKind
  value  : BitVec 32
  deriving DecidableEq, Repr, Inhabited

/-- A delivered ORDER REPLY with its arrival port and source address (R12, R72). Its header's unit kind is not examined
(section 1.7). -/
structure ReplyMsg where
  port    : Port
  src     : Addr
  unit    : UnitNo
  kind    : Byte
  seq     : Num16
  epoch   : Num16
  number  : Byte
  verdict : Verdict
  deriving DecidableEq, Repr, Inhabited

/-- One named value of a WRITE RECORD (R189). The spec fixes no byte widths for the values: see notes/assumptions/2.md.
An enumerated value is a `num` by the internal numbering that Machine/Operands.lean gives; yes and no are a `flag`. -/
inductive FieldVal where
  | num (n : Nat)
  | flag (b : Bool)
  | addr (a : Addr)
  | orders (start stop setCap clearCap opn close : Bool)
  | conditions (mask : BitVec 14)
  deriving DecidableEq, Repr, Inhabited

/-- The arguments of a service request as R188 lists them. `malformed` stands for arguments that are of no request kind's
count and length. -/
inductive ReqArgs where
  | nothing
  | write (table index : Nat) (mask : List Nat) (values : List FieldVal)
  | read (table first count : Nat)
  | slots (numbers : List Nat)
  | conditions (mask : BitVec 14)
  | mode (code : Nat)
  | scope (code argument : Nat)
  | unit (number : Nat)
  | malformed
  deriving DecidableEq, Repr, Inhabited

/-- A delivered SERVICE REQUEST with its arrival port and source address (R12, section 1.7): its header's unit number, unit kind,
sequence and epoch, and the tag, request kind and arguments of its payload. -/
structure Request where
  port     : Port
  src      : Addr
  unit     : Byte
  unitKind : Byte
  seq      : Num16
  epoch    : Num16
  tag      : Num16
  kind     : Byte
  args     : ReqArgs
  deriving DecidableEq, Repr, Inhabited

/-- The commands: every row of spec/opcode_table.json, in the table's order. -/
inductive Instr where
  | powerOnReset
  | powerOnResetEnd (straps : Byte) (paUp pbUp : Bool)
  | linkDown (p : Port)
  | linkUp (p : Port)
  | timebaseTick
  | frameArrivalStart (p : Port)
  | frameAddressesReceived (p : Port) (dst src : Addr)
  | frameReceptionEnd (p : Port) (rest : List Byte) (badCheck partialByte : Bool)
  | transmitEnd (p : Port)
  | epochMark (m : MarkMsg)
  | unsetDeadlineExpiry
  | primaryLoss
  | secondaryLoss
  | freeRunExpiry
  | passCompletion
  | reading (r : ReadingMsg)
  | observedOrder (o : ObservedMsg)
  | manualHoldEnd (u : UnitNo)
  | orderReply (r : ReplyMsg)
  | replyTimeout (slot : SlotNo)
  | startTimeout (u : UnitNo)
  | stopTimeout (u : UnitNo)
  | restoreTimeout (u : UnitNo)
  | stepTimeout
  | serviceRequest (r : Request)
  | writeRecord
  | readRecord
  | readState
  | readEvents
  | ackEvents
  | clearConditions
  | clearOverflow
  | setMode
  | cancelOrders
  | startPlan
  | abortPlan
  | releaseFeeder
  | resetLockout
  | engineReset
  | unknownRequestKind
  deriving DecidableEq, Repr, Inhabited

end Sys2Proof
end

