-- ==== Sys2Proof/Machine/Data.lean ====
section
/-! DEFINITION. The data each block of the part holds: one structure per record or item group of the spec, its default
values being the values after power-on reset. `State` (Machine/State.lean) puts them together. -/

namespace Sys2Proof.Machine

/-! ## Enumerated values and their codes -/

/-- The engine modes (R191), coded 0 to 3 (R188). -/
inductive Mode where
  | halted
  | observe
  | active
  | restore
  deriving DecidableEq, Repr, Inhabited

/-- Mode codes (R188). -/
def Mode.code : Mode → Nat
  | .halted => 0
  | .observe => 1
  | .active => 2
  | .restore => 3

/-- The mode of a code, or none for an undefined code (R188). -/
def Mode.ofCode : Nat → Option Mode
  | 0 => some .halted
  | 1 => some .observe
  | 2 => some .active
  | 3 => some .restore
  | _ => none

/-- The epoch states (R19). -/
inductive EpochState where
  | unset
  | primary
  | secondary
  | freeRun
  deriving DecidableEq, Repr, Inhabited

/-- Epoch state codes (R19). -/
def EpochState.code : EpochState → Nat
  | .unset => 0
  | .primary => 1
  | .secondary => 2
  | .freeRun => 3

/-- The epoch mode setting (R19). -/
inductive EpochMode where
  | single
  | dual
  deriving DecidableEq, Repr, Inhabited

/-- How recently a unit was heard (R40, R51). -/
inductive Freshness where
  | absent
  | fresh
  | held
  | stale
  deriving DecidableEq, Repr, Inhabited

/-- The dispatch states of a gen-set (R122). -/
inductive DispatchState where
  | stopped
  | unavailable
  | startPending
  | starting
  | online
  | stopPending
  | stopping
  | lockedOut
  deriving DecidableEq, Repr, Inhabited

/-- Dispatch state codes (R122). -/
def DispatchState.code : DispatchState → Nat
  | .stopped => 0
  | .unavailable => 1
  | .startPending => 2
  | .starting => 3
  | .online => 4
  | .stopPending => 5
  | .stopping => 6
  | .lockedOut => 7

/-- The states whose gen-sets the Commitment List holds (R123). -/
def DispatchState.committed : DispatchState → Bool
  | .startPending | .starting | .online | .stopPending | .stopping => true
  | .stopped | .unavailable | .lockedOut => false

/-- The shed states of a feeder (R141). -/
inductive ShedState where
  | unknown
  | closed
  | opening
  | shed
  | restoring
  | openOther
  | openPlan
  deriving DecidableEq, Repr, Inhabited

/-- Shed state codes (R141). -/
def ShedState.code : ShedState → Nat
  | .unknown => 0
  | .closed => 1
  | .opening => 2
  | .shed => 3
  | .restoring => 4
  | .openOther => 5
  | .openPlan => 6

/-- The setpoint states of a PV unit (R104). -/
inductive SetpointState where
  | idle
  | ordered
  | unsettled
  deriving DecidableEq, Repr, Inhabited

/-- The owners of orders (R63). -/
inductive Owner where
  | curtail
  | dispatch
  | shed
  | plan
  | service
  deriving DecidableEq, Repr, Inhabited

/-- The Egress Scheduler's queues, which are also the classes of R67 and R82. -/
inductive QClass where
  | urgent
  | dispatch
  | setpoint
  | report
  deriving DecidableEq, Repr, Inhabited

/-- Where an order stands in its lifecycle (R63). -/
inductive OrderState where
  | queued
  | sent
  | waitingRetry
  deriving DecidableEq, Repr, Inhabited

/-- Order kind codes (section 1.7). -/
def orderCode : OrderKind → Nat
  | .start => 1
  | .stop => 2
  | .setCap => 3
  | .clearCap => 4
  | .opn => 5
  | .close => 6

/-- Reason codes of a REFUSE (section 1.7). -/
def reasonCode : RefuseReason → Nat
  | .localControl => 1
  | .notReady => 2
  | .outOfRange => 3
  | .unitFault => 4

/-- Breaker codes (section 1.7). -/
def breakerCode : Breaker → Nat
  | .opn => 0
  | .closed => 1

/-- Engine codes (section 1.7). -/
def engineCode : Engine → Nat
  | .stopped => 0
  | .cranking => 1
  | .running => 2
  | .faulted => 3

/-- Selector codes (section 1.7). -/
def selectorCode : Selector → Nat
  | .remote => 0
  | .localPanel => 1

/-- Unit kind codes (section 1.7, R35). -/
def kindCode : UnitKind → Nat
  | .noUnit => 0
  | .genset => 1
  | .pv => 2
  | .storage => 3
  | .feeder => 4
  | .meter => 5

/-- The unit kind of a code, or none for an undefined code. -/
def kindOfCode : Nat → Option UnitKind
  | 0 => some .noUnit
  | 1 => some .genset
  | 2 => some .pv
  | 3 => some .storage
  | 4 => some .feeder
  | 5 => some .meter
  | _ => none

/-- Why the Transactor refuses an order request (R66). -/
inductive Refuse where
  | wrongMode
  | notPermitted
  | held
  | noCredit
  | noSlot
  deriving DecidableEq, Repr, Inhabited

/-- The Transactor's answer to an order request (R66). -/
inductive Answer where
  | created (slot : SlotNo)
  | coalesced (slot : SlotNo)
  | refused (why : Refuse)
  deriving DecidableEq, Repr, Inhabited

/-- The cause a removal unsent carries (R73). -/
inductive UnsentCause where
  | withdrawn
  | cancelled
  | discarded
  deriving DecidableEq, Repr, Inhabited

/-- How an order ended (R73). -/
inductive OrderEnd where
  | accept
  | refuse (reason : RefuseReason)
  | timedOut
  | outcomeUnknown
  | unsent (cause : UnsentCause)
  deriving DecidableEq, Repr, Inhabited

/-- The fourteen conditions (R177). -/
inductive Condition where
  | epochPrimaryLost
  | epochFreeRun
  | referenceStale
  | passOverrun
  | forwardDrop
  | queuePressure
  | slotsExhausted
  | unitUnreachable
  | reserveShort
  | curtailShortfall
  | gensetTrip
  | shedInsufficient
  | planFailed
  | addressMismatch
  deriving DecidableEq, Repr, Inhabited

/-- Condition codes (R177). -/
def Condition.code : Condition → Nat
  | .epochPrimaryLost => 0
  | .epochFreeRun => 1
  | .referenceStale => 2
  | .passOverrun => 3
  | .forwardDrop => 4
  | .queuePressure => 5
  | .slotsExhausted => 6
  | .unitUnreachable => 7
  | .reserveShort => 8
  | .curtailShortfall => 9
  | .gensetTrip => 10
  | .shedInsufficient => 11
  | .planFailed => 12
  | .addressMismatch => 13

/-- Every condition in ascending code. -/
def allConditions : List Condition :=
  [.epochPrimaryLost, .epochFreeRun, .referenceStale, .passOverrun, .forwardDrop, .queuePressure, .slotsExhausted,
   .unitUnreachable, .reserveShort, .curtailShortfall, .gensetTrip, .shedInsufficient, .planFailed, .addressMismatch]

/-- The 26 event kinds (R184). -/
inductive EventKind where
  | modeChanged
  | engineReset
  | conditionLatched
  | epochSourceChanged
  | epochJump
  | unitStale
  | unitFreshAgain
  | manualHold
  | orderRefused
  | orderTimedOut
  | ordersCancelled
  | gensetStarted
  | gensetStartFailed
  | gensetLockedOut
  | gensetStopped
  | gensetTripped
  | gensetAdopted
  | stageTripped
  | predictiveShed
  | feederRestored
  | shedFailed
  | curtailShortfall
  | busDead
  | stepDone
  | stepFailed
  | planEnded
  deriving DecidableEq, Repr, Inhabited

/-- The position of a kind in the Routing Table: its number of R184 less one. -/
def EventKind.index : EventKind → Fin 26
  | .modeChanged => 0
  | .engineReset => 1
  | .conditionLatched => 2
  | .epochSourceChanged => 3
  | .epochJump => 4
  | .unitStale => 5
  | .unitFreshAgain => 6
  | .manualHold => 7
  | .orderRefused => 8
  | .orderTimedOut => 9
  | .ordersCancelled => 10
  | .gensetStarted => 11
  | .gensetStartFailed => 12
  | .gensetLockedOut => 13
  | .gensetStopped => 14
  | .gensetTripped => 15
  | .gensetAdopted => 16
  | .stageTripped => 17
  | .predictiveShed => 18
  | .feederRestored => 19
  | .shedFailed => 20
  | .curtailShortfall => 21
  | .busDead => 22
  | .stepDone => 23
  | .stepFailed => 24
  | .planEnded => 25

/-- A kind's number, 1 to 26 (R184). -/
def EventKind.number (k : EventKind) : Nat := k.index.val + 1

/-! ## The Unit Table (chapter 3) -/

/-- A permitted-order set: any subset of the six order kinds (R36). -/
structure PermitSet where
  start    : Bool := false
  stop     : Bool := false
  setCap   : Bool := false
  clearCap : Bool := false
  opn      : Bool := false
  close    : Bool := false
  deriving DecidableEq, Repr, Inhabited

/-- Membership of a kind in a permitted-order set. -/
def PermitSet.has (p : PermitSet) : OrderKind → Bool
  | .start => p.start
  | .stop => p.stop
  | .setCap => p.setCap
  | .clearCap => p.clearCap
  | .opn => p.opn
  | .close => p.close

/-- The kind-specific configuration of a GENSET record (R38). -/
structure GensetCfg where
  meritRank    : Nat := 0
  loadLimit    : Nat := 90
  minLoad      : Nat := 30
  startTimeout : Nat := 60000
  stopTimeout  : Nat := 120000
  minRun       : Nat := 900000
  maxAttempts  : Nat := 2
  retryDelay   : Nat := 30000
  tripLimit    : Nat := 2
  deriving DecidableEq, Repr, Inhabited

/-- The kind-specific configuration of a PV record (R38). -/
structure PvCfg where
  floor : Nat := 0
  deriving DecidableEq, Repr, Inhabited

/-- The kind-specific configuration of a FEEDER record (R38). -/
structure FeederCfg where
  stage          : Nat := 0
  priority       : Nat := 255
  essential      : Bool := false
  restoreTimeout : Nat := 5000
  deriving DecidableEq, Repr, Inhabited

/-- The stored reading values of every kind, each at its initial value of R40; a record uses those of its own kind. -/
structure Values where
  output    : Int := 0
  breaker   : Breaker := .opn
  engine    : Engine := .stopped
  selector  : Selector := .remote
  available : Nat := 0
  cap       : Option Nat := none
  discharge : Nat := 0
  charge    : Nat := 0
  soc       : Nat := 0
  load      : Nat := 0
  frequency : Nat := 0
  voltage   : Nat := 0
  deriving DecidableEq, Repr, Inhabited

/-- The live fields of a record (R40). A side of none is UNKNOWN. -/
structure Live where
  freshness   : Freshness := .absent
  lastSeq     : Num16 := 0
  lastEpoch   : Num16 := 0
  lastArrival : Option Time := none
  side        : Option Port := none
  values      : Values := {}
  clampCount  : Nat := 0
  hold        : Option Time := none
  localFlag   : Bool := false
  deriving DecidableEq, Repr, Inhabited

/-- The open order of a gen-set or a feeder: its kind, its slot and its owner (R122, R141). -/
structure OpenOrder where
  kind  : OrderKind
  slot  : SlotNo
  owner : Owner
  deriving DecidableEq, Repr, Inhabited

/-- The Dispatcher's items for a GENSET record (R122); `settling` is none, START or STOP. -/
structure GensetJob where
  dispatch    : DispatchState := .stopped
  attempts    : Nat := 0
  trips       : Nat := 0
  onlineSince : Option Time := none
  retryAfter  : Option Time := none
  openOrder   : Option OpenOrder := none
  deadline    : Option Time := none
  settling    : Option OrderKind := none
  deriving DecidableEq, Repr, Inhabited

/-- The Allocator's items for a PV record (R104). -/
structure PvJob where
  commanded : Option Nat := none
  heldCap   : Option Nat := none
  setpoint  : SetpointState := .unsettled
  slot      : Option SlotNo := none
  deriving DecidableEq, Repr, Inhabited

/-- The Shed Controller's items for a FEEDER record (R141); `settling` is none, OPEN or CLOSE. -/
structure FeederJob where
  shed        : ShedState := .unknown
  restoreFail : Nat := 0
  openOrder   : Option OpenOrder := none
  deadline    : Option Time := none
  settling    : Option OrderKind := none
  deriving DecidableEq, Repr, Inhabited

/-- A unit record (R36, R38, R40, R41). Its link address is absent until a write names it, which R45 tells apart from an address
of zeros (notes/assumptions/30.md). A part of a kind other than the record's own stays at its default. The in-flight
count of R41 is not stored twice: it is counted from the Order Slots (`State.inFlight`, R64). -/
structure UnitRec where
  kind      : UnitKind := .noUnit
  link      : Option Addr := none
  zone      : Nat := 0
  rating    : Nat := 0
  interval  : Nat := 100
  stale     : Nat := 5
  credit    : Nat := 1
  permits   : PermitSet := {}
  winLow    : Nat := 0
  winHigh   : Nat := 65535
  genset    : GensetCfg := {}
  pv        : PvCfg := {}
  feeder    : FeederCfg := {}
  live      : Live := {}
  gensetJob : GensetJob := {}
  pvJob     : PvJob := {}
  feederJob : FeederJob := {}
  deriving DecidableEq, Repr, Inhabited

/-- The link address that a record holds: zeros until one is written (R36). -/
def UnitRec.linkAddr (r : UnitRec) : Addr := r.link.getD 0

/-- A record as it is read: a link address that was never written shows as zeros (R36). -/
def UnitRec.asRead (r : UnitRec) : UnitRec := { r with link := some r.linkAddr }

/-! ## Epoch Tracker (chapter 2) -/

/-- A master's record: number and arrival time of its last mark taken (R19). -/
structure MarkRec where
  number  : Num16
  arrival : Time
  deriving DecidableEq, Repr, Inhabited

/-- The Epoch Tracker's items but the timebase (R19). -/
structure Tracker where
  epoch           : Num16 := 0
  state           : EpochState := .unset
  period          : Nat := 1000
  primaryRec      : Option MarkRec := none
  secondaryRec    : Option MarkRec := none
  lossDeadline    : Option Time := none
  unsetDeadline   : Option Time := none
  freeDeadline    : Option Time := none
  primaryReturn   : Nat := 0
  secondaryReturn : Nat := 0
  passInProgress  : Bool := false
  overruns        : Nat := 0
  deriving DecidableEq, Repr, Inhabited

/-! ## Settings and Access (chapter 11) -/

/-- The Settings record, its fields in the order of R189 with the defaults of R19, R53, R60, R71, R74, R103, R105, R151,
R154, R160, R169 and R179. -/
structure Settings where
  epochMode        : EpochMode := .single
  lossCount        : Nat := 3
  returnCount      : Nat := 3
  holdTime         : Nat := 60000
  reference        : Option UnitNo := none
  backup           : Option UnitNo := none
  replyTime        : Nat := 200
  retryLimit       : Nat := 2
  fNom             : Nat := 50000
  fHigh            : Nat := 50100
  kCurt            : Nat := 2000
  rrMin            : Nat := 0
  pvRisk           : Nat := 50
  pvCredit         : Nat := 0
  rocofLimit       : Nat := 1000
  startConfirm     : Nat := 2
  startForRestore  : Bool := false
  stopMargin       : Nat := 200
  stopConfirm      : Nat := 30
  restoreMargin    : Nat := 20
  restoreFrequency : Nat := 49900
  restoreHold      : Nat := 10
  curtailEnable    : Bool := true
  releaseStep      : Nat := 50
  releaseMargin    : Nat := 100
  pickup           : Nat := 60
  restoreEnable    : Bool := true
  restoreInterval  : Nat := 10000
  blackStart       : Bool := false
  deadVoltage      : Nat := 50
  liveVoltage      : Nat := 360
  deadConfirm      : Nat := 2000
  restartLimit     : Nat := 1
  stableBand       : Nat := 200
  /-- Freeze on for REFERENCE_STALE 2, EPOCH_FREE_RUN 1, GENSET_TRIP 10 and SHED_INSUFFICIENT 11 (R179). -/
  freezeMask       : BitVec 14 := 0b00110000000110#14
  deriving DecidableEq, Repr, Inhabited

/-- The Access record; none is empty (R186). -/
structure Access where
  primaryController   : Option Addr := none
  backupController    : Option Addr := none
  primaryTimeMaster   : Option Addr := none
  secondaryTimeMaster : Option Addr := none
  deriving DecidableEq, Repr, Inhabited

/-! ## Orders and queues (chapter 4) -/

/-- A set of ports. -/
structure PortSet where
  pa : Bool := false
  pb : Bool := false
  deriving DecidableEq, Repr, Inhabited

/-- Membership of a port. -/
def PortSet.has (s : PortSet) : Port → Bool
  | .pa => s.pa
  | .pb => s.pb

/-- The set with a port put in. -/
def PortSet.insert (s : PortSet) : Port → PortSet
  | .pa => { s with pa := true }
  | .pb => { s with pb := true }

/-- The set with a port taken out. -/
def PortSet.erase (s : PortSet) : Port → PortSet
  | .pa => { s with pa := false }
  | .pb => { s with pb := false }

/-- Whether the set is empty. -/
def PortSet.isEmpty (s : PortSet) : Bool := !s.pa && !s.pb

/-- The port of a side, or both ports while it is UNKNOWN (R50, R185). -/
def PortSet.ofSide : Option Port → PortSet
  | none => { pa := true, pb := true }
  | some p => PortSet.insert {} p

/-- The sequence and epoch fixed at an item's first transmission (R15, R17). -/
structure Stamp where
  seq   : Num16
  epoch : Num16
  deriving DecidableEq, Repr, Inhabited

/-- An order in its slot (R63). `stamp` is what R17 fixes at the first transmission of the current attempt. -/
structure Order where
  target      : UnitNo
  kind        : OrderKind
  value       : Option Nat
  number      : Byte
  owner       : Owner
  cls         : QClass
  planStep    : Option (Fin 32)
  attempt     : Nat := 1
  state       : OrderState := .queued
  inTx        : PortSet := {}
  pendingPort : Option Port := none
  deadline    : Option Time := none
  stamp       : Option Stamp := none
  deriving DecidableEq, Repr, Inhabited

/-! ## Balance Engine (chapter 5) -/

/-- The grid conditions (R95). -/
inductive GridCondition where
  | normal
  | surplus
  | lean
  | short
  | dead
  deriving DecidableEq, Repr, Inhabited

/-- Grid condition codes (R95). -/
def GridCondition.code : GridCondition → Nat
  | .normal => 0
  | .surplus => 1
  | .lean => 2
  | .short => 3
  | .dead => 4

/-- The Balance Snapshot record (R101). -/
structure BalanceRec where
  epoch          : Num16 := 0
  passTime       : Time := 0
  pg             : Int := 0
  ppv            : Int := 0
  ps             : Int := 0
  pl             : Int := 0
  gen            : Int := 0
  sr             : Int := 0
  rr             : Int := 0
  rm             : Int := 0
  rmProspect     : Int := 0
  cd             : Nat := 0
  f              : Nat := 0
  fValid         : Bool := false
  meterUsed      : Option UnitNo := none
  deltaF         : Int := 0
  rocof          : Option Int := none
  condition      : GridCondition := .normal
  startWanted    : Bool := false
  startCount     : Nat := 0
  stopCandidate  : Option UnitNo := none
  rmAfter        : Option Int := none
  stopCount      : Nat := 0
  restoreNeed    : Option Nat := none
  restoreCount   : Nat := 0
  restoreAllowed : Bool := false
  deriving DecidableEq, Repr, Inhabited

/-- The pass-private copy of R86, with the epoch number and timebase value handed at the pass start (R85). -/
structure Snapshot where
  epoch    : Num16
  passTime : Time
  units    : Vector UnitRec 64
  commit   : List UnitNo
  stackTop : Option (UnitNo × Nat)
  rocof    : Option Int
  dead     : Bool
  meter    : Option UnitNo
  settings : Settings
  stage1   : Nat
  trip     : Bool
  deriving DecidableEq, Repr

/-- The Balance Engine's items (R84). The working record is a function of the copied snapshot and the carried items, so
the engine holds the snapshot while a pass is in progress. -/
structure Balance where
  published     : BalanceRec := {}
  working       : Option Snapshot := none
  startCount    : Nat := 0
  stopCount     : Nat := 0
  stopUnit      : Option UnitNo := none
  restoreCount  : Nat := 0
  restoreFeeder : Option UnitNo := none
  tripPending   : Bool := false
  deriving DecidableEq, Repr

/-! ## Allocator (chapter 6) and Dispatcher (chapter 7) block items -/

/-- The Allocator's block-level items (R104). -/
structure Allocator where
  planLimit     : Option Nat := none
  lastShortfall : Nat := 0
  deriving DecidableEq, Repr, Inhabited

/-- The Dispatcher's block-level items: the Commitment List, oldest first (R123), and start retry pending (R122). -/
structure Dispatcher where
  commit     : List UnitNo := []
  startRetry : Bool := false
  deriving DecidableEq, Repr, Inhabited

/-! ## Shed Controller (chapter 8) -/

/-- A stage of the Stages table (R146). -/
structure Stage where
  threshold  : Nat
  delay      : Nat
  hysteresis : Nat := 100
  enabled    : Bool := true
  deriving DecidableEq, Repr, Inhabited

/-- The states of a stage timer (R141). -/
inductive TimerState where
  | idle
  | timing
  | tripped
  deriving DecidableEq, Repr, Inhabited

/-- A stage timer with its optional timing start (R141). -/
structure Timer where
  state : TimerState := .idle
  since : Option Time := none
  deriving DecidableEq, Repr, Inhabited

/-- The ROCOF tracker (R141, R149). -/
structure Rocof where
  prevFrequency : Option Nat := none
  prevMeter     : Option UnitNo := none
  latest        : Option Int := none
  valueMeter    : Option UnitNo := none
  lowCount      : Nat := 0
  deriving DecidableEq, Repr, Inhabited

/-- Why a feeder was shed (R142). -/
inductive ShedCause where
  | stage (n : Fin 6)
  | rocof
  | predictive
  | manual
  | plan
  deriving DecidableEq, Repr, Inhabited

/-- Cause codes: STAGE 1 to 6, ROCOF 7, PREDICTIVE 8, MANUAL 9, PLAN 10 (R142). -/
def ShedCause.code : ShedCause → Nat
  | .stage n => n.val + 1
  | .rocof => 7
  | .predictive => 8
  | .manual => 9
  | .plan => 10

/-- An entry of the Shed Stack (R142). -/
structure StackEntry where
  feeder : UnitNo
  cause  : ShedCause
  load   : Nat
  epoch  : Num16
  deriving DecidableEq, Repr, Inhabited

/-- An entry of the pending shed list (R141). -/
structure PendingShed where
  feeder : UnitNo
  cause  : ShedCause
  deriving DecidableEq, Repr, Inhabited

/-- The predictive record (R153). -/
structure Predictive where
  amount  : Int
  covered : Int
  chosen  : List UnitNo
  failed  : List UnitNo := []
  deriving DecidableEq, Repr, Inhabited

/-- The Stages table at power-on reset (R146). -/
def defaultStages : Vector Stage 6 :=
  #v[{ threshold := 49500, delay := 200 }, { threshold := 49300, delay := 200 }, { threshold := 49100, delay := 150 },
     { threshold := 48900, delay := 100 }, { threshold := 48700, delay := 100 }, { threshold := 48500, delay := 0 }]

/-- The Shed Controller's block-level items, the stack from bottom to top, and the Stages table (R141, R146). -/
structure Shed where
  stages      : Vector Stage 6 := defaultStages
  timers      : Vector Timer 6 := Vector.replicate 6 {}
  rocof       : Rocof := {}
  stack       : List StackEntry := []
  pending     : List PendingShed := []
  predictive  : Option Predictive := none
  lastRestore : Option Time := none
  deriving DecidableEq, Repr

/-! ## Restoration Sequencer (chapter 9) -/

/-- The actions of a plan step, coded 0 to 7 (R163). -/
inductive StepAction where
  | noAction
  | openAllFeeders
  | startGenset
  | waitStable
  | closeUnit
  | closeZone
  | releasePv
  | endPlan
  deriving DecidableEq, Repr, Inhabited

/-- Action codes (R163). -/
def StepAction.code : StepAction → Nat
  | .noAction => 0
  | .openAllFeeders => 1
  | .startGenset => 2
  | .waitStable => 3
  | .closeUnit => 4
  | .closeZone => 5
  | .releasePv => 6
  | .endPlan => 7

/-- The on-fail policies, coded 0 to 2 (R163). -/
inductive Policy where
  | retry
  | skip
  | abort
  deriving DecidableEq, Repr, Inhabited

/-- Policy codes (R163). -/
def Policy.code : Policy → Nat
  | .retry => 0
  | .skip => 1
  | .abort => 2

/-- A step of the Restoration Plan (R163). -/
structure PlanStep where
  action   : StepAction := .noAction
  argument : Nat := 0
  timeout  : Nat := 60000
  policy   : Policy := .abort
  hold     : Nat := 0
  deriving DecidableEq, Repr, Inhabited

/-- The plan states, coded 0 to 3 (R164). -/
inductive PlanState where
  | notRunning
  | running
  | completed
  | aborted
  deriving DecidableEq, Repr, Inhabited

/-- The step states, coded 0 to 3 (R164). -/
inductive StepState where
  | issued
  | waiting
  | done
  | failed
  deriving DecidableEq, Repr, Inhabited

/-- Plan state codes (R164). -/
def PlanState.code : PlanState → Nat
  | .notRunning => 0
  | .running => 1
  | .completed => 2
  | .aborted => 3

/-- Step state codes (R164). -/
def StepState.code : StepState → Nat
  | .issued => 0
  | .waiting => 1
  | .done => 2
  | .failed => 3

/-- An entry of the order list: the slot (R164), with the target and kind of the order in it. -/
structure PlanOrder where
  slot   : SlotNo
  target : UnitNo
  kind   : OrderKind
  deriving DecidableEq, Repr, Inhabited

/-- The plan progress record and the Sequencer's working items (R164). The last three items are implied by R168 (the last
end of the step's START; whether the step found its gen-set on its way) and by R170 (whether the unit has ceased to read
OPEN since its CLOSE was accepted): notes/assumptions/17.md and 19.md. -/
structure Progress where
  planState      : PlanState := .notRunning
  current        : Fin 32 := 0
  stepState      : StepState := .issued
  attempt        : Nat := 1
  startTime      : Time := 0
  restarts       : Nat := 0
  endCause       : Option Nat := none
  deadline       : Option Time := none
  orders         : List PlanOrder := []
  toIssue        : List (UnitNo × OrderKind) := []
  members        : List UnitNo := []
  stableSince    : Option Time := none
  cancelPending  : Bool := false
  failCause      : Option Nat := none
  restartPending : Bool := false
  startEnd       : Option OrderEnd := none
  foundStarted   : Bool := false
  closeSeen      : Option Bool := none
  deriving DecidableEq, Repr, Inhabited

/-- The Restoration Sequencer: the plan (R163), the progress record (R164) and the dead-bus detector (R160). -/
structure Sequencer where
  plan     : Vector PlanStep 32 := Vector.replicate 32 {}
  progress : Progress := {}
  asserted : Bool := false
  lowSince : Option Time := none
  deriving DecidableEq, Repr

/-! ## Condition and Event Unit (chapter 10) -/

/-- A record of the Event Log (R180); its value is signed 32-bit, in two's complement. -/
structure EventRec where
  kind   : EventKind
  time   : Time
  epoch  : Num16
  unit   : Option UnitNo
  value  : Option (BitVec 32)
  detail : Option Nat
  deriving DecidableEq, Repr, Inhabited

/-- The destinations of the Routing Table, coded 0 to 3 (R184). -/
inductive Destination where
  | nobody
  | primary
  | backup
  | both
  deriving DecidableEq, Repr, Inhabited

/-- Destination codes (R184). -/
def Destination.code : Destination → Nat
  | .nobody => 0
  | .primary => 1
  | .backup => 2
  | .both => 3

/-- An entry of the Routing Table (R184). -/
structure Route where
  dest  : Destination := .both
  group : Fin 8
  deriving DecidableEq, Repr, Inhabited

/-- The Routing Table at power-on reset: every destination BOTH, the groups of R184. -/
def defaultRouting : Vector Route 26 :=
  #v[{ group := 0 }, { group := 0 }, { group := 1 }, { group := 2 }, { group := 2 }, { group := 3 }, { group := 3 },
     { group := 3 }, { group := 4 }, { group := 4 }, { group := 4 }, { group := 5 }, { group := 5 }, { group := 5 },
     { group := 5 }, { group := 5 }, { group := 5 }, { group := 6 }, { group := 6 }, { group := 6 }, { group := 6 },
     { group := 6 }, { group := 7 }, { group := 7 }, { group := 7 }, { group := 7 }]

/-- The Condition and Event Unit: latched flags by code (R177), the Event Log (R180), the Routing Table (R184), the
notice-group flags (yes is outstanding) and the two controller sides (R185). -/
structure Events where
  latched     : BitVec 14 := 0
  log         : Vector (Option EventRec) 32 := Vector.replicate 32 none
  writeIndex  : LogNo := 0
  overflow    : Bool := false
  routing     : Vector Route 26 := defaultRouting
  groups      : Vector Bool 8 := Vector.replicate 8 false
  primarySide : Option Port := none
  backupSide  : Option Port := none
  deriving DecidableEq, Repr

/-! ## Service responses and notices (chapters 10 and 11) -/

/-- The statuses of a service response, coded 0 to 9 (section 1.7). -/
inductive Status where
  | done
  | doneClamped
  | busy
  | badRequest
  | badTable
  | badIndex
  | badValue
  | limit
  | inUse
  | wrongMode
  deriving DecidableEq, Repr, Inhabited

/-- The reported scope of CANCEL ORDERS (R78), coded ALL 0, ZONE 1, UNIT 2, STEP_WIDENED 3 (R188). -/
inductive ReportedScope where
  | all
  | zone
  | unit
  | stepWidened
  deriving DecidableEq, Repr, Inhabited

/-- Reported scope codes (R188). -/
def ReportedScope.code : ReportedScope → Nat
  | .all => 0
  | .zone => 1
  | .unit => 2
  | .stepWidened => 3

/-- The fill levels of a queue (R80). -/
inductive Level where
  | clear
  | near
  | edge
  | full
  deriving DecidableEq, Repr, Inhabited

/-- The codes by which a unit record's enumerated items are reported: its kind and reading values (section 1.7), its dispatch
state (R122) and its shed state (R141). An item of a kind other than the record's own is at its default. -/
structure UnitCodes where
  kind     : Nat
  breaker  : Nat
  engine   : Nat
  selector : Nat
  dispatch : Nat
  shed     : Nat
  deriving DecidableEq, Repr, Inhabited

/-- A unit record's codes. -/
def UnitRec.codes (r : UnitRec) : UnitCodes where
  kind := kindCode r.kind
  breaker := breakerCode r.live.values.breaker
  engine := engineCode r.live.values.engine
  selector := selectorCode r.live.values.selector
  dispatch := r.gensetJob.dispatch.code
  shed := r.feederJob.shed.code

/-- One record as READ RECORD and WRITE RECORD return it (R189, R190), with the codes by which its enumerated items are
reported; a unit record comes with its in-flight count. -/
inductive RecordView where
  | unit (r : UnitRec) (inFlight : Nat) (codes : UnitCodes)
  | planStep (r : PlanStep) (action policy : Nat)
  | stage (r : Stage)
  | route (r : Route) (dest : Nat)
  | phase (c : QClass)
  | settings (r : Settings)
  | access (r : Access)
  deriving DecidableEq, Repr, Inhabited

/-- The epoch status of R34. -/
structure EpochStatus where
  state            : EpochState
  mode             : EpochMode
  epoch            : Num16
  period           : Nat
  overruns         : Nat
  primaryReturn    : Nat
  secondaryReturn  : Nat
  primaryArrival   : Option Time
  secondaryArrival : Option Time
  timebase         : Time
  deriving DecidableEq, Repr, Inhabited

/-- A condition as READ STATE returns it: latched flag, freeze setting and, for a held cause, its presence (R179). -/
structure ConditionView where
  latched : Bool
  freeze  : Bool
  present : Option Bool
  deriving DecidableEq, Repr, Inhabited

/-- The log status of R180. -/
structure LogStatus where
  pending      : Nat
  firstPending : Option LogNo
  writeIndex   : LogNo
  overflow     : Bool
  deriving DecidableEq, Repr, Inhabited

/-- The queues part of READ STATE (R80): entry count and level of each queue, occupied slots, slots holding non-URGENT
orders, and slots in the waiting line. -/
structure QueueStatus where
  urgent    : Nat × Level
  dispatch  : Nat × Level
  setpoint  : Nat × Level
  report    : Nat × Level
  occupied  : Nat
  nonUrgent : Nat
  waiting   : Nat
  deriving DecidableEq, Repr, Inhabited

/-- The plan progress record that READ STATE returns (R164). -/
structure ProgressView where
  planState : PlanState
  current   : Fin 32
  stepState : StepState
  attempt   : Nat
  startTime : Time
  restarts  : Nat
  endCause  : Option Nat
  failCause : Option Nat
  deriving DecidableEq, Repr, Inhabited

/-- The codes by which READ STATE reports enumerated items: the grid condition (R95), the engine mode (R188), the epoch state
(R19), the causes of the Shed Stack and of the pending shed list (R142), and the plan and step states (R164). -/
structure StateCodes where
  condition     : Nat
  mode          : Nat
  epochState    : Nat
  stackCauses   : List Nat
  pendingCauses : List Nat
  planState     : Nat
  stepState     : Nat
  deriving DecidableEq, Repr, Inhabited

/-- What READ STATE returns, in the order of R190, and the codes of its enumerated items. -/
structure StateView where
  balance       : BalanceRec
  mode          : Mode
  epoch         : EpochStatus
  conditions    : List ConditionView
  log           : LogStatus
  queues        : QueueStatus
  commit        : List UnitNo
  stack         : List StackEntry
  pending       : List PendingShed
  timers        : List TimerState
  rocof         : Option Int
  planLimit     : Option Nat
  lastShortfall : Nat
  progress      : ProgressView
  asserted      : Bool
  lowSince      : Option Time
  codes         : StateCodes
  deriving DecidableEq, Repr, Inhabited

/-- The result data of a response (R188). -/
inductive Result where
  | nothing
  | records (rs : List RecordView)
  | state (v : StateView)
  | events (es : List (Option EventRec))
  | pendingCount (n : Nat)
  | latched (flags : BitVec 14)
  | wasSet (b : Bool)
  | mode (m : Mode)
  | cancelled (scope : ReportedScope) (unsent unknown : Nat)
  | planState (p : PlanState)
  | refusal (why : Refuse)
  deriving DecidableEq, Repr, Inhabited

/-- The content of a REPORT entry: a service response or a notice. -/
inductive ReportBody where
  | response (tag : Num16) (kind : Byte) (status : Status) (result : Result)
  | notice (group : Fin 8) (slot : LogNo) (kind : EventKind)
  deriving DecidableEq, Repr, Inhabited

/-- An entry of the REPORT queue: its destination address (R15), the ports it is still owed to (R81), its stamp once first
transmitted (R17) and its content. -/
structure ReportItem where
  dst   : Addr
  ports : PortSet
  stamp : Option Stamp := none
  body  : ReportBody
  deriving DecidableEq, Repr, Inhabited

/-- The payload of a frame the part inserts. -/
inductive OutPayload where
  | order (number : Byte) (kind : OrderKind) (value : Nat)
  | report (body : ReportBody)
  deriving DecidableEq, Repr, Inhabited

/-- A frame the part inserts (R15): envelope, the common-header fields that vary, and the payload. -/
structure OutFrame where
  dst     : Addr
  src     : Addr
  unit    : Nat
  kind    : UnitKind
  seq     : Num16
  epoch   : Num16
  payload : OutPayload
  deriving DecidableEq, Repr, Inhabited

/-- The Egress Scheduler: its queues, oldest entry first (R80), the Phase Table (R82), the two phase pointers (R81), and
the REPORT place held for the response of the request being served (R187). -/
structure Egress where
  urgent   : List SlotNo := []
  dispatch : List SlotNo := []
  setpoint : List SlotNo := []
  report   : List ReportItem := []
  phases   : Vector QClass 16 :=
    #v[.dispatch, .setpoint, .dispatch, .report, .dispatch, .setpoint, .dispatch, .report,
       .dispatch, .setpoint, .dispatch, .report, .dispatch, .setpoint, .dispatch, .report]
  phasePa  : Fin 16 := 0
  phasePb  : Fin 16 := 0
  held     : Bool := false
  deriving DecidableEq, Repr

/-- The Order Transactor: the slots (R63), the waiting line, oldest first (R69), and the order counters (R65). -/
structure Transactor where
  slots    : Vector (Option Order) 12 := Vector.replicate 12 none
  waiting  : List SlotNo := []
  counters : Vector Byte 64 := Vector.replicate 64 0
  deriving DecidableEq, Repr

/-! ## Frame Path (chapter 1) -/

/-- A place of a forwarding buffer (R3): the frame that took it. Its addresses are absent until they have been received;
its bytes after the addresses are known once its reception has ended; `badEnd` is the deliberately wrong check sequence of
R8. -/
structure Place where
  receiving : Bool := true
  addrs     : Option (Addr × Addr) := none
  sending   : Bool := false
  rest      : List Byte := []
  badEnd    : Bool := false
  deriving DecidableEq, Repr, Inhabited

/-- What a port's receiver is doing: nothing; a frame lost to a full buffer (R4); a frame already cut off at 1,522 bytes on the
far port (R8); a frame whose addresses are still to come; a frame bound for forwarding, addressed to the part (R7), or a ring
return (R6), with its addresses. -/
inductive Rx where
  | idle
  | lost
  | overlong
  | head
  | forwarded (dst src : Addr)
  | consumed (src : Addr)
  | ringReturn
  deriving DecidableEq, Repr, Inhabited

/-- What a port's transmitter is doing: free; sending a forwarded frame (the one marked `sending` in the opposite port's
buffer); sending an order's copy; sending a REPORT entry. -/
inductive Tx where
  | free
  | forwarding
  | order (slot : SlotNo) (frame : OutFrame)
  | report (frame : OutFrame)
  deriving DecidableEq, Repr, Inhabited

/-- One port: its link state, its receiver, the forwarding buffer of the frames received on it in order of arrival, and
its transmitter (R2, R3, R14). -/
structure PortPath where
  up     : Bool := false
  rx     : Rx := .idle
  buffer : List Place := []
  tx     : Tx := .free
  deriving DecidableEq, Repr, Inhabited

/-- What the Frame Path hands to a consumer (R11, R12). -/
inductive Delivery where
  | reading (r : ReadingMsg)
  | mark (m : MarkMsg)
  | observed (o : ObservedMsg)
  | reply (r : ReplyMsg)
  | request (r : Request)
  deriving DecidableEq, Repr, Inhabited

/-- The station address of straps NN: 02-1B-40-00-00-NN (R1). -/
def stationOf (straps : Byte) : Addr := 0x021B40000000#48 ||| straps.setWidth 48

/-- The Frame Path: the station address (R1), the two ports, the three sequence counters (R17), and the deliveries handed
over and not yet taken by a command (the model's own bookkeeping, notes/assumptions/3.md). -/
structure FramePath where
  station     : Addr := stationOf 0
  pa          : PortPath := {}
  pb          : PortPath := {}
  seqOrder    : Num16 := 0
  seqResponse : Num16 := 0
  seqNotice   : Num16 := 0
  delivered   : List Delivery := []
  deriving DecidableEq, Repr, Inhabited

/-! ## Service Unit (chapter 11) -/

/-- The Service Unit: Access (R186), Settings, the engine mode (R191) and the Service Queue, oldest first (R187). -/
structure Service where
  access   : Access := {}
  settings : Settings := {}
  mode     : Mode := .halted
  queue    : List Request := []
  deriving DecidableEq, Repr

/-! ## Hand-offs within one step -/

/-- The four jobs. -/
inductive Job where
  | allocator
  | dispatcher
  | shed
  | sequencer
  deriving DecidableEq, Repr, Inhabited

/-- A hand-off from one block to another that is made inside a step: an order's end (R73), a slot release (R73), a pass
completion (R101), a dispatch change (R128), the cancellation notice (R78), and the Sequencer's own moving on (R165,
R173). -/
inductive Task where
  | ended (job : Job) (slot : SlotNo) (o : Order) (e : OrderEnd)
  | released (job : Job) (target : UnitNo)
  | completion (job : Job)
  | dispatchChange (u : UnitNo) (left entered : DispatchState)
  | cancelNotice
  | planAdvance
  deriving DecidableEq, Repr, Inhabited

/-- The orders the spec leaves open ("take no order among themselves"): the order of the four jobs at a hand-off to all of
them, whether the Sequencer goes before the block that shares a hand-off with it, and whether PB is served before PA. No
command changes it (notes/assumptions/4.md). -/
structure Schedule where
  jobs           : Nat := 0
  sequencerFirst : Bool := false
  pbFirst        : Bool := false
  deriving DecidableEq, Repr, Inhabited

end Sys2Proof.Machine
end

