-- ==== Sys2Proof/Config.lean ====
section
/-! DEFINITION. The bounds the spec fixes for the part, the model's own bounds on loops inside one step, and the two byte
layouts that the spec does not give, as constants with no body. -/

namespace Sys2Proof.Config

open Sys2Proof.Machine

/-- The places of a forwarding buffer (R3). -/
def bufferPlaces : Nat := 4

/-- The depths of the four queues (R80). -/
def depth : QClass → Nat
  | .urgent => 8
  | .dispatch => 8
  | .setpoint => 16
  | .report => 16

/-- The most slots that hold orders of a class other than URGENT (R64). -/
def nonUrgentSlots : Nat := 8

/-- The depth of the Service Queue (R187). -/
def serviceDepth : Nat := 16

/-- The bound of a quantity the pass stores as signed (R87). -/
def passBound : Nat := 4194240

/-- How many records of a kind the Unit Table may hold (R35). -/
def kindLimit : UnitKind → Nat
  | .noUnit => 64
  | .genset => 16
  | .pv => 32
  | .storage => 8
  | .feeder => 32
  | .meter => 4

/-- The model's bound on handovers granted at one moment: above the 48 places of the queues, each handed on two ports,
and the 12 slots of the waiting line. -/
def pumpFuel : Nat := 256

/-- The model's bound on the entries served in one service of the pending shed list. -/
def serveFuel : Nat := 256

/-- The model's bound on the hand-offs inside one step (notes/assumptions/5.md). -/
def cascadeFuel : Nat := 65536

/-- The arguments that the argument bytes of a SERVICE REQUEST of a kind spell. The spec lists the arguments (R188) and
gives no byte layout for them: a free value (notes/assumptions/2.md). -/
opaque requestArgs : Byte → List Byte → ReqArgs

/-- The bytes of a service response's result data. The spec lists the results (R188, R190) and gives no byte layout for
them: a free value (notes/assumptions/2.md). -/
opaque resultBytes : Result → List Byte

/-- The value recorded of a quantity that does not fit the signed 32-bit value of an event record (R180). The spec states none:
a free value (notes/assumptions/40.md). -/
opaque valueBeyond : Int → BitVec 32

end Sys2Proof.Config
end

