-- ==== Sys2Proof/Machine/State.lean ====
section
/-! DEFINITION. The state of the part, the reasons a step can stop, and the state right after power-on reset. -/

namespace Sys2Proof.Machine

/-- The machine stops with no fault: the spec gives every command an effect in every state, and a command that finds
nothing to act on changes nothing. The type is closed and empty (safe: no claim rests on a fault). -/
inductive Fault where
  deriving DecidableEq, Repr

/-- Why a command has no meaning. -/
inductive Refusal where
  /-- Raised by `exec` alone, for a row of the table that has no meaning yet. Safe: the model stops where the part goes on. -/
  | notModelled (mnemonic : String)
  deriving DecidableEq, Repr

/-- The whole state, by the blocks of 00_scope.md's block overview. Each unit record of `units` holds its configuration,
live and job fields. Five items are the model's own: `inReset` (RESET_N or PGOOD is low, R18), `schedule`, `agenda` (the
hand-offs of the step in hand; empty between steps), `pending` (the commands waiting, oldest first) and, in `frame`, the
deliveries not yet taken. -/
structure State where
  inReset    : Bool
  now        : Time
  frame      : FramePath
  tracker    : Tracker
  units      : Vector UnitRec 64
  lastSource : Option UnitNo
  balance    : Balance
  alloc      : Allocator
  dispatcher : Dispatcher
  shed       : Shed
  seqr       : Sequencer
  orders     : Transactor
  egress     : Egress
  events     : Events
  service    : Service
  schedule   : Schedule
  agenda     : List Task
  pending    : List Instr
  deriving DecidableEq, Repr

/-- Every item at its power-on value, with RESET_N or PGOOD low (R18, R192). -/
def State.powerOn : State where
  inReset := true
  now := 0
  frame := {}
  tracker := {}
  units := Vector.replicate 64 {}
  lastSource := none
  balance := {}
  alloc := {}
  dispatcher := {}
  shed := {}
  seqr := {}
  orders := {}
  egress := {}
  events := {}
  service := {}
  schedule := {}
  agenda := []
  pending := []

/-- The part right after power-on reset has ended (R18), with the straps at 0 and both links UP: the two inputs that the
spec leaves to the board are the model's choice (notes/assumptions/1.md). -/
def State.reset : State :=
  { State.powerOn with
    inReset := false
    frame := { pa := { up := true }, pb := { up := true } } }

end Sys2Proof.Machine
end

