-- ==== Sys2Proof/Machine/Ops.lean ====
section
/-! DEFINITION. The named operations over the state that every block shares: reading and writing records, slots and
queues, the timebase comparisons, clamping, and handing off within a step. -/

namespace Sys2Proof.Machine

/-! ## Time and clamping -/

/-- A deadline `d` is reached when (now − d) modulo 2^32 is less than 2^31 (R33). -/
def reached (now d : Time) : Bool := decide ((now - d).toNat < 2 ^ 31)

/-- The time from `t` to `now`, modulo 2^32 (R33, R51). -/
def elapsed (now t : Time) : Nat := (now - t).toNat

/-- A timebase value a duration after another (R33). -/
def after (t : Time) (ms : Nat) : Time := t + BitVec.ofNat 32 ms

/-- An optional deadline that is present and reached. -/
def dueAt (now : Time) : Option Time → Bool
  | none => false
  | some d => reached now d

/-- An optional deadline that is absent or reached. -/
def absentOrDue (now : Time) : Option Time → Bool
  | none => true
  | some d => reached now d

/-- The nearest value of a range (Conventions, "Clamping"). -/
def clampNat (lo hi n : Nat) : Nat := max lo (min hi n)

/-- The nearest value of a range of whole numbers from 0, for a signed value. -/
def clampToNat (hi : Nat) (x : Int) : Nat := (max 0 (min (hi : Int) x)).toNat

/-- The nearest value of a signed range. -/
def clampInt (lo hi x : Int) : Int := max lo (min hi x)

/-- A count raised by one and held at a bound (R30, R48, R96). -/
def bump (bound n : Nat) : Nat := min bound (n + 1)

/-- ceil(a / b) for b above 0. -/
def ceilDiv (a b : Nat) : Nat := (a + b - 1) / b

/-! ## Lists -/

/-- Every unit number, ascending. -/
def allUnits : List UnitNo := List.finRange 64

/-- Every slot number, ascending. -/
def allSlots : List SlotNo := List.finRange 12

/-- Insertion of a unit into a list kept in ascending key. -/
def insertBy (key : UnitNo → Nat) (u : UnitNo) : List UnitNo → List UnitNo
  | [] => [u]
  | v :: vs => if key v ≤ key u then v :: insertBy key u vs else u :: v :: vs

/-- Units in ascending key, units of equal key in the order they stood (ascending unit number throughout the model). -/
def sortBy (key : UnitNo → Nat) (us : List UnitNo) : List UnitNo := us.foldl (fun acc u => insertBy key u acc) []

/-- An order of the four jobs, drawn from a number; 0 gives the order in which the spec lists them (R73, R101). -/
def jobOrder (n : Nat) : List Job :=
  ((([Job.sequencer].insertIdx (n % 2) .shed).insertIdx (n / 2 % 3) .dispatcher).insertIdx (n / 6 % 4) .allocator)

/-! ## Short names -/

/-- The engine mode (R191). -/
def State.mode (s : State) : Mode := s.service.mode

/-- The Settings record. -/
def State.settings (s : State) : Settings := s.service.settings

/-- The Access record. -/
def State.access (s : State) : Access := s.service.access

/-- Now plus a duration. -/
def State.later (s : State) (ms : Nat) : Time := after s.now ms

/-! ## Unit records -/

/-- The record of a unit. -/
def State.unit (s : State) (u : UnitNo) : UnitRec := s.units.get u

/-- The state with a unit's record replaced. -/
def State.setUnit (s : State) (u : UnitNo) (r : UnitRec) : State := { s with units := s.units.set u r }

/-- The state with a unit's live fields replaced. -/
def State.setLive (s : State) (u : UnitNo) (l : Live) : State := s.setUnit u { s.unit u with live := l }

/-- The state with a gen-set's items replaced. -/
def State.setGenset (s : State) (u : UnitNo) (j : GensetJob) : State := s.setUnit u { s.unit u with gensetJob := j }

/-- The state with a PV unit's items replaced. -/
def State.setPv (s : State) (u : UnitNo) (j : PvJob) : State := s.setUnit u { s.unit u with pvJob := j }

/-- The state with a feeder's items replaced. -/
def State.setFeeder (s : State) (u : UnitNo) (j : FeederJob) : State := s.setUnit u { s.unit u with feederJob := j }

/-- The units of a kind, in ascending unit number. -/
def State.ofKind (s : State) (k : UnitKind) : List UnitNo := allUnits.filter fun u => (s.unit u).kind == k

/-- FRESH or HELD: heard recently enough to be trusted (R52). -/
def Live.heard (l : Live) : Bool := l.freshness == .fresh || l.freshness == .held

/-- A manual hold is current while its deadline is present and not yet reached (R60). -/
def UnitRec.holdCurrent (r : UnitRec) (now : Time) : Bool :=
  match r.live.hold with
  | none => false
  | some d => !reached now d

/-- A unit reads CLOSED when it is FRESH or HELD with its stored breaker CLOSED (R161, R167). -/
def UnitRec.readsClosed (r : UnitRec) : Bool := r.live.heard && r.live.values.breaker == .closed

/-- A unit reads OPEN when it is FRESH or HELD with its stored breaker OPEN (R167). -/
def UnitRec.readsOpen (r : UnitRec) : Bool := r.live.heard && r.live.values.breaker == .opn

/-- A feeder's load as the Shed Controller counts it: the stored load, or the rating when the feeder is STALE or ABSENT
(R142, R152). -/
def UnitRec.shedLoad (r : UnitRec) : Nat := if r.live.heard then r.live.values.load else r.rating

/-- The meter in use among unit records: the reference when usable, else the backup when usable, else none (R53). -/
def meterInUse (units : Vector UnitRec 64) (st : Settings) : Option UnitNo :=
  let usable (m : Option UnitNo) : Option UnitNo :=
    m.filter fun u => (units.get u).kind == .meter && (units.get u).live.heard
  (usable st.reference).orElse fun _ => usable st.backup

/-! ## Order Slots (R63, R64) -/

/-- The order in a slot. -/
def State.slot (s : State) (i : SlotNo) : Option Order := s.orders.slots.get i

/-- The state with a slot's content replaced. -/
def State.setSlot (s : State) (i : SlotNo) (o : Option Order) : State :=
  { s with orders := { s.orders with slots := s.orders.slots.set i o } }

/-- The occupied slots, ascending. -/
def State.occupied (s : State) : List SlotNo := allSlots.filter fun i => (s.slot i).isSome

/-- The in-flight count of a unit: the occupied slots that target it (R41, R64). -/
def State.inFlight (s : State) (u : UnitNo) : Nat :=
  (allSlots.filter fun i => (s.slot i).any fun o => o.target == u).length

/-- The occupied slots whose orders are of a class other than URGENT (R64). -/
def State.nonUrgent (s : State) : Nat :=
  (allSlots.filter fun i => (s.slot i).any fun o => o.cls != .urgent).length

/-- The lowest-numbered free slot (R63). -/
def State.freeSlot (s : State) : Option SlotNo := allSlots.find? fun i => (s.slot i).isNone

/-! ## Queues (R80) -/

/-- The slots in an order queue; REPORT holds none. -/
def State.queue (s : State) : QClass → List SlotNo
  | .urgent => s.egress.urgent
  | .dispatch => s.egress.dispatch
  | .setpoint => s.egress.setpoint
  | .report => []

/-- The state with an order queue replaced. -/
def State.setQueue (s : State) (c : QClass) (q : List SlotNo) : State :=
  match c with
  | .urgent => { s with egress := { s.egress with urgent := q } }
  | .dispatch => { s with egress := { s.egress with dispatch := q } }
  | .setpoint => { s with egress := { s.egress with setpoint := q } }
  | .report => s

/-- The entry count of a queue. -/
def State.fill (s : State) : QClass → Nat
  | .report => s.egress.report.length
  | c => (s.queue c).length

/-- A slot taken out of every order queue and of the waiting line. -/
def State.dequeue (s : State) (i : SlotNo) : State :=
  { s with
    egress := { s.egress with
      urgent := s.egress.urgent.filter (· != i)
      dispatch := s.egress.dispatch.filter (· != i)
      setpoint := s.egress.setpoint.filter (· != i) }
    orders := { s.orders with waiting := s.orders.waiting.filter (· != i) } }

/-- An order whose current attempt has had no copy handed to a port: it stands in its queue and owes no second copy
(R70, R75). -/
def State.unhanded (s : State) (i : SlotNo) (o : Order) : Bool :=
  o.state == .queued && o.pendingPort.isNone && (s.queue o.cls).contains i

/-! ## Ports -/

/-- A port of the Frame Path. -/
def State.port (s : State) : Port → PortPath
  | .pa => s.frame.pa
  | .pb => s.frame.pb

/-- The state with a port replaced. -/
def State.setPort (s : State) (p : Port) (q : PortPath) : State :=
  match p with
  | .pa => { s with frame := { s.frame with pa := q } }
  | .pb => { s with frame := { s.frame with pb := q } }

/-- The phase pointer of a port (R81). -/
def State.phase (s : State) : Port → Fin 16
  | .pa => s.egress.phasePa
  | .pb => s.egress.phasePb

/-- The state with a port's phase pointer replaced. -/
def State.setPhase (s : State) (p : Port) (x : Fin 16) : State :=
  match p with
  | .pa => { s with egress := { s.egress with phasePa := x } }
  | .pb => { s with egress := { s.egress with phasePb := x } }

/-- The two ports in the order in which they are served when both could be. -/
def State.portOrder (s : State) : List Port := if s.schedule.pbFirst then [.pb, .pa] else [.pa, .pb]

/-! ## The plan and the hand-offs of a step -/

/-- The plan progress record. -/
def State.progress (s : State) : Progress := s.seqr.progress

/-- The state with the plan progress record replaced. -/
def State.setProgress (s : State) (p : Progress) : State := { s with seqr := { s.seqr with progress := p } }

/-- The Restoration Plan is RUNNING (R164). -/
def State.planRunning (s : State) : Bool := s.progress.planState == .running

/-- The state with a hand-off put behind those the present handler has made. -/
def State.defer (s : State) (t : Task) : State := { s with agenda := s.agenda ++ [t] }

/-- The state with several hand-offs made in order. -/
def State.deferAll (s : State) (ts : List Task) : State := { s with agenda := s.agenda ++ ts }

/-- The slot releases of a freed slot, one to each job (R73). -/
def State.releasesOf (s : State) (target : UnitNo) : List Task :=
  (jobOrder s.schedule.jobs).map fun j => .released j target

end Sys2Proof.Machine
end

