-- ==== Sys2Proof/Machine/Egress.lean ====
section
/-! DEFINITION. The Egress Scheduler and insertion: eligibility (R70, R81), the handover of an item to a port (R15, R70,
R17), the report that a copy is complete (R71), the waiting line (R69), and the granting of open opportunities to items
that could leave at once (R14). -/

namespace Sys2Proof.Machine

/-! ## What a port may be handed -/

/-- An order entry is eligible for a port: while it owes a second copy, for its pending port alone; else by its target's
side (R70). -/
def orderEligible (s : State) (p : Port) (i : SlotNo) : Bool :=
  match s.slot i with
  | none => false
  | some o =>
    match o.pendingPort with
    | some q => p == q
    | none =>
      match (s.unit o.target).live.side with
      | none => true
      | some q => p == q

/-- The oldest order entry of a class that is eligible for a port (R81). -/
def firstOrder (s : State) (p : Port) (c : QClass) : Option SlotNo := (s.queue c).find? (orderEligible s p)

/-- The position of the oldest REPORT entry still owed to a port (R81). -/
def firstReport (s : State) (p : Port) : Option Nat := s.egress.report.findIdx? fun r => r.ports.has p

/-- An item the scheduler can hand over. -/
inductive Item where
  | order (slot : SlotNo)
  | report (position : Nat)
  deriving DecidableEq, Repr

/-- The item a class has for a port, if any (R81). -/
def itemOf (s : State) (p : Port) : QClass → Option Item
  | .report => (firstReport s p).map .report
  | c => (firstOrder s p c).map .order

/-- The positions of the Phase Table from a pointer onward, wrapping from 15 to 0 (R81). -/
def positionsFrom (x : Fin 16) : List (Fin 16) := (List.finRange 16).map fun k => x + k

/-- The choice at an open opportunity when URGENT has no item: the first position from the port's pointer whose class has
an item, with the pointer it leaves (R81). -/
def phaseChoice (s : State) (p : Port) : Option (Item × Fin 16) :=
  (positionsFrom (s.phase p)).findSome? fun x => (itemOf s p (s.egress.phases.get x)).map fun i => (i, x + 1)

/-! ## Building the inserted frame (R15, R17) -/

/-- The frame of an order. -/
def orderFrame (s : State) (o : Order) (st : Stamp) : OutFrame where
  dst := (s.unit o.target).linkAddr
  src := s.frame.station
  unit := o.target.val
  kind := (s.unit o.target).kind
  seq := st.seq
  epoch := st.epoch
  payload := .order o.number o.kind (o.value.getD 0)

/-- The frame of a service response or a notice: unit number 255 and unit kind 0 (R17). -/
def reportFrame (s : State) (r : ReportItem) (st : Stamp) : OutFrame where
  dst := r.dst
  src := s.frame.station
  unit := 255
  kind := .noUnit
  seq := st.seq
  epoch := st.epoch
  payload := .report r.body

/-- The state and stamp after an order's transmission: the first of an attempt takes the next ORDER sequence and E, a
second copy repeats them (R17). -/
def stampOrder (s : State) (o : Order) : State × Stamp :=
  match o.stamp with
  | some st => (s, st)
  | none =>
    let q := s.frame.seqOrder + 1
    ({ s with frame := { s.frame with seqOrder := q } }, { seq := q, epoch := s.tracker.epoch })

/-- The state and stamp after a REPORT entry's transmission, by the counter of its class (R17). -/
def stampReport (s : State) (r : ReportItem) : State × Stamp :=
  match r.stamp with
  | some st => (s, st)
  | none =>
    match r.body with
    | .response .. =>
      let q := s.frame.seqResponse + 1
      ({ s with frame := { s.frame with seqResponse := q } }, { seq := q, epoch := s.tracker.epoch })
    | .notice .. =>
      let q := s.frame.seqNotice + 1
      ({ s with frame := { s.frame with seqNotice := q } }, { seq := q, epoch := s.tracker.epoch })

/-! ## Completion of a copy (R71) -/

/-- The report that a copy on a port is complete: the port leaves the in-transmission set, and a first copy makes the
order SENT with its reply deadline. A report for a slot that does not have a copy in transmission there is ignored. An order in
the waiting line that a copy of an earlier attempt makes SENT keeps its place there: the model's choice
(notes/assumptions/12.md). -/
def copyComplete (s : State) (p : Port) (i : SlotNo) : State :=
  match s.slot i with
  | none => s
  | some o =>
    if o.inTx.has p then
      let o' := { o with inTx := o.inTx.erase p }
      match o.state with
      | .sent => s.setSlot i (some o')
      | _ => s.setSlot i (some { o' with state := .sent, deadline := some (s.later s.settings.replyTime) })
    else s

/-! ## The waiting line (R69) -/

/-- A slot joins the tail of its class queue as QUEUED. -/
def joinQueue (s : State) (i : SlotNo) (o : Order) : State :=
  (s.setSlot i (some { o with state := .queued, deadline := none })).setQueue o.cls (s.queue o.cls ++ [i])

/-- The oldest waiting slot whose class queue has room. -/
def nextWaiting (s : State) : Option (SlotNo × Order) :=
  s.orders.waiting.findSome? fun i =>
    (s.slot i).bind fun o => if s.fill o.cls < Config.depth o.cls then some (i, o) else none

/-- Waiting slots join their queues while their queues have room, oldest first, at most `n` of them. -/
def refillN : Nat → State → State
  | 0, s => s
  | n + 1, s =>
    match nextWaiting s with
    | none => s
    | some (i, o) =>
      refillN n (joinQueue { s with orders := { s.orders with waiting := s.orders.waiting.filter (· != i) } } i o)

/-- Each place given up in a class queue is taken by the oldest waiting slot of that class (R69). -/
def refill (s : State) : State := refillN 12 s

/-! ## Handover -/

/-- An order is handed to a port (R70): its frame is transmitted, or discarded and reported complete at once when the port
is DOWN (R2). It stays in its queue for the other port when its side is UNKNOWN and this is the first copy. -/
def handOrder (s : State) (p : Port) (i : SlotNo) : State :=
  match s.slot i with
  | none => s
  | some o =>
    let (s, st) := stampOrder s o
    let twice := o.pendingPort.isNone && (s.unit o.target).live.side.isNone
    let o' := { o with
      stamp := some st
      inTx := o.inTx.insert p
      pendingPort := if twice then some p.other else none }
    let s := s.setSlot i (some o')
    let s := if twice then s else s.setQueue o.cls ((s.queue o.cls).filter (· != i))
    let s := if (s.port p).up then s.setPort p { s.port p with tx := .order i (orderFrame s o st) } else copyComplete s p i
    refill s

/-- A REPORT entry is handed to a port it names: it leaves its queue once it has been handed to each of them (R81, R83). On
a DOWN port it is discarded (R2). -/
def handReport (s : State) (p : Port) (k : Nat) : State :=
  match s.egress.report[k]? with
  | none => s
  | some r =>
    let (s, st) := stampReport s r
    let ports := r.ports.erase p
    let q := if ports.isEmpty then s.egress.report.eraseIdx k
      else s.egress.report.set k { r with ports := ports, stamp := some st }
    let s := { s with egress := { s.egress with report := q } }
    if (s.port p).up then s.setPort p { s.port p with tx := .report (reportFrame s r st) } else s

/-- An item is handed to a port. -/
def handItem (s : State) (p : Port) : Item → State
  | .order i => handOrder s p i
  | .report k => handReport s p k

/-- A restricted opportunity on a port: an URGENT item or nothing (R14, R81). -/
def offerRestricted (s : State) (p : Port) : Option State := (firstOrder s p .urgent).map (handOrder s p)

/-- An open opportunity on a port: URGENT first, else the Phase Table's choice, which moves the pointer (R81). -/
def offerOpen (s : State) (p : Port) : Option State :=
  match firstOrder s p .urgent with
  | some i => some (handOrder s p i)
  | none => (phaseChoice s p).map fun (i, x) => handItem (s.setPhase p x) p i

/-- A port that takes items at once: its transmitter is free, or its link is DOWN, where opportunities are offered as
though it were always free (R2, R14). -/
def portOpen (s : State) (p : Port) : Bool := !(s.port p).up || (s.port p).tx == .free

/-- One item handed to a port that takes items at once. -/
def pumpOnce (s : State) : Option State :=
  s.portOrder.findSome? fun p => if portOpen s p then offerOpen s p else none

/-- Items handed over, one after the other, at most `n` of them. -/
def pumpN : Nat → State → State
  | 0, s => s
  | n + 1, s =>
    match pumpOnce s with
    | none => s
    | some s' => pumpN n s'

/-- Every item that a free transmitter could take is granted its open opportunity at once (R14). -/
def pump (s : State) : State := pumpN Config.pumpFuel s

end Sys2Proof.Machine
end

