-- ==== Sys2Proof/Machine/Flags.lean ====
section
/-! DEFINITION. The flags of the part and what raises them: queue levels (R80), conditions and their held causes (R177,
R179), the Event Log (R180 to R183), notice-group flags and notices (R185). -/

namespace Sys2Proof.Machine

/-! ## Queue levels -/

/-- The level of a queue of a depth with n entries (R80). -/
def levelOf (depth n : Nat) : Level :=
  if n < depth - 2 then .clear else if n = depth - 2 then .near else if n = depth - 1 then .edge else .full

/-- The level of a queue. -/
def State.level (s : State) (c : QClass) : Level := levelOf (Config.depth c) (s.fill c)

/-- A queue stands at EDGE or FULL. -/
def State.pressed (s : State) (c : QClass) : Bool := s.level c == .edge || s.level c == .full

/-- The live cause of QUEUE_PRESSURE: at least one queue at EDGE or FULL (R80). -/
def queuePressure (s : State) : Bool :=
  s.pressed .urgent || s.pressed .dispatch || s.pressed .setpoint || s.pressed .report

/-! ## The Condition Set -/

/-- A condition's latched flag (R177). -/
def State.isLatched (s : State) (c : Condition) : Bool := s.events.latched.getLsbD c.code

/-- The state with a condition latched. -/
def State.latch (s : State) (c : Condition) : State :=
  { s with events := { s.events with latched := s.events.latched ||| BitVec.twoPow 14 c.code } }

/-- The live cause of REFERENCE_STALE (R54). -/
def referenceStale (s : State) : Bool :=
  match s.settings.reference with
  | none => false
  | some u => (s.unit u).kind == .meter && (s.unit u).live.freshness == .stale

/-- Whether a condition's held cause is present; none for a condition whose cause is momentary (R177). -/
def heldCause (s : State) : Condition → Option Bool
  | .epochPrimaryLost => some (s.tracker.state == .secondary)
  | .epochFreeRun => some (s.tracker.state == .freeRun)
  | .referenceStale => some (referenceStale s)
  | .queuePressure => some (queuePressure s)
  | .curtailShortfall => some (decide (0 < s.alloc.lastShortfall))
  | _ => none

/-- A condition whose freeze setting is on stands latched, which holds back every relaxing action (R179). -/
def frozen (s : State) : Bool := s.events.latched &&& s.settings.freezeMask != 0#14

/-! ## Recording -/

/-- An event written into the log, with the slot it took, or lost (R181). -/
def writeLog (s : State) (r : EventRec) : State × Option LogNo :=
  if s.events.overflow then (s, none)
  else
    let i := s.events.writeIndex
    match s.events.log.get i with
    | some _ => ({ s with events := { s.events with overflow := true } }, none)
    | none => ({ s with events := { s.events with log := s.events.log.set i (some r), writeIndex := i + 1 } }, some i)

/-- The notice addresses of a destination with their sides: the written controller addresses it names (R185). Of the two of BOTH
the primary's notice is queued first: the model's choice (notes/assumptions/45.md). -/
def noticeAddresses (s : State) (d : Destination) : List (Addr × Option Port) :=
  let primary := (s.access.primaryController.map fun a => (a, s.events.primarySide)).toList
  let backup := (s.access.backupController.map fun a => (a, s.events.backupSide)).toList
  match d with
  | .nobody => []
  | .primary => primary
  | .backup => backup
  | .both => primary ++ backup

/-- The places of REPORT that are free, the place held for the response of the request being served not counted (R187). -/
def reportFree (s : State) : Nat := Config.depth .report - (s.egress.report.length + if s.egress.held then 1 else 0)

/-- A recorded event is judged for a notice, and one is queued for each notice address (R185); both join before a free port takes
either (notes/assumptions/52.md). -/
def judgeNotice (s : State) (k : EventKind) (i : LogNo) : State :=
  let route := s.events.routing.get k.index
  let addrs := noticeAddresses s route.dest
  if addrs.isEmpty || s.events.groups.get route.group || decide (reportFree s < addrs.length) then s
  else
    let items := addrs.map fun (a, side) =>
      ({ dst := a, ports := PortSet.ofSide side, body := .notice route.group i k } : ReportItem)
    { s with
      egress := { s.egress with report := s.egress.report ++ items }
      events := { s.events with groups := s.events.groups.set route.group true } }

/-- A record's value, signed 32-bit (R180). The one value that can lie outside is an age above 2^31 − 1 ms (R51), of which the
spec states no value: a free value (notes/assumptions/40.md). -/
def eventValue (x : Int) : BitVec 32 :=
  if -2147483648 ≤ x ∧ x < 2147483648 then BitVec.ofInt 32 x else Config.valueBeyond x

/-- The record made now of an event (R180). -/
def eventNow (s : State) (k : EventKind) (unit : Option UnitNo) (value : Option Int) (detail : Option Nat) : EventRec :=
  { kind := k, time := s.now, epoch := s.tracker.epoch, unit := unit, value := value.map eventValue, detail := detail }

/-- An event recorded and its notices queued (R181, R185). -/
def recordEntry (s : State) (k : EventKind) (unit : Option UnitNo) (value : Option Int) (detail : Option Nat) : State :=
  match writeLog s (eventNow s k unit value detail) with
  | (s', none) => s'
  | (s', some i) => judgeNotice s' k i

/-- After entries joined queues: a QUEUE_PRESSURE cause that was absent before and is present now rises (R80, R177). -/
def pressureRise (before s : State) : State :=
  if !queuePressure before && queuePressure s && !s.isLatched .queuePressure then
    recordEntry (s.latch .queuePressure) .conditionLatched none none (some Condition.queuePressure.code)
  else s

/-- What follows the joining of entries: the pressure cause, then the open opportunities the entries request (R14, R80). That
all the entries of one join (the two notices of BOTH among them) stand in their queue, and the pressure is judged by them,
before a free port takes the first is the model's choice (notes/assumptions/52.md). -/
def joined (before s : State) : State := pump (pressureRise before s)

/-- An event raised by a block (R181). -/
def record (s : State) (k : EventKind) (unit : Option UnitNo) (value : Option Int) (detail : Option Nat) : State :=
  joined s (recordEntry s k unit value detail)

/-- A rising of a condition's cause: it latches an unlatched condition and records CONDITION_LATCHED (R177). -/
def rise (s : State) (c : Condition) : State :=
  if s.isLatched c then s else record (s.latch c) .conditionLatched none none (some c.code)

/-- A held cause that has become present since `before` rises (R177). -/
def riseIfNew (before s : State) (c : Condition) : State :=
  if heldCause before c != some true && heldCause s c == some true then rise s c else s

/-- An entry joins REPORT (R83). -/
def joinReport (s : State) (r : ReportItem) : State :=
  joined s { s with egress := { s.egress with report := s.egress.report ++ [r] } }

/-! ## The log status, acknowledgement and overflow -/

/-- The log slots from one onward, wrapping from 31 to 0 (R180). -/
def logFrom (i : LogNo) : List LogNo := (List.finRange 32).map fun k => i + k

/-- The number of pending slots (R180). -/
def pendingCount (s : State) : Nat := ((List.finRange 32).filter fun i => (s.events.log.get i).isSome).length

/-- The log status (R180). -/
def logStatus (s : State) : LogStatus where
  pending := pendingCount s
  firstPending := (logFrom s.events.writeIndex).find? fun i => (s.events.log.get i).isSome
  writeIndex := s.events.writeIndex
  overflow := s.events.overflow

/-- Every listed slot is emptied (R182). -/
def emptySlots (s : State) (slots : List LogNo) : State :=
  { s with events := { s.events with log := slots.foldl (fun l (i : LogNo) => l.set i none) s.events.log } }

/-- Some pending slot holds a record of a kind routed to a group (R185). -/
def groupPending (s : State) (g : Fin 8) : Bool :=
  (List.finRange 32).any fun i => (s.events.log.get i).any fun r => (s.events.routing.get r.kind.index).group == g

/-- After an acknowledgement, every outstanding group with no pending record becomes clear (R185). -/
def judgeGroups (s : State) : State :=
  { s with events := { s.events with
      groups := Vector.ofFn fun g : Fin 8 => s.events.groups.get g && groupPending s g } }

/-- CLEAR OVERFLOW on a set flag: the flag clears and the write index moves to the first empty slot from it onward (R183). -/
def clearOverflowFlag (s : State) : State :=
  let i := ((logFrom s.events.writeIndex).find? fun i => (s.events.log.get i).isNone).getD s.events.writeIndex
  { s with events := { s.events with overflow := false, writeIndex := i } }

/-- The named conditions unlatched, then those whose held cause is present latched again in ascending code, each recorded
(R178). -/
def clearConditionFlags (s : State) (mask : BitVec 14) : State :=
  let s := { s with events := { s.events with latched := s.events.latched &&& ~~~mask } }
  allConditions.foldl
    (fun s c => if mask.getLsbD c.code && heldCause s c == some true then rise s c else s) s

end Sys2Proof.Machine
end

