-- ==== Sys2Proof/Machine/Orders.lean ====
section
/-! DEFINITION. The Order Transactor (chapter 4): creating an order (R66 to R69), its ends (R72 to R75), cancellation (R77,
R78), and the discards of a mode change (R79). -/

namespace Sys2Proof.Machine

/-! ## Creating an order -/

/-- An order's class by its owner and kind (R67). -/
def orderClass (owner : Owner) (kind : OrderKind) : QClass :=
  match owner, kind with
  | .shed, .opn => .urgent
  | .shed, _ => .dispatch
  | .plan, _ => .urgent
  | .dispatch, _ => .dispatch
  | .service, _ => .dispatch
  | .curtail, _ => .setpoint

/-- SET_CAP or CLEAR_CAP. -/
def isSetpoint : OrderKind → Bool
  | .setCap => true
  | .clearCap => true
  | _ => false

/-- A slot's order can take a coalescing request: a setpoint order to the target, QUEUED at attempt 1 with no copy in
transmission and none handed (R68). -/
def canCoalesce (s : State) (target : UnitNo) (i : SlotNo) : Bool :=
  match s.slot i with
  | none => false
  | some o =>
    o.target == target && isSetpoint o.kind && o.attempt == 1 && o.inTx.isEmpty && s.unhanded i o

/-- The slot a setpoint request coalesces with, if any (R68). -/
def coalesceSlot (s : State) (target : UnitNo) (kind : OrderKind) : Option SlotNo :=
  if isSetpoint kind then allSlots.find? (canCoalesce s target) else none

/-- The checks of R66 in their order: a refusal, the slot to coalesce with, or the slot to fill. -/
def judgeRequest (s : State) (target : UnitNo) (kind : OrderKind) (owner : Owner) : Answer :=
  let r := s.unit target
  if s.mode != .active && s.mode != .restore then .refused .wrongMode
  else if !r.permits.has kind then .refused .notPermitted
  else if r.holdCurrent s.now then .refused .held
  else
    match coalesceSlot s target kind with
    | some i => .coalesced i
    | none =>
      if r.credit ≤ s.inFlight target then .refused .noCredit
      else if orderClass owner kind != .urgent && decide (Config.nonUrgentSlots ≤ s.nonUrgent) then .refused .noSlot
      else
        match s.freeSlot with
        | none => .refused .noSlot
        | some i => .created i

/-- A new order, or a retry, joins its class queue, or the waiting line when that queue is full (R69). Either way the items that
a free port could take are granted their opportunity, a waiting slot that took the retry's place among them (R14). -/
def enqueue (s : State) (i : SlotNo) (o : Order) : State :=
  if s.fill o.cls < Config.depth o.cls then joined s (joinQueue s i o)
  else
    let s := s.setSlot i (some { o with state := .waitingRetry, deadline := none })
    pump { s with orders := { s.orders with waiting := s.orders.waiting ++ [i] } }

/-- The next order number of a unit (R65). -/
def nextNumber (s : State) (u : UnitNo) : Byte := s.orders.counters.get u + 1

/-- A slot filled with a new order, which takes its unit's next number (R63, R65). -/
def fillSlot (s : State) (i : SlotNo) (target : UnitNo) (kind : OrderKind) (value : Option Nat) (owner : Owner)
    (step : Option (Fin 32)) : State :=
  let n := nextNumber s target
  let o : Order := { target := target, kind := kind, value := value, number := n, owner := owner,
                     cls := orderClass owner kind, planStep := step }
  enqueue { s with orders := { s.orders with counters := s.orders.counters.set target n } } i o

/-- A QUEUED setpoint order rewritten in place: it keeps its number, its place and its owner (R68). -/
def rewriteSlot (s : State) (i : SlotNo) (kind : OrderKind) (value : Option Nat) : State :=
  match s.slot i with
  | none => s
  | some o => s.setSlot i (some { o with kind := kind, value := value })

/-- An order request (R66): the state after the answer, and the answer. An URGENT NO_SLOT raises SLOTS_EXHAUSTED. -/
def requestOrder (s : State) (target : UnitNo) (kind : OrderKind) (value : Option Nat) (owner : Owner)
    (step : Option (Fin 32)) : State × Answer :=
  let a := judgeRequest s target kind owner
  match a with
  | .created i => (fillSlot s i target kind value owner step, a)
  | .coalesced i => (rewriteSlot s i kind value, a)
  | .refused .noSlot => (if orderClass owner kind == .urgent then rise s .slotsExhausted else s, a)
  | .refused _ => (s, a)

/-! ## Ending an order -/

/-- The blocks an order's end is handed to (R73). -/
def endReceivers (s : State) (o : Order) : List Job :=
  match o.owner with
  | .curtail => [.allocator]
  | .dispatch => [.dispatcher]
  | .shed => [.shed]
  | .service => [.shed]
  | .plan =>
    let owner := match (s.unit o.target).kind with
      | .genset => [Job.dispatcher]
      | .feeder => [Job.shed]
      | _ => []
    if s.schedule.sequencerFirst then Job.sequencer :: owner else owner ++ [Job.sequencer]

/-- The hand-offs of an order's end (R73). -/
def endTasks (s : State) (i : SlotNo) (o : Order) (e : OrderEnd) : List Task :=
  (endReceivers s o).map fun j => .ended j i o e

/-- A slot freed: it keeps none of its fields, and its queue place and its place in the waiting line are given up (R63). -/
def freeSlotAt (s : State) (i : SlotNo) : State := (s.dequeue i).setSlot i none

/-- An order's end: the slot is freed, waiting slots take the place given up, the end is handed on, and then the slot
release (R73). -/
def endOrder (s : State) (i : SlotNo) (o : Order) (e : OrderEnd) : State :=
  let s := pump (refill (freeSlotAt s i))
  s.deferAll (endTasks s i o e ++ s.releasesOf o.target)

/-- An order that can be taken back or discarded with nothing handed: QUEUED with no copy handed, or WAITING_RETRY (R75,
R77, R79). -/
def unsentYet (s : State) (i : SlotNo) (o : Order) : Bool := o.state == .waitingRetry || s.unhanded i o

/-- An order is that of an owner, a target and a kind, as a withdrawal names it (R75). -/
def Order.isOf (o : Order) (owner : Owner) (target : UnitNo) (kind : OrderKind) : Bool :=
  o.owner == owner && o.target == target && o.kind == kind

/-- A withdrawal by an owner of its order of a target and a kind, which its request filled into a slot (R75): whether it is
answered WITHDRAWN, the slot freed, or TOO_LATE. It is TOO_LATE when a copy was handed, and when the slot holds no order of that
owner, target and kind: one that has reached its end, its slot perhaps filled again. The end and the slot release are handed by
the caller. -/
def withdraw (s : State) (i : SlotNo) (owner : Owner) (target : UnitNo) (kind : OrderKind) : State × Option Order :=
  match s.slot i with
  | none => (s, none)
  | some o =>
    if o.isOf owner target kind && unsentYet s i o then (pump (refill (freeSlotAt s i)), some o) else (s, none)

/-! ## Several ends at once: cancellation and discard -/

/-- Several slots ended together, each by how its order stood before any was touched: all are freed, then waiting slots
take the places, then the ends, then `after`, then the slot releases are handed on (R73, R77, R79). -/
def endMany (s : State) (ends : List (SlotNo × Order × OrderEnd)) (afterEnds : List Task) : State :=
  let s1 := pump (refill (ends.foldl (fun s x => freeSlotAt s x.1) s))
  s1.deferAll (ends.flatMap (fun (i, o, e) => endTasks s1 i o e) ++ afterEnds ++
    ends.flatMap fun (_, o, _) => s1.releasesOf o.target)

/-- The occupied slots with their orders, ascending. -/
def occupiedOrders (s : State) : List (SlotNo × Order) := allSlots.filterMap fun i => (s.slot i).map fun o => (i, o)

/-- The orders a mode change discards, each with its end (R79). -/
def discardEnds (s : State) : List (SlotNo × Order × OrderEnd) :=
  ((occupiedOrders s).filter fun (i, o) => unsentYet s i o).map fun (i, o) => (i, o, .unsent .discarded)

/-- An owed copy is removed from its queue and is not sent (R79). The entry of a SENT order whose retry had not been handed,
made SENT by an earlier attempt's copy, is no owed copy: it stays in its queue and is transmitted: the model's choice
(notes/assumptions/49.md). -/
def dropOwed (s : State) : State :=
  (occupiedOrders s).foldl (fun s (i, o) =>
    if o.pendingPort.isSome then (s.dequeue i).setSlot i (some { o with pendingPort := none }) else s) s

/-- The discards of a mode change from ACTIVE or RESTORE to OBSERVE or HALTED (R79). -/
def discardOrders (s : State) : State :=
  let ends := discardEnds s
  endMany (dropOwed s) ends []

/-- A cancellation's scope (R77). -/
inductive Scope where
  | all
  | zone (z : Nat)
  | unit (u : UnitNo)
  deriving DecidableEq, Repr

/-- A slot's order lies in a scope (R77). -/
def inScope (s : State) (sc : Scope) (o : Order) : Bool :=
  match sc with
  | .all => true
  | .zone z => (s.unit o.target).zone == z
  | .unit u => o.target == u

/-- The slots in scope, and those that widening adds: every occupied slot whose plan step is that of a slot in scope (R78). -/
def widened (s : State) (sc : Scope) : List (SlotNo × Order) × List (SlotNo × Order) :=
  let inside := (occupiedOrders s).filter fun (_, o) => inScope s sc o
  let steps := inside.filterMap fun (_, o) => o.planStep
  let added := (occupiedOrders s).filter fun (_, o) =>
    !inScope s sc o && o.planStep.any fun k => steps.contains k
  (inside, added)

/-- How a cancelled order ends (R77). -/
def cancelEnd (s : State) (i : SlotNo) (o : Order) : OrderEnd :=
  if unsentYet s i o then .unsent .cancelled else .outcomeUnknown

/-- A cancellation's outcome: the reported scope, the slots removed unsent and those of unknown outcome (R78). -/
structure Cancelled where
  scope   : ReportedScope
  unsent  : Nat
  unknown : Nat
  deriving DecidableEq, Repr

/-- The ends of a cancellation, in ascending slot number. -/
def cancelEnds (s : State) (sc : Scope) : List (SlotNo × Order × OrderEnd) :=
  let (inside, added) := widened s sc
  ((occupiedOrders s).filter fun x => (inside ++ added).contains x).map fun (i, o) => (i, o, cancelEnd s i o)

/-- What a cancellation reports (R78). -/
def cancelReport (s : State) (sc : Scope) : Cancelled :=
  let ends := cancelEnds s sc
  let asked : ReportedScope := match sc with
    | .all => .all
    | .zone _ => .zone
    | .unit _ => .unit
  { scope := if sc != .all && !(widened s sc).2.isEmpty then .stepWidened else asked
    unsent := (ends.filter fun (_, _, e) => e == .unsent .cancelled).length
    unknown := (ends.filter fun (_, _, e) => e == .outcomeUnknown).length }

/-- CANCEL ORDERS: every slot of the widened scope is ended, and when a plan step was among them the Sequencer is told
once all are (R77, R78). -/
def cancelOrders (s : State) (sc : Scope) : State :=
  let ends := cancelEnds s sc
  let tagged := ends.any fun (_, o, _) => o.planStep.isSome
  endMany s ends (if tagged then [.cancelNotice] else [])

/-- The record of a cancellation that ended at least one slot (R77). -/
def recordCancelled (s : State) (sc : Scope) (c : Cancelled) : State :=
  if c.unsent + c.unknown = 0 then s
  else
    let unit := match sc with
      | .unit u => some u
      | _ => none
    record s .ordersCancelled unit (some ((c.unsent + c.unknown : Nat) : Int)) (some c.scope.code)

/-! ## Resets -/

/-- An engine reset frees every slot and empties the order queues and the waiting line; the counters are kept (R79). -/
def resetOrders (s : State) : State :=
  { s with
    orders := { s.orders with slots := Vector.replicate 12 none, waiting := [] }
    egress := { s.egress with urgent := [], dispatch := [], setpoint := [] } }

end Sys2Proof.Machine
end

