-- ==== Sys2Proof/Machine/Pass.lean ====
section
/-! DEFINITION. The balance pass (chapter 5): the freshness evaluation and the snapshot of a pass start (R51, R85, R86), the
stages (R87 to R95), the demand record (R96 to R100), and what completion publishes (R101). -/

namespace Sys2Proof.Machine

/-! ## The pass start -/

/-- The freshness that evaluation gives a record of an age: it only ages (R51). -/
def agedTo (r : UnitRec) (age : Nat) : Freshness :=
  match r.live.freshness with
  | .absent => .absent
  | .stale => .stale
  | .fresh =>
    if age ≤ 2 * r.interval then .fresh
    else if age ≤ r.stale * r.interval then .held
    else .stale
  | .held => if r.stale * r.interval < age then .stale else .held

/-- Evaluation of one record: one that turns STALE records UNIT_STALE with its age (R51), and raises REFERENCE_STALE when it
is the reference meter (R54). -/
def evaluateUnit (s : State) (u : UnitNo) : State :=
  let r := s.unit u
  if r.kind == .noUnit then s
  else
    match r.live.lastArrival with
    | none => s
    | some t =>
      let age := elapsed s.now t
      let found := agedTo r age
      let s' := s.setLive u { r.live with freshness := found }
      if found == .stale && r.live.freshness != .stale then
        riseIfNew s (record s' .unitStale (some u) (some (age : Int)) (some (kindCode r.kind))) .referenceStale
      else s'

/-- Every non-empty record evaluated, in ascending unit number (R51). -/
def evaluateFreshness (s : State) : State := allUnits.foldl evaluateUnit s

/-- The ROCOF value the tracker offers: its latest value while its meter is the meter in use (R149). -/
def offeredRocof (t : Rocof) (meter : Option UnitNo) : Option Int :=
  if t.valueMeter.isSome && t.valueMeter == meter then t.latest else none

/-- The snapshot of R86 for an epoch, from the state the evaluation has left. -/
def takeSnapshot (s : State) : Snapshot :=
  let meter := meterInUse s.units s.settings
  { epoch := s.tracker.epoch
    passTime := s.now
    units := s.units
    commit := s.dispatcher.commit
    stackTop := s.shed.stack.getLast?.map fun e => (e.feeder, e.load)
    rocof := offeredRocof s.shed.rocof meter
    dead := s.seqr.asserted
    meter := meter
    settings := s.settings
    stage1 := (s.shed.stages.get 0).threshold
    trip := s.balance.tripPending }

/-- The Balance Engine takes a pass start: freshness is evaluated, the snapshot is copied, and the trip-pending flag is read
and cleared (R85, R86, R97). -/
def beginPass (s : State) : State :=
  let s := evaluateFreshness s
  { s with balance := { s.balance with working := some (takeSnapshot s), tripPending := false } }

/-! ## The stages, over a snapshot's units -/

/-- A stored signed quantity of the pass (R87). -/
def clampPass (x : Int) : Int := clampInt (-(Config.passBound : Int)) Config.passBound x

/-- The sum of a term over every unit of a snapshot. -/
def sumUnits (units : Vector UnitRec 64) (f : UnitRec → Int) : Int := (allUnits.map fun u => f (units.get u)).sum

/-- A gen-set in a dispatch state. -/
def UnitRec.dispatchIs (r : UnitRec) (d : DispatchState) : Bool := r.kind == .genset && r.gensetJob.dispatch == d

/-- START_PENDING or STARTING (R92). -/
def UnitRec.isStarting (r : UnitRec) : Bool := r.dispatchIs .startPending || r.dispatchIs .starting

/-- Lim = floor(R × load limit / 100) (R89). -/
def UnitRec.lim (r : UnitRec) : Nat := r.rating * r.genset.loadLimit / 100

/-- Min = ceil(R × minimum load / 100) (R89). -/
def UnitRec.minimum (r : UnitRec) : Nat := ceilDiv (r.rating * r.genset.minLoad) 100

/-- Headroom h = max(0, Lim − max(0, P)), and 0 when the gen-set is STALE (R89). -/
def UnitRec.headroom (r : UnitRec) : Int :=
  if r.live.heard then max 0 ((r.lim : Int) - max 0 r.live.values.output) else 0

/-- The storage term of SR and of the pickup: discharge capability left over, of a heard storage unit with its breaker
CLOSED (R90, R151). -/
def UnitRec.storageReserve (r : UnitRec) : Int :=
  if r.kind == .storage && r.readsClosed then
    max 0 ((r.live.values.discharge : Int) - max 0 r.live.values.output)
  else 0

/-- The solar the part is holding back at a unit: A − P of a heard PV unit with a commanded cap (R90). -/
def UnitRec.curtailed (r : UnitRec) : Int :=
  if r.kind == .pv && r.live.heard && r.pvJob.commanded.isSome then
    max 0 ((r.live.values.available : Int) - r.live.values.output)
  else 0

/-- The output of a unit of a kind. -/
def UnitRec.outputOf (r : UnitRec) (k : UnitKind) : Int := if r.kind == k then r.live.values.output else 0

/-- PG: the output of gen-sets whose breaker reads CLOSED, whatever their dispatch state (R88). -/
def passPg (units : Vector UnitRec 64) : Int :=
  clampPass (sumUnits units fun r => if r.live.values.breaker == .closed then r.outputOf .genset else 0)

/-- PPV: the output of every PV unit (R88). -/
def passPpv (units : Vector UnitRec 64) : Int := clampPass (sumUnits units fun r => r.outputOf .pv)

/-- PS: the output of every storage unit, signed (R88). -/
def passPs (units : Vector UnitRec 64) : Int := clampPass (sumUnits units fun r => r.outputOf .storage)

/-- PL: the load of feeders whose breaker reads CLOSED (R88). -/
def passPl (units : Vector UnitRec 64) : Int :=
  clampPass (sumUnits units fun r =>
    if r.kind == .feeder && r.live.values.breaker == .closed then (r.live.values.load : Int) else 0)

/-- GEN = PG + PPV + PS (R88). -/
def passGen (units : Vector UnitRec 64) : Int := clampPass (passPg units + passPpv units + passPs units)

/-- SR: the gen-set, storage and PV credit terms (R90). -/
def passSr (units : Vector UnitRec 64) (pvCredit : Nat) : Int :=
  let gensets := sumUnits units fun r => if r.dispatchIs .online then r.headroom else 0
  let storage := sumUnits units UnitRec.storageReserve
  let credit := ((pvCredit * (sumUnits units UnitRec.curtailed).toNat / 100 : Nat) : Int)
  clampPass (gensets + storage + credit)

/-- The largest output among ONLINE gen-sets but the one left out, or 0 (R91, R98). -/
def largestOnline (units : Vector UnitRec 64) (leftOut : Option UnitNo) : Int :=
  allUnits.foldl (fun m u =>
    if (units.get u).dispatchIs .online && leftOut != some u then max m (units.get u).live.values.output else m) 0

/-- RR = max(RR_min, the largest P among ONLINE gen-sets, ceil(PPV × pv risk / 100)) (R91). -/
def passRr (units : Vector UnitRec 64) (st : Settings) (leftOut : Option UnitNo) : Int :=
  clampPass (max (max (st.rrMin : Int) (largestOnline units leftOut))
    (ceilDiv ((passPpv units).toNat * st.pvRisk) 100 : Nat))

/-- The Lim of the starts under way (R92). -/
def startingLim (units : Vector UnitRec 64) : Int := sumUnits units fun r => if r.isStarting then (r.lim : Int) else 0

/-- The minimum-load term of CD (R94). -/
def minimumLoadTerm (units : Vector UnitRec 64) : Int :=
  sumUnits units fun r => if r.dispatchIs .online then max 0 ((r.minimum : Int) - r.live.values.output) else 0

/-- CD (R94). -/
def passCd (units : Vector UnitRec 64) (st : Settings) (f : Nat) (fValid : Bool) : Nat :=
  let frequency := if fValid then (f - st.fHigh) * st.kCurt / 1000 else 0
  min Config.passBound ((minimumLoadTerm units).toNat + frequency)

/-- The grid condition: the first of the five that holds (R95). -/
def passCondition (dead fValid : Bool) (f stage1 : Nat) (rocof : Option Int) (rocofLimit : Nat) (rm : Int) (cd : Nat) :
    GridCondition :=
  if dead then .dead
  else if (fValid && decide (f < stage1)) || rocof.any (fun x => decide (x ≤ -(rocofLimit : Int))) then .short
  else if rm < 0 then .lean
  else if 0 < cd then .surplus
  else .normal

/-! ## The demand record -/

/-- A gen-set qualifies as stop candidate at the pass time (R98). -/
def stopQualifies (r : UnitRec) (passTime : Time) : Bool :=
  r.dispatchIs .online && !r.live.localFlag && !r.holdCurrent passTime && r.permits.stop &&
    match r.gensetJob.onlineSince with
    | none => false
    | some t => decide (r.genset.minRun ≤ elapsed passTime t)

/-- The stop candidate: the first entry that qualifies, from the last of the Commitment List to the first (R98). -/
def stopCandidate (sn : Snapshot) : Option UnitNo :=
  sn.commit.reverse.find? fun u => stopQualifies (sn.units.get u) sn.passTime

/-- RM_after: the margin left after stopping the candidate (R98). -/
def rmAfter (sn : Snapshot) (sr : Int) (c : UnitNo) : Int :=
  let r := sn.units.get c
  clampPass (sr - r.headroom - max 0 r.live.values.output - passRr sn.units sn.settings (some c))

/-- A count carried for one unit: raised while the same unit passes the test, restarted at 1 for another, and 0 when the
test fails (R99, R100). -/
def carryCount (holds : Bool) (unit carried : Option UnitNo) (count : Nat) : Nat × Option UnitNo :=
  if !holds || unit.isNone then (0, none)
  else if unit == carried then (bump 255 count, carried)
  else (1, unit)

/-- The restore need of a load at shed (R100). -/
def restoreNeedOf (load margin : Nat) : Nat := ceilDiv (load * (100 + margin)) 100

/-- What a pass makes of its snapshot and the engine's carried items: the record that completion publishes, and the items
carried on (R88 to R101). -/
def passResult (b : Balance) (sn : Snapshot) : Balance :=
  let st := sn.settings
  let units := sn.units
  let sr := passSr units st.pvCredit
  let rr := passRr units st none
  let rm := clampPass (sr - rr)
  let rmProspect := clampPass (rm + startingLim units)
  let fValid := sn.meter.isSome
  let f := match sn.meter with
    | some m => (units.get m).live.values.frequency
    | none => b.published.f
  let cd := passCd units st f fValid
  let condition := passCondition sn.dead fValid f sn.stage1 sn.rocof st.rocofLimit rm cd
  let need : Option Nat := sn.stackTop.map fun (_, load) => restoreNeedOf load st.restoreMargin
  let startHolds := decide (rmProspect < 0) || (st.startForRestore && need.any fun n => decide (rmProspect < (n : Int)))
  let startCount := if startHolds then bump 255 b.startCount else 0
  let candidate := stopCandidate sn
  let afterStop := candidate.map (rmAfter sn sr)
  let stopHolds := afterStop.any fun x => decide ((st.stopMargin : Int) ≤ x)
  let stop := carryCount stopHolds candidate b.stopUnit b.stopCount
  let top := sn.stackTop.map Prod.fst
  let restoreHolds := condition == .normal && fValid && decide (st.restoreFrequency ≤ f) &&
    need.any fun n => decide ((n : Int) ≤ rm)
  let restore := carryCount restoreHolds top b.restoreFeeder b.restoreCount
  { published :=
      { epoch := sn.epoch
        passTime := sn.passTime
        pg := passPg units
        ppv := passPpv units
        ps := passPs units
        pl := passPl units
        gen := passGen units
        sr := sr
        rr := rr
        rm := rm
        rmProspect := rmProspect
        cd := cd
        f := f
        fValid := fValid
        meterUsed := sn.meter
        deltaF := (f : Int) - st.fNom
        rocof := sn.rocof
        condition := condition
        startWanted := startHolds && (decide (st.startConfirm ≤ startCount) || sn.trip)
        startCount := startCount
        stopCandidate := candidate
        rmAfter := afterStop
        stopCount := stop.1
        restoreNeed := need
        restoreCount := restore.1
        restoreAllowed := decide (st.restoreHold ≤ restore.1) }
    working := none
    startCount := startCount
    stopCount := stop.1
    stopUnit := stop.2
    restoreCount := restore.1
    restoreFeeder := restore.2
    tripPending := b.tripPending }

end Sys2Proof.Machine
end

