-- ==== Sys2Proof/Machine/Allocator.lean ====
section
/-! DEFINITION. The Curtailment Allocator (chapter 6): who takes part (R106, R107), cuts (R110 to R113), releases (R114,
R115), the plan bound and the limit sweep (R116, R117), requests (R118), order ends (R119) and settling (R120). -/

namespace Sys2Proof.Machine

/-! ## Bounds and groups -/

/-- The setpoint window is enabled when its low end is no greater than its high end (R37). -/
def UnitRec.windowOn (r : UnitRec) : Bool := decide (r.winLow ≤ r.winHigh)

/-- The effective floor F: the configured floor is set aside in RESTORE (R106). -/
def UnitRec.effFloor (r : UnitRec) (mode : Mode) : Nat :=
  let low := if r.windowOn then r.winLow else 0
  if mode == .restore then low else max r.pv.floor low

/-- The ceiling C (R106). -/
def UnitRec.ceiling (r : UnitRec) : Nat := if r.windowOn then min r.rating r.winHigh else r.rating

/-- The plan bound L: present in RESTORE (R106). -/
def planBound (s : State) (r : UnitRec) : Option Nat :=
  if s.mode == .restore then s.alloc.planLimit.map fun pct => r.rating * pct / 100 else none

/-- A unit is curtailable when its window is not inverted and F ≤ C (R106). A disabled window is an inverted one (R37), though
section 6.8 takes units with disabled windows as eligible: the model's choice (notes/assumptions/33.md). -/
def UnitRec.curtailable (r : UnitRec) (mode : Mode) : Bool := r.windowOn && decide (r.effFloor mode ≤ r.ceiling)

/-- Room for an order of the Allocator's own (R107). -/
def hasRoom (s : State) (u : UnitNo) : Bool :=
  let r := s.unit u
  match r.pvJob.setpoint, r.pvJob.slot with
  | .idle, _ => decide (s.inFlight u < r.credit)
  | .ordered, some i => canCoalesce s u i
  | _, _ => false

/-- A reachable PV unit (R107). -/
def reachable (s : State) (u : UnitNo) : Bool :=
  let r := s.unit u
  r.kind == .pv && r.live.heard && !r.holdCurrent s.now && r.pvJob.setpoint != .unsettled && hasRoom s u

/-- An eligible PV unit (R107). -/
def eligible (s : State) (u : UnitNo) : Bool :=
  reachable s u && (s.unit u).permits.setCap && (s.unit u).curtailable s.mode

/-- The eligible units, in ascending unit number. -/
def eligibleUnits (s : State) : List UnitNo := allUnits.filter (eligible s)

/-! ## Proposals -/

/-- A proposed cap (R108): unchanged, a value, or absent. -/
inductive Proposal where
  | unchanged
  | value (cap : Nat)
  | clear
  deriving DecidableEq, Repr

/-- The stored output of a PV unit. -/
def pvOutput (s : State) (u : UnitNo) : Nat := (s.unit u).live.values.output.toNat

/-- The headroom h = max(0, P − F) of a unit (R110). -/
def cutHeadroom (s : State) (u : UnitNo) : Nat := pvOutput s u - (s.unit u).effFloor s.mode

/-- H: the headroom over the eligible units (R110). -/
def totalHeadroom (s : State) : Nat := ((eligibleUnits s).map (cutHeadroom s)).sum

/-- The floor share of a unit when CD is below H (R111). -/
def floorShare (s : State) (cd : Nat) (u : UnitNo) : Nat := cd * cutHeadroom s u / totalHeadroom s

/-- The remainder of the shares (R111). -/
def shareRemainder (s : State) (cd : Nat) : Nat := cd - ((eligibleUnits s).map (floorShare s cd)).sum

/-- The first r eligible units with headroom take 1 kW each of the remainder (R111). -/
def takesRemainder (s : State) (cd : Nat) (u : UnitNo) : Bool :=
  (((eligibleUnits s).filter fun v => decide (0 < cutHeadroom s v)).take (shareRemainder s cd)).contains u

/-- The allocated cut c of an eligible unit (R110, R111). -/
def allocatedCut (s : State) (cd : Nat) (u : UnitNo) : Nat :=
  if totalHeadroom s ≤ cd then cutHeadroom s u
  else floorShare s cd u + if takesRemainder s cd u then 1 else 0

/-- A cap proposed by a cut never raises the commanded cap (R112). -/
def lowering (commanded : Option Nat) (cap : Nat) : Proposal :=
  match commanded with
  | some c => if c ≤ cap then .unchanged else .value cap
  | none => .value cap

/-- What a cut proposes for a unit (R110, R112). -/
def cutProposal (s : State) (cd : Nat) (u : UnitNo) : Proposal :=
  let r := s.unit u
  if !eligible s u then .unchanged
  else if totalHeadroom s ≤ cd then lowering r.pvJob.commanded (r.effFloor s.mode)
  else
    let c := allocatedCut s cd u
    if c = 0 then .unchanged else lowering r.pvJob.commanded (min (pvOutput s u - c) r.ceiling)

/-- The release headroom: (max(0, P) − Min) over the ONLINE gen-sets, signed (R114). -/
def releaseHeadroom (s : State) : Int :=
  sumUnits s.units fun r => if r.dispatchIs .online then max 0 r.live.values.output - (r.minimum : Int) else 0

/-- The release test (R114). It reads f_high from the Settings record as it stands at the completion: the model's choice
(notes/assumptions/35.md). -/
def releaseTest (s : State) : Bool :=
  decide ((s.settings.releaseMargin : Int) ≤ releaseHeadroom s) && s.balance.published.fValid &&
    decide (s.balance.published.f < s.settings.fHigh) && !frozen s

/-- What a release proposes for a unit with a commanded cap (R115). A curtailable unit without SET_CAP permission, of which the
table has no row, is left unchanged: the model's choice (notes/assumptions/34.md). -/
def releaseFrom (s : State) (u : UnitNo) (cap : Nat) : Proposal :=
  let r := s.unit u
  let l := planBound s r
  if eligible s u then
    let t := cap + s.settings.releaseStep
    if r.rating ≤ t && r.ceiling == r.rating && l.all (fun x => decide (r.rating ≤ x)) then
      if r.permits.clearCap then .clear else .value r.rating
    else
      let bounded := match l with
        | none => min t r.ceiling
        | some x => min (min t r.ceiling) x
      .value (max (r.effFloor s.mode) bounded)
  else if r.curtailable s.mode then .unchanged
  else if s.mode == .active && r.permits.clearCap then .clear
  else .unchanged

/-- What a release proposes for a unit (R115). -/
def releaseProposal (s : State) (u : UnitNo) : Proposal :=
  match reachable s u, (s.unit u).pvJob.commanded with
  | true, some cap => releaseFrom s u cap
  | _, _ => .unchanged

/-- The target of the plan bound, T = max(F, min(C, L)) (R117). -/
def boundTarget (s : State) (u : UnitNo) : Nat :=
  let r := s.unit u
  let top := match planBound s r with
    | none => r.ceiling
    | some l => min r.ceiling l
  max (r.effFloor s.mode) top

/-- The plan bound applied to an eligible unit's proposal (R117). -/
def applyBound (s : State) (u : UnitNo) (p : Proposal) : Proposal :=
  if !eligible s u then p
  else
    let t := boundTarget s u
    match p with
    | .value c => .value (min c t)
    | .clear => .value t
    | .unchanged =>
      match (s.unit u).pvJob.commanded with
      | none => .value t
      | some c => if t < c then .value t else .unchanged

/-! ## Requests -/

/-- The Transactor's answer to a request for a proposal (R118). -/
def takeAnswer (s : State) (u : UnitNo) (cap : Option Nat) (a : Answer) : State :=
  match a with
  | .created i => s.setPv u { (s.unit u).pvJob with commanded := cap, setpoint := .ordered, slot := some i }
  | .coalesced i => s.setPv u { (s.unit u).pvJob with commanded := cap, setpoint := .ordered, slot := some i }
  | .refused _ => s

/-- A cap that differs from the commanded cap is asked for (R118). -/
def askCap (s : State) (u : UnitNo) (cap : Option Nat) : State :=
  if (s.unit u).pvJob.commanded == cap then s
  else
    let (s', a) := requestOrder s u (if cap.isSome then .setCap else .clearCap) cap .curtail none
    takeAnswer s' u cap a

/-- A unit's proposal turned into a request (R118). -/
def askProposal (s : State) (x : UnitNo × Proposal) : State :=
  match x.2 with
  | .unchanged => s
  | .value cap => askCap s x.1 (some cap)
  | .clear => askCap s x.1 none

/-- The proposals of a decision turned into requests in ascending unit number (R108). -/
def askAll (s : State) (propose : UnitNo → Proposal) : State :=
  (allUnits.map fun u => (u, propose u)).foldl askProposal s

/-! ## The decision of a completion -/

/-- The last shortfall replaced; its cause rises when it becomes present (R113). -/
def setShortfall (s : State) (n : Nat) : State := { s with alloc := { s.alloc with lastShortfall := n } }

/-- The end of a decision over `n` eligible units: an onset of a shortfall is recorded and raises its condition (R113). -/
def noteShortfall (s : State) (shortfall n : Nat) : State :=
  let onset := s.alloc.lastShortfall == 0 && decide (0 < shortfall)
  let s := setShortfall s shortfall
  if onset then rise (record s .curtailShortfall none (some (shortfall : Int)) (some n)) .curtailShortfall else s

/-- What the decision of a completion proposes, before the plan bound (R108). -/
def decisionProposal (s : State) (u : UnitNo) : Proposal :=
  if !s.settings.curtailEnable then .unchanged
  else if 0 < s.balance.published.cd then cutProposal s s.balance.published.cd u
  else if releaseTest s then releaseProposal s u
  else .unchanged

/-- The shortfall a decision leaves: that of a cut, and 0 of every other (R108, R110, R113). -/
def decisionShortfall (s : State) : Nat :=
  if s.settings.curtailEnable then s.balance.published.cd - totalHeadroom s else 0

/-- The decision of a pass completion (R108). -/
def allocatorCompletion (s : State) : State :=
  match s.mode with
  | .halted => setShortfall s 0
  | .observe => setShortfall s 0
  | .active => noteShortfall (askAll s (decisionProposal s)) (decisionShortfall s) (eligibleUnits s).length
  | .restore =>
    noteShortfall (askAll s (fun u => applyBound s u (decisionProposal s u))) (decisionShortfall s) (eligibleUnits s).length

/-! ## The plan PV limit -/

/-- The plan PV limit changed, and a limit sweep made (R116, R117). -/
def limitSweep (s : State) (pct : Nat) : State :=
  let s := { s with alloc := { s.alloc with planLimit := some pct } }
  askAll s (fun u => applyBound s u .unchanged)

/-- The plan PV limit becomes absent (R116). -/
def dropLimit (s : State) : State := { s with alloc := { s.alloc with planLimit := none } }

/-! ## Ends and settling -/

/-- A unit's items after its order ended (R119). -/
def capAfterEnd (j : PvJob) (o : Order) : OrderEnd → PvJob
  | .accept =>
    { j with heldCap := if o.kind == .clearCap then none else o.value, setpoint := .idle, slot := none }
  | .refuse _ => { j with commanded := j.heldCap, setpoint := .idle, slot := none }
  | .timedOut => { j with commanded := j.heldCap, setpoint := .idle, slot := none }
  | .unsent _ => { j with commanded := j.heldCap, setpoint := .idle, slot := none }
  | .outcomeUnknown => { j with setpoint := .unsettled, slot := none }

/-- The end of an Allocator order (R119). -/
def allocatorEnd (s : State) (o : Order) (e : OrderEnd) : State :=
  s.setPv o.target (capAfterEnd (s.unit o.target).pvJob o e)

/-- A PV reading handed to the Allocator settles an UNSETTLED unit from its present cap (R120). -/
def allocatorReading (s : State) (u : UnitNo) : State :=
  let j := (s.unit u).pvJob
  let cap := (s.unit u).live.values.cap
  if j.setpoint == .unsettled then
    s.setPv u { j with commanded := cap, heldCap := cap, setpoint := .idle }
  else s

end Sys2Proof.Machine
end

