-- ==== Sys2Proof/Machine/Dispatcher.lean ====
section
/-! DEFINITION. The Gen-Set Dispatcher (chapter 7): dispatch states and the Commitment List (R122, R123), availability and
adoption (R124, R125), starts (R126 to R132), trips (R133, R134, but for the predictive shed of Machine/Shed.lean), stops
(R135 to R138) and the release from lockout (R139). -/

namespace Sys2Proof.Machine

/-! ## Dispatch states -/

/-- The Commitment List after a gen-set enters a state: it joins at the tail, leaves, or stands where it is (R123). -/
def commitAfter (l : List UnitNo) (u : UnitNo) (d : DispatchState) : List UnitNo :=
  if d.committed then (if l.contains u then l else l ++ [u]) else l.filter (· != u)

/-- The state with the Dispatcher's block items replaced. -/
def State.setDispatcher (s : State) (d : Dispatcher) : State := { s with dispatcher := d }

/-- A gen-set enters a dispatch state: the Commitment List follows (R123), and while the plan is RUNNING the change is
handed to the Sequencer (R128). -/
def enterDispatch (s : State) (u : UnitNo) (d : DispatchState) : State :=
  let j := (s.unit u).gensetJob
  let s' := (s.setGenset u { j with dispatch := d }).setDispatcher
    { s.dispatcher with commit := commitAfter s.dispatcher.commit u d }
  if s.planRunning && j.dispatch != d then s'.defer (.dispatchChange u j.dispatch d) else s'

/-- A gen-set is unavailable: STALE or ABSENT, LOCAL, or at FAULT (R124). -/
def unavailable (r : UnitRec) : Bool := !r.live.heard || r.live.localFlag || r.live.values.engine == .faulted

/-- The availability judgement of a gen-set in STOPPED or UNAVAILABLE (R124). -/
def judgeAvailability (s : State) (u : UnitNo) : State :=
  let r := s.unit u
  if r.kind == .genset && (r.gensetJob.dispatch == .stopped || r.gensetJob.dispatch == .unavailable) then
    enterDispatch s u (if unavailable r then .unavailable else .stopped)
  else s

/-- A gen-set enters STOPPED, where availability is judged (R124). -/
def enterStopped (s : State) (u : UnitNo) : State := judgeAvailability (enterDispatch s u .stopped) u

/-- The gen-sets that are START_PENDING or STARTING, from their live dispatch states (R126). -/
def startsUnderWay (s : State) : Nat := (allUnits.filter fun u => (s.unit u).isStarting).length

/-- A gen-set reads engine RUNNING with its breaker CLOSED. -/
def runningClosed (r : UnitRec) : Bool := r.live.values.engine == .running && r.live.values.breaker == .closed

/-! ## Starting -/

/-- The candidates of a start decision, in ascending merit rank and then unit number (R126). -/
def startCandidates (s : State) : List UnitNo :=
  sortBy (fun u => (s.unit u).genset.meritRank) (allUnits.filter fun u =>
    let r := s.unit u
    r.dispatchIs .stopped && absentOrDue s.now r.gensetJob.retryAfter && !r.holdCurrent s.now && r.permits.start)

/-- A START was created for a gen-set (R126, R128). -/
def startCreated (s : State) (u : UnitNo) (i : SlotNo) (owner : Owner) : State :=
  let s := s.setGenset u { (s.unit u).gensetJob with openOrder := some ⟨.start, i, owner⟩ }
  enterDispatch s u .startPending

/-- Start retry pending set. -/
def setRetry (s : State) (b : Bool) : State := s.setDispatcher { s.dispatcher with startRetry := b }

/-- The candidates asked in order until one ends the decision; `credit` says whether an answer so far was NO_CREDIT (R126). -/
def askStarts (s : State) (credit : Bool) : List UnitNo → State
  | [] => if credit then setRetry s true else s
  | u :: us =>
    match requestOrder s u .start none .dispatch none with
    | (s', .created i) => startCreated s' u i .dispatch
    | (s', .refused .noCredit) => askStarts s' true us
    | (s', .refused .held) => askStarts s' credit us
    | (s', .refused .noSlot) => setRetry s' true
    | (s', _) => s'

/-- The start decision (R126). -/
def startDecision (s : State) : State :=
  let s := setRetry s false
  if s.balance.published.startWanted && decide (startsUnderWay s < 2) then
    match startCandidates s with
    | [] => rise s .reserveShort
    | us => askStarts s false us
  else s

/-- The Dispatcher's answer to a plan start request (R128). -/
inductive PlanStart where
  | started (slot : SlotNo)
  | running
  | inProgress
  | notGenset
  | limit
  | refused (why : Refuse)
  | inState (d : DispatchState)
  deriving DecidableEq, Repr

/-- A plan start request for a unit and a step (R128). -/
def planStartRequest (s : State) (u : UnitNo) (step : Fin 32) : State × PlanStart :=
  if (s.unit u).kind != .genset then (s, .notGenset)
  else
    match (s.unit u).gensetJob.dispatch with
    | .online => (s, .running)
    | .startPending => (s, .inProgress)
    | .starting => (s, .inProgress)
    | .stopped =>
      if 2 ≤ startsUnderWay s then (s, .limit)
      else
        match requestOrder s u .start none .plan (some step) with
        | (s', .created i) => (startCreated s' u i .plan, .started i)
        | (s', .coalesced i) => (s', .started i)
        | (s', .refused why) => (s', .refused why)
    | d => (s, .inState d)

/-- A failed attempt with its cause code (R130). -/
def failedAttempt (s : State) (u : UnitNo) (cause : Nat) : State :=
  let r := s.unit u
  let n := bump 3 r.gensetJob.attempts
  let s := s.setGenset u { r.gensetJob with
    attempts := n, retryAfter := some (s.later r.genset.retryDelay), openOrder := none, deadline := none }
  let locked := decide (r.genset.maxAttempts ≤ n)
  let s := enterDispatch s u (if locked then .lockedOut else .stopped)
  let s := record s .gensetStartFailed (some u) (some (n : Int)) (some cause)
  let s := if locked then record s .gensetLockedOut (some u) (some (n : Int)) (some 1) else s
  judgeAvailability s u

/-- A STARTING gen-set comes ONLINE (R131). -/
def startSucceeds (s : State) (u : UnitNo) : State :=
  let j := (s.unit u).gensetJob
  let s := s.setGenset u { j with onlineSince := some s.now, attempts := 0, retryAfter := none, deadline := none }
  record (enterDispatch s u .online) .gensetStarted (some u) (some ((j.attempts + 1 : Nat) : Int)) none

/-- A gen-set enters STARTING with its start timeout running (R129, R132). -/
def enterStarting (s : State) (u : UnitNo) : State :=
  let r := s.unit u
  let s := s.setGenset u { r.gensetJob with deadline := some (s.later r.genset.startTimeout), settling := none }
  enterDispatch s u .starting

/-- A gen-set reading in STARTING (R131). -/
def startingReading (s : State) (u : UnitNo) : State :=
  if runningClosed (s.unit u) then startSucceeds s u
  else if (s.unit u).live.values.engine == .faulted then failedAttempt s u 4
  else s

/-- The end of a START order at a START_PENDING gen-set (R129). -/
def startOrderEnd (s : State) (u : UnitNo) (e : OrderEnd) : State :=
  let s := s.setGenset u { (s.unit u).gensetJob with openOrder := none }
  match e with
  | .accept =>
    let s := enterStarting s u
    if runningClosed (s.unit u) then startSucceeds s u else s
  | .refuse _ => failedAttempt s u 1
  | .timedOut => failedAttempt s u 2
  | .unsent _ => enterStopped s u
  | .outcomeUnknown => s.setGenset u { (s.unit u).gensetJob with settling := some .start }

/-- The first reading of a gen-set whose START's outcome is unknown (R132). DESIGN CHOICE: R132 leaves retry-after unchanged in every
settling case and has RUNNING with CLOSED taken under R131, which clears it and attempts; R131 is applied in full, so that reading
does clear both (notes/assumptions/53.md). -/
def startSettling (s : State) (u : UnitNo) : State :=
  match (s.unit u).live.values.engine with
  | .cranking => startingReading (enterStarting s u) u
  | .running => startingReading (enterStarting s u) u
  | _ => enterStopped (s.setGenset u { (s.unit u).gensetJob with settling := none }) u

/-! ## Stopping -/

/-- A gen-set enters STOPPING with its stop timeout running (R133, R136). -/
def enterStopping (s : State) (u : UnitNo) : State :=
  let r := s.unit u
  let s := s.setGenset u { r.gensetJob with deadline := some (s.later r.genset.stopTimeout), settling := none }
  enterDispatch s u .stopping

/-- The end of a stop, by its detail code: 1 and 2 to STOPPED, 3 back to ONLINE (R137). -/
def stopEnds (s : State) (u : UnitNo) (detail : Nat) : State :=
  let r := s.unit u
  let output := r.live.values.output
  if detail = 3 then
    let s := s.setGenset u { r.gensetJob with deadline := none }
    record (enterDispatch s u .online) .gensetStopped (some u) (some output) (some 3)
  else
    let s := s.setGenset u { r.gensetJob with deadline := none, onlineSince := none, settling := none }
    judgeAvailability (record (enterDispatch s u .stopped) .gensetStopped (some u) (some output) (some detail)) u

/-- The end of a STOP order (R136); an end that finds the gen-set in another state than STOP_PENDING only clears the open
order (R137). -/
def stopOrderEnd (s : State) (u : UnitNo) (e : OrderEnd) : State :=
  let s := s.setGenset u { (s.unit u).gensetJob with openOrder := none }
  if (s.unit u).gensetJob.dispatch != .stopPending then s
  else
    match e with
    | .accept =>
      let s := enterStopping s u
      if (s.unit u).live.values.engine == .stopped then stopEnds s u 1 else s
    | .outcomeUnknown => s.setGenset u { (s.unit u).gensetJob with settling := some .stop }
    | _ => enterDispatch s u .online

/-- The end of an order handed to the Dispatcher, whose slot its gen-set's open order names (R129, R136). An end of any other slot
has no effect: the model's choice (notes/assumptions/37.md). -/
def dispatcherEnd (s : State) (i : SlotNo) (o : Order) (e : OrderEnd) : State :=
  let u := o.target
  match (s.unit u).gensetJob.openOrder with
  | none => s
  | some x =>
    if x.slot != i then s
    else if x.kind == .start then
      if (s.unit u).gensetJob.dispatch == .startPending then startOrderEnd s u e
      else s.setGenset u { (s.unit u).gensetJob with openOrder := none }
    else stopOrderEnd s u e

/-- The Dispatcher withdraws its STOP of a gen-set (R75): whether it was answered WITHDRAWN. The removal unsent returns the
gen-set to ONLINE (R136), and the slot release is announced. -/
def withdrawStop (s : State) (u : UnitNo) : State × Bool :=
  match (s.unit u).gensetJob.openOrder with
  | none => (s, false)
  | some x =>
    match withdraw s x.slot .dispatch u .stop with
    | (s', none) => (s', false)
    | (s', some _) =>
      let s' := stopOrderEnd s' u (.unsent .withdrawn)
      (s'.deferAll (s'.releasesOf u), true)

/-- A gen-set that is STOP_PENDING with an open STOP. -/
def stopOpen (r : UnitRec) : Bool :=
  r.dispatchIs .stopPending && r.gensetJob.openOrder.any fun x => x.kind == .stop

/-- A push onto the Shed Stack is announced: the Dispatcher withdraws every open STOP of a STOP_PENDING gen-set (R138). -/
def pushAnnounced (s : State) : State :=
  allUnits.foldl (fun s u => if stopOpen (s.unit u) then (withdrawStop s u).1 else s) s

/-- The stop decision's checks on the candidate and the island (R135). Stop confirm is the setting that stands at the decision, not
the value the pass copied: the model's reading (notes/assumptions/47.md). -/
def stopGates (s : State) (c : UnitNo) : Bool :=
  let r := s.unit c
  decide (s.settings.stopConfirm ≤ s.balance.published.stopCount) &&
    r.dispatchIs .online && !r.live.localFlag && !r.holdCurrent s.now && r.permits.stop &&
    s.shed.stack.isEmpty && !frozen s && startsUnderWay s == 0 &&
    allUnits.any fun u => u != c && (s.unit u).dispatchIs .online

/-- The stop decision (R135). -/
def stopDecision (s : State) : State :=
  match s.balance.published.stopCandidate with
  | none => s
  | some c =>
    if !stopGates s c then s
    else
      match requestOrder s c .stop none .dispatch none with
      | (s', .created i) =>
        enterDispatch (s'.setGenset c { (s'.unit c).gensetJob with openOrder := some ⟨.stop, i, .dispatch⟩ }) c .stopPending
      | (s', _) => s'

/-- A pass completion at the Dispatcher: availability (R124), then in ACTIVE the start and the stop decision (R126, R135). The
start decision comes first: the model's choice (notes/assumptions/36.md). -/
def dispatcherCompletion (s : State) : State :=
  let s := allUnits.foldl judgeAvailability s
  if s.mode == .active then stopDecision (startDecision s) else s

/-- A slot release at the Dispatcher (R127). -/
def dispatcherRelease (s : State) : State :=
  if s.dispatcher.startRetry && s.mode == .active then startDecision s else s

/-! ## Running gen-sets -/

/-- Adoption of a gen-set found running (R125). -/
def adopt (s : State) (u : UnitNo) : State :=
  let r := s.unit u
  let s := s.setGenset u { r.gensetJob with onlineSince := some s.now, attempts := 0, retryAfter := none }
  record (enterDispatch s u .online) .gensetAdopted (some u) (some r.live.values.output)
    (some r.gensetJob.dispatch.code)

/-- The steps 1 to 4 of a trip (R134): the counts, the state left, the records and the availability judgement. -/
def tripState (s : State) (u : UnitNo) (lost : Int) : State :=
  let r := s.unit u
  let n := bump 5 r.gensetJob.trips
  let s := s.setGenset u { r.gensetJob with trips := n, onlineSince := none }
  let locked := decide (r.genset.tripLimit ≤ n)
  let s := enterDispatch s u (if locked then .lockedOut else .stopped)
  let s := record s .gensetTripped (some u) (some lost) (some n)
  let s := if locked then record s .gensetLockedOut (some u) (some (n : Int)) (some 2) else s
  judgeAvailability s u

/-- The trip report to the Balance Engine (R97). -/
def tripReport (s : State) : State := { s with balance := { s.balance with tripPending := true } }

/-! ## Lockout, mode changes and resets -/

/-- RESET LOCKOUT's effect on a gen-set in LOCKED_OUT, STOPPED or UNAVAILABLE (R139). -/
def releaseLockout (s : State) (u : UnitNo) : State :=
  let j := (s.unit u).gensetJob
  let s := s.setGenset u { j with attempts := 0, trips := 0, retryAfter := none }
  if j.dispatch == .lockedOut then enterStopped s u else judgeAvailability s u

end Sys2Proof.Machine
end

