-- ==== Sys2Proof/Machine/Shed.lean ====
section
/-! DEFINITION. The Shed Controller (chapter 8): shed states and the stack (R141 to R143), opening feeders (R144, R145),
stage shedding and the ROCOF trigger (R147 to R150), predictive shedding (R151 to R153), restoration (R154, R155), release
(R156), and the plan's claims and releases (R157, R158). -/

namespace Sys2Proof.Machine

/-- The state with the Shed Controller's block items replaced. -/
def State.setShedBlock (s : State) (b : Shed) : State := { s with shed := b }

/-! ## Shed states and the stack -/

/-- A feeder stands on the Shed Stack. -/
def onStack (s : State) (u : UnitNo) : Bool := s.shed.stack.any fun e => e.feeder == u

/-- A feeder stands in the pending shed list. -/
def isPending (s : State) (u : UnitNo) : Bool := s.shed.pending.any fun e => e.feeder == u

/-- The load at shed of a feeder's stack entry, or its stored load when it is not on the stack (R143). -/
def loadAtShed (s : State) (u : UnitNo) : Nat :=
  match s.shed.stack.find? fun e => e.feeder == u with
  | some e => e.load
  | none => (s.unit u).live.values.load

/-- The predictive record after a change: a feeder stays in its list while it is pending or OPENING, and the record is
absent once the list is empty (R153). -/
def tidyPredictive (s : State) : State :=
  match s.shed.predictive with
  | none => s
  | some p =>
    let left := p.chosen.filter fun u => isPending s u || (s.unit u).feederJob.shed == .opening
    s.setShedBlock { s.shed with predictive := if left.isEmpty then none else some { p with chosen := left } }

/-- A feeder enters a shed state: it leaves the stack for CLOSED, OPEN_OTHER and OPEN_PLAN (R142), it leaves the pending
list when it leaves CLOSED (R144), and its restore-fail count is 0 in CLOSED (R143). -/
def setShed (s : State) (u : UnitNo) (x : ShedState) : State :=
  let j := (s.unit u).feederJob
  let s := s.setFeeder u { j with shed := x, restoreFail := if x == .closed then 0 else j.restoreFail }
  let gone := x == .closed || x == .openOther || x == .openPlan || x == .unknown
  tidyPredictive (s.setShedBlock { s.shed with
    stack := if gone then s.shed.stack.filter (fun e => e.feeder != u) else s.shed.stack
    pending := if x == .closed then s.shed.pending else s.shed.pending.filter (fun e => e.feeder != u) })

/-- A feeder pushed onto the stack with a cause, and the push announced (R142, R138). -/
def push (s : State) (u : UnitNo) (cause : ShedCause) : State :=
  let e : StackEntry := { feeder := u, cause := cause, load := (s.unit u).shedLoad, epoch := s.tracker.epoch }
  pushAnnounced (s.setShedBlock { s.shed with stack := s.shed.stack ++ [e] })

/-- A feeder's open order, restore deadline and settling cleared. -/
def clearFeederWork (s : State) (u : UnitNo) : State :=
  s.setFeeder u { (s.unit u).feederJob with openOrder := none, deadline := none, settling := none }

/-- The shed state that a feeder's stored breaker gives it outside the stack: CLOSED or OPEN_OTHER (R143, R145). A feeder that is
ABSENT is settled from the initial OPEN: the model's choice (notes/assumptions/32.md). -/
def stateByBreaker (s : State) (u : UnitNo) : ShedState :=
  if (s.unit u).live.values.breaker == .closed then .closed else .openOther

/-! ## Choosing feeders (R152) -/

/-- The feeders a shed may take: CLOSED, non-essential and not pending (R144). -/
def canShed (s : State) (u : UnitNo) : Bool :=
  let r := s.unit u
  r.kind == .feeder && r.feederJob.shed == .closed && !r.feeder.essential && !isPending s u

/-- Feeders in ascending priority value, those of equal priority in ascending unit number. -/
def byPriority (s : State) (us : List UnitNo) : List UnitNo := sortBy (fun u => (s.unit u).feeder.priority) us

/-- The candidates of a predictive choice, those that have failed for the record passed over (R152, R153). -/
def shedCandidates (s : State) (failed : List UnitNo) : List UnitNo :=
  byPriority s (allUnits.filter fun u => canShed s u && !failed.contains u)

/-- Candidates chosen while the covered amount is below the amount to shed, with the amount then covered (R152). -/
def chooseFeeders (s : State) (amount covered : Int) : List UnitNo → List UnitNo × Int
  | [] => ([], covered)
  | u :: us =>
    if covered < amount then
      let r := chooseFeeders s amount (covered + (s.unit u).shedLoad) us
      (u :: r.1, r.2)
    else ([], covered)

/-- Entries added to the tail of the pending shed list (R144). -/
def addPending (s : State) (us : List UnitNo) (cause : ShedCause) : State :=
  s.setShedBlock { s.shed with pending := s.shed.pending ++ us.map fun u => ⟨u, cause⟩ }

/-- A chosen feeder has failed for its record `p`: its load comes off the covered amount and candidates are chosen anew;
SHED_INSUFFICIENT rises when they run out (R153), before the list with the replacements is served: the model's choice
(notes/assumptions/50.md). A feeder that the record held does not list, as one left pending by a record
since replaced, is not replaced: the model's choice (notes/assumptions/48.md). -/
def replaceChosen (s : State) (p : Predictive) (u : UnitNo) (load : Nat) : State :=
  if !p.chosen.contains u then s
  else
    let failed := p.failed ++ [u]
    let picked := chooseFeeders s p.amount (p.covered - load) (shedCandidates s failed)
    let chosen := p.chosen.filter (· != u) ++ picked.1
    let s := addPending s picked.1 .predictive
    let s := tidyPredictive (s.setShedBlock { s.shed with
      predictive := some { amount := p.amount, covered := picked.2, chosen := chosen, failed := failed } })
    if picked.2 < p.amount then rise s .shedInsufficient else s

/-- The same for the record held, if there is one. -/
def replaceIfChosen (s : State) (record : Option Predictive) (u : UnitNo) (load : Nat) : State :=
  match record with
  | none => s
  | some p => replaceChosen s p u load

/-! ## Serving the pending shed list (R144) -/

/-- A pending entry's OPEN was created: the feeder is OPENING and on the stack. -/
def pendingOpened (s : State) (e : PendingShed) (i : SlotNo) : State :=
  let s := setShed s e.feeder .opening
  let s := s.setFeeder e.feeder { (s.unit e.feeder).feederJob with
    openOrder := some ⟨.opn, i, .shed⟩, restoreFail := 0, deadline := none, settling := none }
  push s e.feeder e.cause

/-- A pending entry was refused HELD or NOT_PERMITTED: it leaves the list, and a chosen feeder is replaced. -/
def pendingRefused (s : State) (e : PendingShed) : State :=
  let p := s.shed.predictive
  let s := tidyPredictive (s.setShedBlock { s.shed with pending := s.shed.pending.filter (fun x => x.feeder != e.feeder) })
  if e.cause == .predictive then replaceIfChosen s p e.feeder (s.unit e.feeder).shedLoad else s

/-- Every entry leaves the list. -/
def dropPending (s : State) : State := tidyPredictive (s.setShedBlock { s.shed with pending := [] })

/-- The entries from position `k` on, served in list order, at most `n` of them. -/
def serveN : Nat → Nat → State → State
  | 0, _, s => s
  | n + 1, k, s =>
    match s.shed.pending[k]? with
    | none => s
    | some e =>
      match requestOrder s e.feeder .opn none .shed none with
      | (s', .created i) => serveN n k (pendingOpened s' e i)
      | (s', .coalesced _) => serveN n (k + 1) s'
      | (s', .refused .noCredit) => serveN n (k + 1) s'
      | (s', .refused .noSlot) => s'
      | (s', .refused .wrongMode) => dropPending s'
      | (s', .refused _) => serveN n k (pendingRefused s' e)

/-- The pending shed list is served (R144). -/
def servePending (s : State) : State := serveN Config.serveFuel 0 s

/-- Feeders added to the list for a cause, and the list served. -/
def shedFeeders (s : State) (us : List UnitNo) (cause : ShedCause) : State :=
  if us.isEmpty then s else servePending (addPending s us cause)

/-! ## Ends of orders -/

/-- A shed failed: SHED_FAILED with its detail code, and a chosen feeder replaced (R145). -/
def shedFailed (s : State) (u : UnitNo) (detail : Nat) : State :=
  let load := loadAtShed s u
  let p := s.shed.predictive
  let s := setShed s u (stateByBreaker s u)
  let s := record s .shedFailed (some u) (some (load : Int)) (some detail)
  let s' := replaceIfChosen s p u load
  if s.shed.pending.length < s'.shed.pending.length then servePending s' else s'

/-- The end of an OPEN reaches an OPENING feeder, its open order already absent (R145). -/
def openEnd (s : State) (u : UnitNo) : OrderEnd → State
  | .accept => setShed s u .shed
  | .refuse _ => shedFailed s u 1
  | .timedOut => shedFailed s u 2
  | .unsent _ => setShed s u (stateByBreaker s u)
  | .outcomeUnknown => s.setFeeder u { (s.unit u).feederJob with settling := some .opn }

/-- A restored feeder (R155). -/
def restoreSucceeds (s : State) (u : UnitNo) : State :=
  let load := loadAtShed s u
  record (setShed (clearFeederWork s u) u .closed) .feederRestored (some u) (some (load : Int)) (some 1)

/-- A feeder returned from RESTORING with no failure counted: a stacked one to SHED, an essential one to OPEN_OTHER
(R155). -/
def restoreReturns (s : State) (u : UnitNo) : State :=
  setShed (clearFeederWork s u) u (if onStack s u then .shed else .openOther)

/-- A restore failure (R155). A restore-fail count that stands at 2 already, as a plan can leave it, is held there, and so the
feeder is given up: the model's choice (notes/assumptions/41.md). -/
def restoreFails (s : State) (u : UnitNo) : State :=
  if !onStack s u then restoreReturns s u
  else
    let load := loadAtShed s u
    let s := clearFeederWork s u
    let n := bump 2 (s.unit u).feederJob.restoreFail
    let s := s.setFeeder u { (s.unit u).feederJob with restoreFail := n }
    if n = 2 then record (setShed s u .openOther) .shedFailed (some u) (some (load : Int)) (some 3)
    else setShed s u .shed

/-- The end of a CLOSE reaches a RESTORING feeder, its open order already absent (R155). -/
def closeEnd (s : State) (u : UnitNo) : OrderEnd → State
  | .accept =>
    let s := s.setFeeder u { (s.unit u).feederJob with deadline := some (s.later (s.unit u).feeder.restoreTimeout) }
    if (s.unit u).live.values.breaker == .closed then restoreSucceeds s u else s
  | .refuse _ => restoreFails s u
  | .timedOut => restoreFails s u
  | .unsent _ => restoreReturns s u
  | .outcomeUnknown => s.setFeeder u { (s.unit u).feederJob with settling := some .close }

/-- The end of an order handed to the Shed Controller. It has an effect only when its slot is that of the feeder's open
order; a plan order's end has none (R145, R157). -/
def shedOrderEnd (s : State) (i : SlotNo) (o : Order) (e : OrderEnd) : State :=
  let u := o.target
  match (s.unit u).feederJob.openOrder with
  | none => s
  | some x =>
    if x.slot != i || o.owner == .plan then s
    else
      let s := s.setFeeder u { (s.unit u).feederJob with openOrder := none }
      match (s.unit u).feederJob.shed with
      | .opening => openEnd s u e
      | .restoring => closeEnd s u e
      | _ => s

/-! ## Stage shedding and the ROCOF trigger -/

/-- A frequency arrival (R55). -/
structure Arrival where
  meter         : UnitNo
  frequency     : Nat
  voltage       : Nat
  time          : Time
  interval      : Nat
  gap           : Option Nat
  sourceChanged : Bool
  deriving DecidableEq, Repr

/-- The arrival does not continue a run: its source changed, or its gap is absent. -/
def Arrival.broken (a : Arrival) : Bool := a.sourceChanged || a.gap.isNone

/-- The rate of a change of frequency over a gap, truncated toward zero (R149). -/
def rocofOf (f prev gap interval : Nat) : Int := Int.tdiv (((f : Int) - prev) * 1000) ((gap * interval : Nat) : Int)

/-- The ROCOF tracker takes an arrival (R149). -/
def takeRocof (t : Rocof) (a : Arrival) (limit : Nat) : Rocof :=
  match a.sourceChanged, a.gap, t.prevFrequency, t.prevMeter == some a.meter with
  | false, some gap, some prev, true =>
    let rate := rocofOf a.frequency prev gap a.interval
    { t with
      prevFrequency := some a.frequency
      latest := some rate
      valueMeter := some a.meter
      lowCount := if rate ≤ -(limit : Int) then bump 2 t.lowCount else 0 }
  | _, _, _, _ =>
    { t with prevFrequency := some a.frequency, prevMeter := some a.meter, latest := none, lowCount := 0 }

/-- A TIMING timer judged at an arrival (R147). -/
def judgeTiming (g : Stage) (a : Arrival) (t : Timer) : Timer :=
  if g.threshold + g.hysteresis ≤ a.frequency then {}
  else if a.broken then { state := .timing, since := some a.time }
  else
    match t.since with
    | none => { state := .timing, since := some a.time }
    | some start => if g.delay ≤ elapsed a.time start then { t with state := .tripped } else t

/-- A stage timer takes an arrival (R147); `held` says that the ROCOF low count keeps a TRIPPED stage 1 from recovering. -/
def takeTimer (g : Stage) (a : Arrival) (held : Bool) (t : Timer) : Timer :=
  match t.state with
  | .idle => if a.frequency < g.threshold then judgeTiming g a { state := .timing, since := some a.time } else t
  | .timing => judgeTiming g a t
  | .tripped => if g.threshold + g.hysteresis ≤ a.frequency && !held then {} else t

/-- The state with a stage's timer replaced. -/
def setTimer (s : State) (n : Fin 6) (t : Timer) : State := s.setShedBlock { s.shed with timers := s.shed.timers.set n t }

/-- A timer has entered TRIPPED: STAGE_TRIPPED is recorded and the stage's feeders are shed (R148). -/
def stageTripped (s : State) (n : Fin 6) (f : Nat) (detail : Nat) (cause : ShedCause) : State :=
  let s := record s .stageTripped none (some (f : Int)) (some detail)
  shedFeeders s (byPriority s (allUnits.filter fun u => canShed s u && (s.unit u).feeder.stage == n.val + 1)) cause

/-- An enabled stage takes an arrival (R147, R148). -/
def takeStage (a : Arrival) (s : State) (n : Fin 6) : State :=
  let g := s.shed.stages.get n
  if !g.enabled then s
  else
    let t := s.shed.timers.get n
    let t' := takeTimer g a (n == 0 && decide (2 ≤ s.shed.rocof.lowCount)) t
    let s := setTimer s n t'
    if t'.state == .tripped && t.state != .tripped then stageTripped s n a.frequency (n.val + 1) (.stage n) else s

/-- The ROCOF trigger (R150). -/
def takeTrigger (s : State) (a : Arrival) : State :=
  let t := s.shed.timers.get 0
  if s.shed.rocof.lowCount = 2 && (s.shed.stages.get 0).enabled && t.state != .tripped then
    stageTripped (setTimer s 0 { t with state := .tripped }) 0 a.frequency 7 .rocof
  else s

/-- A frequency arrival at the Shed Controller: tracker, stage timers, trigger (R147, R149, R150). The rocof limit is the setting that
stands at the arrival: the model's choice (notes/assumptions/47.md). The timers take it in
ascending stage number, each trip carried through before the next timer: the model's choice (notes/assumptions/39.md). -/
def shedArrival (s : State) (a : Arrival) : State :=
  let s := s.setShedBlock { s.shed with rocof := takeRocof s.shed.rocof a s.settings.rocofLimit }
  takeTrigger ((List.finRange 6).foldl (takeStage a) s) a

/-! ## Predictive shedding -/

/-- The gen-set term of FR for one unit (R151). -/
def pickupOf (pickup : Nat) (r : UnitRec) : Int :=
  if r.dispatchIs .online then ((r.headroom.toNat * pickup / 100 : Nat) : Int) else 0

/-- FR: the power the island can pick up at once (R151). -/
def pickupPower (s : State) : Int :=
  sumUnits s.units UnitRec.storageReserve + sumUnits s.units (pickupOf s.settings.pickup)

/-- The load of the feeders already OPENING or pending (R152). -/
def coveredNow (s : State) : Int :=
  let opening := allUnits.filter fun u => (s.unit u).kind == .feeder && (s.unit u).feederJob.shed == .opening
  (opening.map fun u => (loadAtShed s u : Int)).sum + (s.shed.pending.map fun e => ((s.unit e.feeder).shedLoad : Int)).sum

/-- A predictive shed request for a tripped gen-set and the power lost (R151 to R153). -/
def predictiveShed (s : State) (u : UnitNo) (lost : Int) : State :=
  let amount := clampPass (lost - pickupPower s)
  let picked := chooseFeeders s amount (coveredNow s) (shedCandidates s [])
  let s := if picked.1.isEmpty then s
    else
      let s := s.setShedBlock { s.shed with
        predictive := some { amount := amount, covered := picked.2, chosen := picked.1 } }
      shedFeeders s picked.1 .predictive
  let s := record s .predictiveShed (some u) (some amount) (some picked.1.length)
  if picked.2 < amount then rise s .shedInsufficient else s

/-! ## Feeder readings (R143) -/

/-- The first reading after an OPEN of unknown outcome (R145). -/
def settleOpening (s : State) (u : UnitNo) : State :=
  let s := s.setFeeder u { (s.unit u).feederJob with settling := none }
  setShed s u (if (s.unit u).live.values.breaker == .opn then .shed else .closed)

/-- A reading in RESTORING (R155). -/
def restoringReading (s : State) (u : UnitNo) (closes : Bool) : State :=
  let j := (s.unit u).feederJob
  if j.settling == some .close then
    if (s.unit u).live.values.breaker == .closed then restoreSucceeds s u else restoreReturns s u
  else if j.openOrder.isNone && closes then restoreSucceeds s u
  else s

/-- A feeder reading handed to the Shed Controller, with the previous breaker and freshness (R57, R143). -/
def feederReading (s : State) (u : UnitNo) (before : Breaker) (was : Freshness) : State :=
  let j := (s.unit u).feederJob
  let now := (s.unit u).live.values.breaker
  let news := was == .absent || now != before
  let opens := news && now == .opn
  let closes := news && now == .closed
  match j.shed with
  | .unknown => setShed s u (stateByBreaker s u)
  | .closed => if opens then setShed s u .openOther else s
  | .opening => if j.openOrder.isNone && j.settling == some .opn then settleOpening s u else s
  | .shed =>
    if closes then
      let load := loadAtShed s u
      record (setShed s u .closed) .feederRestored (some u) (some (load : Int)) (some 2)
    else s
  | .restoring => restoringReading s u closes
  | .openOther => if closes then setShed s u .closed else s
  | .openPlan => if closes then setShed s u .closed else s

/-! ## Restoration -/

/-- A feeder stands in a shed state. -/
def UnitRec.shedIs (r : UnitRec) (x : ShedState) : Bool := r.kind == .feeder && r.feederJob.shed == x

/-- The gates of a restore decision but for its top entry (R154). -/
def restoreGates (s : State) : Bool :=
  s.settings.restoreEnable && !frozen s && s.balance.published.restoreAllowed &&
    !(allUnits.any fun u => (s.unit u).shedIs .restoring) &&
    !(allUnits.any fun u => (s.unit u).dispatchIs .stopPending || (s.unit u).dispatchIs .stopping) &&
    match s.shed.lastRestore with
    | none => true
    | some t => reached s.now (after t s.settings.restoreInterval)

/-- A CLOSE was created for a feeder, which becomes RESTORING. -/
def closeCreated (s : State) (u : UnitNo) (i : SlotNo) (owner : Owner) : State :=
  let s := setShed s u .restoring
  s.setFeeder u { (s.unit u).feederJob with openOrder := some ⟨.close, i, owner⟩, deadline := none, settling := none }

/-- The restore decision (R154). -/
def restoreDecision (s : State) : State :=
  match s.shed.stack.getLast? with
  | none => s
  | some e =>
    let u := e.feeder
    if restoreGates s && s.balance.restoreFeeder == some u && (s.unit u).feederJob.shed == .shed then
      match requestOrder s u .close none .shed none with
      | (s', .created i) =>
        let s' := closeCreated s' u i .shed
        s'.setShedBlock { s'.shed with lastRestore := some s'.now }
      | (s', _) => s'
    else s

/-- A pass completion at the Shed Controller: the list is served in every mode, and in ACTIVE a restore decision is made
(R144, R154). The list is served before the restore decision: the model's choice (notes/assumptions/38.md). -/
def shedCompletion (s : State) : State :=
  let s := servePending s
  if s.mode == .active then restoreDecision s else s

/-! ## Release, claims and the plan's release -/

/-- RELEASE FEEDER of a non-essential feeder found OPEN_OTHER (R156). -/
def releaseToStack (s : State) (u : UnitNo) (cause : ShedCause) : State :=
  let s := setShed s u .shed
  let s := s.setFeeder u { (s.unit u).feederJob with restoreFail := 0 }
  push s u cause

/-- A plan claim (R157). -/
def claim (s : State) (u : UnitNo) : State := setShed (clearFeederWork s u) u .openPlan

/-- The feeders the plan holds. -/
def planFeeders (s : State) : List UnitNo := allUnits.filter fun u => (s.unit u).shedIs .openPlan

/-- A feeder that the plan's release leaves open and essential (R158, R174). -/
def leftOpen (s : State) (u : UnitNo) : Bool :=
  (s.unit u).live.values.breaker == .opn && (s.unit u).feeder.essential

/-- One claimed feeder settled at the plan's release from its stored breaker (R158). A feeder that is ABSENT is settled from the
initial OPEN: the model's choice (notes/assumptions/32.md). -/
def releaseClaimed (completed : Bool) (s : State) (u : UnitNo) : State :=
  if (s.unit u).live.values.breaker == .closed then setShed s u .closed
  else if completed && !(s.unit u).feeder.essential then push (setShed s u .shed) u .plan
  else setShed s u .openOther

/-- The plan release: every OPEN_PLAN feeder is settled, in ascending priority value (R158). -/
def planRelease (s : State) (completed : Bool) : State := (byPriority s (planFeeders s)).foldl (releaseClaimed completed) s

/-- The engine mode has left ACTIVE or RESTORE for OBSERVE or HALTED (R159). -/
def shedModeLeft (s : State) : State := s.setShedBlock { s.shed with pending := [], predictive := none }

end Sys2Proof.Machine
end

