-- ==== Sys2Proof/Machine/Tracker.lean ====
section
/-! DEFINITION. The Epoch Tracker (chapter 2): marks (R20 to R22, R26, R27), losses (R23 to R25), free running (R28), the
window (R29), pass starts (R30), and what mode changes and writes do to it (R31, R32). -/

namespace Sys2Proof.Machine

/-- The state with the tracker replaced. -/
def State.setTracker (s : State) (t : Tracker) : State := { s with tracker := t }

/-- The loss time: loss count × period, with the period held now (R19). -/
def lossTime (s : State) : Nat := s.settings.lossCount * s.tracker.period

/-- A mark's period as it is adopted: clamped to 10 to 1,000 ms (R20). -/
def adoptedPeriod (m : MarkMsg) : Nat := clampNat 10 1000 m.period.toNat

/-- The epoch window admits an epoch: E and E − 1 in PRIMARY and SECONDARY, every epoch in UNSET and FREE_RUN (R29). -/
def inWindow (t : Tracker) (epoch : Num16) : Bool :=
  match t.state with
  | .unset | .freeRun => true
  | .primary | .secondary => epoch == t.epoch || epoch == t.epoch - 1

/-! ## State changes and pass starts -/

/-- The condition whose held cause an epoch state is (R31). -/
def epochCause : EpochState → Option Condition
  | .secondary => some .epochPrimaryLost
  | .freeRun => some .epochFreeRun
  | _ => none

/-- A change of epoch state from `left`, already made: EPOCH_SOURCE_CHANGED is recorded, and the cause of the state entered
rises (R31). -/
def sourceChanged (s : State) (left : EpochState) : State :=
  let s := record s .epochSourceChanged none (some (left.code : Int)) (some s.tracker.state.code)
  match epochCause s.tracker.state with
  | none => s
  | some c => rise s c

/-- A starting event: a pass starts, or is overrun (R30). -/
def startPass (s : State) : State :=
  if s.tracker.passInProgress then
    rise (s.setTracker { s.tracker with overruns := bump 255 s.tracker.overruns }) .passOverrun
  else beginPass (s.setTracker { s.tracker with passInProgress := true })

/-- EPOCH_JUMP for a mark whose number is neither E nor E + 1: the new number and the old E (R21, R27). -/
def jumpUnlessNext (s : State) (n : Num16) : State :=
  if n == s.tracker.epoch + 1 then s
  else record s .epochJump none (some (n.toNat : Int)) (some s.tracker.epoch.toNat)

/-! ## Marks -/

/-- The two masters. -/
inductive Master where
  | primary
  | secondary
  deriving DecidableEq, Repr

/-- Which master a mark is taken from, if any (R20). -/
def masterOf (s : State) (src : Addr) : Option Master :=
  if s.access.primaryTimeMaster == some src then some .primary
  else if s.access.secondaryTimeMaster == some src && s.settings.epochMode == .dual then some .secondary
  else none

/-- The state of a governing master. -/
def Master.state : Master → EpochState
  | .primary => .primary
  | .secondary => .secondary

/-- A master's record. -/
def Tracker.recOf (t : Tracker) : Master → Option MarkRec
  | .primary => t.primaryRec
  | .secondary => t.secondaryRec

/-- A tracker with a master's record set. -/
def Tracker.setRec (t : Tracker) (m : Master) (r : MarkRec) : Tracker :=
  match m with
  | .primary => { t with primaryRec := some r }
  | .secondary => { t with secondaryRec := some r }

/-- A master's return count. -/
def Tracker.returnOf (t : Tracker) : Master → Nat
  | .primary => t.primaryReturn
  | .secondary => t.secondaryReturn

/-- A tracker with a master's return count set. -/
def Tracker.setReturn (t : Tracker) (m : Master) (n : Nat) : Tracker :=
  match m with
  | .primary => { t with primaryReturn := n }
  | .secondary => { t with secondaryReturn := n }

/-- A governing mark (R21). -/
def governingMark (s : State) (m : Master) (k : MarkMsg) : State :=
  if k.number == s.tracker.epoch then s
  else
    let s := jumpUnlessNext s k.number
    let s := s.setTracker { s.tracker.setRec m ⟨k.number, s.now⟩ with epoch := k.number, period := adoptedPeriod k }
    startPass (s.setTracker { s.tracker with lossDeadline := some (s.later (lossTime s)) })

/-- The leaving of UNSET by a primary mark (R22). -/
def unsetExit (s : State) (k : MarkMsg) : State :=
  let s := s.setTracker { s.tracker with
    state := .primary
    epoch := k.number
    period := adoptedPeriod k
    primaryRec := some ⟨k.number, s.now⟩
    unsetDeadline := none }
  let s := s.setTracker { s.tracker with lossDeadline := some (s.later (lossTime s)) }
  startPass (sourceChanged s .unset)

/-- A secondary mark that only sets the secondary record, unless it is a copy (R22, R26). -/
def noteSecondary (s : State) (k : MarkMsg) : State :=
  if s.tracker.secondaryRec.any fun r => r.number == k.number then s
  else s.setTracker { s.tracker with secondaryRec := some ⟨k.number, s.now⟩ }

/-- A return count after a mark that is no copy (R27). -/
def countedReturn (s : State) (m : Master) (k : MarkMsg) : Nat :=
  match s.tracker.recOf m with
  | none => 1
  | some r =>
    if k.number == r.number + 1 && decide (elapsed s.now r.arrival ≤ lossTime s) then bump 8 (s.tracker.returnOf m) else 1

/-- A returning master takes over, and its mark is compared with E (R27). -/
def takeover (s : State) (m : Master) (k : MarkMsg) : State :=
  let left := s.tracker.state
  let s := s.setTracker { s.tracker with
    state := m.state
    period := adoptedPeriod k
    freeDeadline := none
    primaryReturn := if m = .secondary then s.tracker.primaryReturn else 0
    secondaryReturn := 0 }
  let s := s.setTracker { s.tracker with lossDeadline := some (s.later (lossTime s)) }
  let s := sourceChanged s left
  if k.number == s.tracker.epoch then s
  else
    let s := jumpUnlessNext s k.number
    startPass (s.setTracker { s.tracker with epoch := k.number })

/-- A mark that counts toward a master's return (R27). -/
def returnMark (s : State) (m : Master) (k : MarkMsg) : State :=
  if (s.tracker.recOf m).any fun r => r.number == k.number then s
  else
    let n := countedReturn s m k
    let s := s.setTracker ((s.tracker.setRec m ⟨k.number, s.now⟩).setReturn m n)
    if s.settings.returnCount ≤ n then takeover s m k else s

/-- A delivered mark (R20, R26). -/
def takeMark (s : State) (k : MarkMsg) : State :=
  if s.mode == .halted then s
  else
    match masterOf s k.src, s.tracker.state with
    | none, _ => s
    | some .primary, .unset => unsetExit s k
    | some .primary, .primary => governingMark s .primary k
    | some .primary, _ => returnMark s .primary k
    | some .secondary, .unset => noteSecondary s k
    | some .secondary, .primary => noteSecondary s k
    | some .secondary, .secondary => governingMark s .secondary k
    | some .secondary, .freeRun => returnMark s .secondary k

/-! ## Deadlines -/

/-- The secondary record when a secondary mark arrived within a time before now, under DUAL (R23, R24). -/
def recentSecondary (s : State) (within : Nat) : Option MarkRec :=
  if s.settings.epochMode == .dual then s.tracker.secondaryRec.filter fun r => decide (elapsed s.now r.arrival ≤ within)
  else none

/-- The tracker enters FREE_RUN (R23 to R25). -/
def enterFreeRun (s : State) : State :=
  let left := s.tracker.state
  sourceChanged (s.setTracker { s.tracker with
    state := .freeRun
    lossDeadline := none
    unsetDeadline := none
    freeDeadline := some (s.later s.tracker.period) }) left

/-- The unset deadline runs out (R23). -/
def unsetExpiry (s : State) : State :=
  match recentSecondary s 3000 with
  | some r =>
    sourceChanged (s.setTracker { s.tracker with
      state := .secondary
      epoch := r.number
      unsetDeadline := none
      lossDeadline := some (after r.arrival (lossTime s)) }) .unset
  | none => enterFreeRun s

/-- The primary is lost (R24). -/
def losePrimary (s : State) : State :=
  let s' := s.setTracker { s.tracker with primaryReturn := 0 }
  match recentSecondary s (lossTime s) with
  | some r =>
    sourceChanged (s'.setTracker { s'.tracker with
      state := .secondary
      lossDeadline := some (after r.arrival (lossTime s)) }) .primary
  | none => enterFreeRun s'

/-- The secondary is lost (R25). -/
def loseSecondary (s : State) : State := enterFreeRun (s.setTracker { s.tracker with secondaryReturn := 0 })

/-- The free-run deadline runs out (R28). -/
def freeRunStep (s : State) (deadline : Time) : State :=
  startPass (s.setTracker { s.tracker with
    epoch := s.tracker.epoch + 1
    freeDeadline := some (after deadline s.tracker.period) })

/-! ## Mode changes, writes and resets (R32) -/

/-- The tracker back in UNSET with its records, counts and running deadlines cleared; the unset deadline as given. -/
def clearedTracker (t : Tracker) (unset : Option Time) : Tracker :=
  { t with
    state := .unset
    primaryRec := none
    secondaryRec := none
    lossDeadline := none
    freeDeadline := none
    unsetDeadline := unset
    primaryReturn := 0
    secondaryReturn := 0 }

/-- The tracker restarted from UNSET, EPOCH_SOURCE_CHANGED recorded if it was not UNSET (R32). -/
def restartTracker (s : State) (unset : Option Time) : State :=
  let left := s.tracker.state
  let s := s.setTracker (clearedTracker s.tracker unset)
  if left == .unset then s else sourceChanged s left

/-- The unset deadline that starts now: absent in HALTED (R19, R32). -/
def freshUnset (s : State) : Option Time := if s.mode == .halted then none else some (s.later 3000)

/-- A write took effect to a time-master address or to the epoch mode (R32). -/
def trackerWrite (s : State) : State := restartTracker s (freshUnset s)

/-- The engine mode, already changed from `left`, reaches the tracker (R32). -/
def trackerMode (s : State) (left : Mode) : State :=
  if s.mode == .halted then restartTracker s none
  else if left == .halted then s.setTracker { s.tracker with unsetDeadline := some (s.later 3000) }
  else s

end Sys2Proof.Machine
end

