-- ==== Sys2Proof/Machine/Modes.lean ====
section
/-! DEFINITION. A change of engine mode, with what each block does at it (R191, R32, R79, R116, R127, R140, R159). -/

namespace Sys2Proof.Machine

/-- ACTIVE or RESTORE: the modes in which orders are created (R66). -/
def Mode.orders : Mode → Bool
  | .active | .restore => true
  | .halted | .observe => false

/-- The part of a mode change that the Order Transactor, the Dispatcher and the Shed Controller take on leaving ACTIVE or
RESTORE for OBSERVE or HALTED (R79, R140, R159). -/
def ordersModeLeft (s : State) (left : Mode) : State :=
  if left.orders && !s.mode.orders then setRetry (shedModeLeft (discardOrders s)) false else s

/-- The part of a mode change that the Allocator takes (R116). -/
def limitModeChanged (s : State) (left : Mode) : State :=
  if s.mode == .restore then limitSweep s 0 else if left == .restore then dropLimit s else s

/-- Start retry pending becomes no when the mode leaves ACTIVE (R127). -/
def retryModeLeft (s : State) (left : Mode) : State := if left == .active then setRetry s false else s

/-- The engine mode changes: MODE_CHANGED is recorded and the change is handed to every block that applies it (R191). So MODE_CHANGED
comes before the EPOCH_SOURCE_CHANGED that the tracker makes at a change to HALTED: the model's choice
(notes/assumptions/51.md). -/
def changeMode (s : State) (m : Mode) : State :=
  if s.mode == m then s
  else
    let left := s.mode
    let s := { s with service := { s.service with mode := m } }
    let s := record s .modeChanged none (some (left.code : Int)) (some m.code)
    limitModeChanged (retryModeLeft (ordersModeLeft (trackerMode s left) left) left) left

end Sys2Proof.Machine
end

