-- ==== Sys2Proof/Machine/Sequencer.lean ====
section
/-! DEFINITION. The Restoration Sequencer (chapter 9): running a plan (R164 to R166), the actions (R167 to R171), failure,
policies and restarts (R172, R173), the plan's end (R174, R175), and the dead-bus detector (R161, R162). -/

namespace Sys2Proof.Machine

/-! ## The current step -/

/-- The step the plan stands at. -/
def currentStep (s : State) : PlanStep := s.seqr.plan.get s.progress.current

/-- The unit that a number of 0 to 63 names. -/
def unitNo (n : Nat) : Option UnitNo := if h : n < 64 then some ⟨n, h⟩ else none

/-- A step's unit argument, of the two actions that have one (R163). -/
def PlanStep.unit (p : PlanStep) : Option UnitNo :=
  if p.action == .startGenset || p.action == .closeUnit then unitNo p.argument else none

/-- The step is ISSUED or WAITING. -/
def Progress.stepOpen (p : Progress) : Bool := p.stepState == .issued || p.stepState == .waiting

/-- The order list or the to-issue list holds an order of a kind for a unit. -/
def Progress.holds (p : Progress) (u : UnitNo) (k : OrderKind) : Bool :=
  (p.orders.any fun x => x.target == u && x.kind == k) || p.toIssue.contains (u, k)

/-- The order list or the to-issue list holds an order of a kind. -/
def Progress.holdsKind (p : Progress) (k : OrderKind) : Bool :=
  (p.orders.any fun x => x.kind == k) || p.toIssue.any fun x => x.2 == k

/-- Insertion into a to-issue list, which stands in ascending unit number. -/
def insertIssue (x : UnitNo × OrderKind) : List (UnitNo × OrderKind) → List (UnitNo × OrderKind)
  | [] => [x]
  | y :: ys => if y.1 ≤ x.1 then y :: insertIssue x ys else x :: y :: ys

/-- A unit added to the to-issue list with an order kind (R166). -/
def addIssue (s : State) (u : UnitNo) (k : OrderKind) : State :=
  s.setProgress { s.progress with toIssue := insertIssue (u, k) s.progress.toIssue }

/-- The step state follows the lists while the step is neither DONE nor FAILED (R165). -/
def followLists (s : State) : State :=
  let p := s.progress
  if p.stepOpen then
    s.setProgress { p with stepState := if p.orders.isEmpty && p.toIssue.isEmpty then .waiting else .issued }
  else s

/-- The events that reach a step (R165). -/
inductive Trigger where
  | began
  | reading
  | dispatch
  | orderEnd
  | arrival (a : Arrival)
  | release
  | completion
  deriving DecidableEq, Repr

/-- The events at which the to-issue list is served and a plan start request is made again (R166, R168). -/
def Trigger.asks : Trigger → Bool
  | .began | .dispatch | .release | .completion => true
  | .reading | .orderEnd | .arrival _ => false

/-! ## Failure and success of a step -/

/-- A plan order of the current step withdrawn by the Sequencer, its end and slot release handed on (R75, R172). -/
def withdrawPlan (s : State) (x : PlanOrder) : State :=
  match withdraw s x.slot .plan x.target x.kind with
  | (s', none) => s'
  | (s', some o) => s'.deferAll (endTasks s' x.slot o (.unsent .withdrawn) ++ s'.releasesOf x.target)

/-- A step fails for a cause (R172). Its policy is applied once its order list is empty (R173). Its orders are withdrawn in the
order in which they joined the order list, the end of each before its own slot releases: the model's choice
(notes/assumptions/44.md). -/
def stepFail (s : State) (cause : Nat) (unit : Option UnitNo) : State :=
  let p := s.progress
  if !p.stepOpen then s
  else
    let s := s.setProgress { p with stepState := .failed, failCause := some cause, deadline := none, toIssue := [] }
    let s := p.orders.foldl withdrawPlan s
    let s := record s .stepFailed unit (some (p.current.val : Int)) (some cause)
    s.defer .planAdvance

/-- A step is DONE (R165). -/
def stepDone (s : State) : State :=
  let p := s.progress
  let s := s.setProgress { p with stepState := .done, deadline := none, toIssue := [] }
  let s := record s .stepDone (currentStep s).unit (some (p.current.val : Int)) (some p.attempt)
  s.defer .planAdvance

/-! ## What each action does at an event (R167 to R171) -/

/-- OPEN_ALL_FEEDERS: every feeder is claimed, and one that does not read OPEN and has no OPEN is added (R167). -/
def takeFeeder (s : State) (u : UnitNo) : State :=
  if (s.unit u).kind != .feeder then s
  else
    let s := if (s.unit u).feederJob.shed == .openPlan then s else claim s u
    if (s.unit u).readsOpen || s.progress.holds u .opn then s else addIssue s u .opn

/-- WAIT_STABLE: the arrival is in band (R169). -/
def inBand (s : State) (a : Arrival) : Bool :=
  decide (((a.frequency : Int) - s.settings.fNom).natAbs ≤ s.settings.stableBand) && decide (s.settings.liveVoltage ≤ a.voltage)

/-- WAIT_STABLE: stable-since after an arrival (R169). -/
def stableAfter (s : State) (a : Arrival) : Option Time :=
  if !inBand s a then none
  else if a.broken then some a.time
  else s.progress.stableSince.orElse fun _ => some a.time

/-- CLOSE_UNIT: a unit that reads OPEN again after its CLOSE was accepted is asked again (R170). -/
def watchUnit (s : State) (u : UnitNo) : State :=
  let p := s.progress
  match p.closeSeen with
  | none => s
  | some left =>
    if !(s.unit u).readsOpen then s.setProgress { p with closeSeen := some true }
    else if left && !p.holds u .close then addIssue (s.setProgress { p with closeSeen := none }) u .close
    else s

/-- CLOSE_ZONE: members that read CLOSED are struck off, and the first left is asked when no CLOSE stands (R171). -/
def takeZone (s : State) : State :=
  let p := s.progress
  let left := p.members.filter fun u => !(s.unit u).readsClosed
  let s := s.setProgress { p with members := left }
  match left with
  | [] => s
  | u :: _ => if p.holdsKind .close then s else addIssue s u .close

/-- START_GENSET: whether the step found its gen-set START_PENDING, STARTING or ONLINE (R168). -/
def noteGenset (s : State) (u : UnitNo) : State :=
  let r := s.unit u
  if r.isStarting || r.dispatchIs .online then s.setProgress { s.progress with foundStarted := true } else s

/-- What the current action does at an event before the tests. -/
def prepare (s : State) (t : Trigger) : State :=
  match (currentStep s).action, (currentStep s).unit with
  | .openAllFeeders, _ => allUnits.foldl takeFeeder s
  | .startGenset, some u => noteGenset s u
  | .waitStable, _ =>
    match t with
    | .arrival a => s.setProgress { s.progress with stableSince := stableAfter s a }
    | _ => s
  | .closeUnit, some u => watchUnit s u
  | .closeZone, _ => takeZone s
  | _, _ => s

/-- The done test (R167 to R171). -/
def doneTest (s : State) (t : Trigger) : Bool :=
  match (currentStep s).action, (currentStep s).unit with
  | .openAllFeeders, _ => (s.ofKind .feeder).all fun u => (s.unit u).readsOpen
  | .startGenset, some u => (s.unit u).dispatchIs .online
  | .waitStable, _ =>
    match t, s.progress.stableSince with
    | .arrival a, some since => decide ((currentStep s).hold ≤ elapsed a.time since)
    | _, _ => false
  | .closeUnit, some u => (s.unit u).readsClosed
  | .closeZone, _ => s.progress.members.isEmpty
  | .releasePv, _ => true
  | _, _ => false

/-- The cause that the last end of a step's START gives the loss of its gen-set (R168). -/
def lossCause : Option OrderEnd → Nat
  | some (.refuse _) => 2
  | some .timedOut => 3
  | _ => 6

/-- The loss test: the unit lost and the cause, when it holds (R168). -/
def lossTest (s : State) : Option (UnitNo × Nat) :=
  let p := s.progress
  match (currentStep s).action, (currentStep s).unit with
  | .startGenset, some u =>
    let r := s.unit u
    let lost := r.dispatchIs .stopped || r.dispatchIs .unavailable || r.dispatchIs .lockedOut
    if lost && (p.startEnd.isSome || p.foundStarted) && !(p.orders.any fun x => x.kind == .start) then
      some (u, lossCause p.startEnd)
    else none
  | _, _ => none

/-- A plan start request and its answer (R168). -/
def askStart (s : State) (u : UnitNo) : State :=
  let again (s : State) : State := if s.progress.holds u .start then s else addIssue s u .start
  let settled (s : State) : State := s.setProgress { s.progress with toIssue := [] }
  match planStartRequest s u s.progress.current with
  | (s', .started i) =>
    let s' := settled s'
    s'.setProgress { s'.progress with orders := s'.progress.orders ++ [⟨i, u, .start⟩] }
  | (s', .running) => settled s'
  | (s', .inProgress) => settled s'
  | (s', .notGenset) => stepFail s' 4 (some u)
  | (s', .limit) => again s'
  | (s', .refused .held) => stepFail s' 4 (some u)
  | (s', .refused .notPermitted) => stepFail s' 4 (some u)
  | (s', .refused _) => again s'
  | (s', .inState .lockedOut) => stepFail s' 4 (some u)
  | (s', .inState _) => again s'

/-- The entries of the to-issue list asked for in order (R166). -/
def issueAll (s : State) : List (UnitNo × OrderKind) → State
  | [] => s
  | (u, k) :: rest =>
    match requestOrder s u k none .plan (some s.progress.current) with
    | (s', .created i) =>
      let p := s'.progress
      issueAll (s'.setProgress { p with toIssue := p.toIssue.erase (u, k), orders := p.orders ++ [⟨i, u, k⟩] }) rest
    | (s', .refused .held) => stepFail s' 4 (some u)
    | (s', .refused .notPermitted) => stepFail s' 4 (some u)
    | (s', _) => issueAll s' rest

/-- The requests of a step at an event: a plan start request, or the to-issue list served when an entry was added or the
event serves it (R166, R168). -/
def serveStep (s : State) (t : Trigger) (added : Bool) : State :=
  match (currentStep s).action, (currentStep s).unit with
  | .startGenset, some u => if t.asks && !(s.progress.orders.any fun x => x.kind == .start) then askStart s u else s
  | _, _ => if t.asks || added then issueAll s s.progress.toIssue else s

/-- An event reaches the step while it is ISSUED or WAITING and no cancellation is pending (R165, R166). -/
def stepEvent (s : State) (t : Trigger) : State :=
  if !s.planRunning || !s.progress.stepOpen || s.progress.cancelPending then s
  else
    let before := s.progress.toIssue.length
    let s := prepare s t
    if doneTest s t then stepDone s
    else
      match lossTest s with
      | some (u, cause) => stepFail s cause (some u)
      | none => followLists (serveStep s t (decide (before < s.progress.toIssue.length)))

/-! ## How the plan ends -/

/-- PLAN_ENDED with an end cause (R174, R175). -/
def planEnded (s : State) (cause : Nat) : State :=
  let s := s.setProgress { s.progress with endCause := some cause, deadline := none }
  record s .planEnded none (some (s.progress.current.val : Int)) (some cause)

/-- Each slot left occupied by a plan order loses its plan step (R175). -/
def stripSteps (s : State) : State :=
  { s with orders := { s.orders with
      slots := Vector.ofFn fun i : SlotNo => (s.slot i).map fun o => { o with planStep := none } } }

/-- The plan is ABORTED with an end cause, and the engine mode becomes the given one (R175). -/
def planAbort (s : State) (cause : Nat) (m : Mode) : State :=
  let s := planRelease (rise (planEnded s cause) .planFailed) false
  stripSteps (changeMode (s.setProgress { s.progress with planState := .aborted }) m)

/-- SHED_FAILED for an essential feeder that the plan leaves open (R174). -/
def noteLeftOpen (s : State) (u : UnitNo) : State :=
  record s .shedFailed (some u) (some ((s.unit u).live.values.load : Int)) (some 4)

/-- The plan is COMPLETED (R174). The essential feeders left open are recorded in ascending unit number: the model's choice
(notes/assumptions/42.md). -/
def planComplete (s : State) : State :=
  let s := planEnded s 0
  let left := (planFeeders s).filter (leftOpen s)
  let s := left.foldl noteLeftOpen (planRelease s true)
  stripSteps (changeMode (s.setProgress { s.progress with planState := .completed }) .active)

/-! ## Beginning and moving on -/

/-- A step's progress items at its beginning (R165). -/
def begunProgress (s : State) (k : Fin 32) (attempt : Nat) : Progress :=
  { s.progress with
    current := k
    stepState := .issued
    attempt := attempt
    startTime := s.now
    deadline := some (s.later (s.seqr.plan.get k).timeout)
    orders := []
    toIssue := []
    members := []
    stableSince := none
    cancelPending := false
    failCause := none
    startEnd := none
    foundStarted := false
    closeSeen := none }

/-- CLOSE_UNIT at its beginning: a wrong kind fails the step, a feeder is claimed, and a unit that does not read CLOSED is
asked for a CLOSE (R170). -/
def beginCloseUnit (s : State) (u : UnitNo) : State :=
  let kind := (s.unit u).kind
  if kind == .feeder || kind == .storage || kind == .pv then
    let s := if kind == .feeder then claim s u else s
    stepEvent (if (s.unit u).readsClosed then s else addIssue s u .close) .began
  else stepFail s 4 (some u)

/-- CLOSE_ZONE's members at its beginning (R171). -/
def zoneMembers (s : State) (z : Nat) : List UnitNo :=
  allUnits.filter fun u => (s.unit u).shedIs .openPlan && (s.unit u).zone == z

/-- The action of a step begins, and the done test is made at once (R165 to R171). -/
def beginAction (s : State) : State :=
  let p := currentStep s
  match p.action, p.unit with
  | .endPlan, _ => planComplete (s.setProgress { s.progress with stepState := .done, deadline := none })
  | .closeUnit, some u => beginCloseUnit s u
  | .closeUnit, none => stepFail s 4 none
  | .closeZone, _ => stepEvent (s.setProgress { s.progress with members := zoneMembers s p.argument }) .began
  | .releasePv, _ => stepEvent (limitSweep s p.argument) .began
  | .startGenset, none => stepFail s 4 none
  | _, _ => stepEvent s .began

/-- The plan moves on to a step, or begins its own again, at an attempt; a step past 31, or of action NONE, ends the plan
without END (R165, R173). -/
def stepBegin (s : State) (k attempt : Nat) : State :=
  if h : k < 32 then
    if (s.seqr.plan.get ⟨k, h⟩).action == .noAction then planAbort s 3 .observe
    else beginAction (s.setProgress (begunProgress s ⟨k, h⟩ attempt))
  else planAbort s 3 .observe

/-- Step 0 begins at attempt 1, on every start and restart (R164, R173). A step 0 of action NONE begins too, and the plan is
ABORTED at once with end cause 3 (R176); its step state is left ISSUED (notes/assumptions/25.md). -/
def beginPlan (s : State) : State :=
  let s := s.setProgress (begunProgress s 0 1)
  if (currentStep s).action == .noAction then planAbort s 3 .observe else beginAction s

/-- A plan starts at step 0 (R164). A restart pending that an aborted plan left at yes becomes no here: the model's choice
(notes/assumptions/43.md). -/
def planStart (s : State) : State :=
  let s := s.setProgress { s.progress with
    planState := .running, current := 0, restarts := 0, endCause := none, restartPending := false }
  beginPlan (changeMode s .restore)

/-- The policy of a FAILED step whose order list is empty (R173). -/
def applyPolicy (s : State) : State :=
  let p := s.progress
  match (currentStep s).policy with
  | .retry => if p.attempt < 3 then stepBegin s p.current.val (p.attempt + 1) else planAbort s 2 .observe
  | .skip => stepBegin s (p.current.val + 1) 1
  | .abort => planAbort s 1 .observe

/-- The plan moves on once no order of a DONE or FAILED step is left: to the restart, the next step, or the policy (R165,
R173). -/
def planAdvance (s : State) : State :=
  let p := s.progress
  if !s.planRunning || p.stepOpen || p.cancelPending || !p.orders.isEmpty then s
  else if p.restartPending then
    beginPlan (limitSweep (s.setProgress { p with restartPending := false }) 0)
  else if p.stepState == .done then stepBegin s (p.current.val + 1) 1
  else applyPolicy s

/-! ## Ends and notices (R166, R172) -/

/-- The step's items after the end of one of its orders, the slot struck off the order list (R166, R168, R170). -/
def endNoted (p : Progress) (x : PlanOrder) (e : OrderEnd) : Progress :=
  { p with
    orders := p.orders.erase x
    cancelPending := p.cancelPending || e == .unsent .cancelled || e == .outcomeUnknown
    startEnd := if x.kind == .start then some e else p.startEnd
    closeSeen := if x.kind == .close && e == .accept then some false else p.closeSeen }

/-- The failure that an end is, but for a START (R166). -/
def endFailure (x : PlanOrder) (e : OrderEnd) : Option Nat :=
  if x.kind == .start then none
  else
    match e with
    | .refuse _ => some 2
    | .timedOut => some 3
    | _ => none

/-- The end of an order handed to the Sequencer (R166). -/
def seqEnd (s : State) (i : SlotNo) (o : Order) (e : OrderEnd) : State :=
  let x : PlanOrder := ⟨i, o.target, o.kind⟩
  if !s.planRunning || !s.progress.orders.contains x then s
  else
    let s := s.setProgress (endNoted s.progress x e)
    let s := match endFailure x e with
      | some cause => if s.progress.cancelPending then s else stepFail s cause (some o.target)
      | none => stepEvent s .orderEnd
    (followLists s).defer .planAdvance

/-- The notice that a step's orders were cancelled (R78, R172). -/
def cancelNoticed (s : State) : State :=
  if !s.planRunning then s
  else
    let s := s.setProgress { s.progress with cancelPending := false }
    (stepFail s 5 none).defer .planAdvance

/-! ## The dead-bus detector (R161, R162) -/

/-- No gen-set reads breaker CLOSED (R161). -/
def noGensetClosed (s : State) : Bool := (s.ofKind .genset).all fun u => !(s.unit u).readsClosed

/-- The detector after an arrival: low-since and asserted (R161). -/
def detectorAfter (s : State) (a : Arrival) : Option Time × Bool :=
  if a.voltage < s.settings.deadVoltage then
    let since := ((if a.broken then none else s.seqr.lowSince).getD a.time)
    (some since, s.seqr.asserted || (decide (s.settings.deadConfirm ≤ elapsed a.time since) && noGensetClosed s))
  else if a.voltage < s.settings.liveVoltage then (none, s.seqr.asserted)
  else (none, false)

/-- BUS_DEAD with its detail code (R162). -/
def recordDead (s : State) (a : Arrival) (detail : Nat) : State :=
  record s .busDead (some a.meter) (some (a.voltage : Int)) (some detail)

/-- The detector asserts while the plan is RUNNING: restart, or abort past the limit (R162, R173). -/
def deadAgain (s : State) (a : Arrival) : State :=
  let n := bump 4 s.progress.restarts
  if n ≤ s.settings.restartLimit then
    let s := recordDead s a 2
    let s := s.setProgress { s.progress with restarts := n, restartPending := true }
    (stepFail s 7 none).defer .planAdvance
  else
    let s := recordDead s a 3
    planAbort (s.setProgress { s.progress with restarts := n }) 4 .observe

/-- What an assertion starts (R162). -/
def detectorAsserts (s : State) (a : Arrival) : State :=
  match s.mode with
  | .active => if s.settings.blackStart then planStart (recordDead s a 1) else recordDead s a 0
  | .restore => deadAgain s a
  | _ => recordDead s a 0

/-- A frequency arrival at the Sequencer: the detector, then the step (R161, R165). -/
def seqArrival (s : State) (a : Arrival) : State :=
  let d := detectorAfter s a
  let rose := d.2 && !s.seqr.asserted
  let s := { s with seqr := { s.seqr with lowSince := d.1, asserted := d.2 } }
  if rose then detectorAsserts s a else stepEvent s (.arrival a)

end Sys2Proof.Machine
end

