-- ==== Sys2Proof/Machine/Cascade.lean ====
section
/-! DEFINITION. The hand-offs between blocks that one step makes, taken one after the other until none is left (R73, R78,
R101, R128, R165; notes/assumptions/5.md). -/

namespace Sys2Proof.Machine

/-- The end of an order reaches a job (R73). -/
def handEnd (s : State) (job : Job) (i : SlotNo) (o : Order) (e : OrderEnd) : State :=
  match job with
  | .allocator => allocatorEnd s o e
  | .dispatcher => dispatcherEnd s i o e
  | .shed => shedOrderEnd s i o e
  | .sequencer => seqEnd s i o e

/-- A slot release reaches a job (R73): the Dispatcher (R127), the Shed Controller (R144) and the Sequencer (R166) act on
it. -/
def handRelease (s : State) (job : Job) : State :=
  match job with
  | .allocator => s
  | .dispatcher => dispatcherRelease s
  | .shed => servePending s
  | .sequencer => stepEvent s .release

/-- A pass completion reaches a job (R101). -/
def handCompletion (s : State) (job : Job) : State :=
  match job with
  | .allocator => allocatorCompletion s
  | .dispatcher => dispatcherCompletion s
  | .shed => shedCompletion s
  | .sequencer => stepEvent s .completion

/-- One hand-off taken by its receiver. -/
def handleTask (s : State) : Task → State
  | .ended job i o e => handEnd s job i o e
  | .released job _ => handRelease s job
  | .completion job => handCompletion s job
  | .dispatchChange _ _ _ => stepEvent s .dispatch
  | .cancelNotice => cancelNoticed s
  | .planAdvance => planAdvance s

/-- Hand-offs taken until none is left, at most `n` of them; those a receiver makes come before those already waiting. -/
def drain : Nat → State → State
  | 0, s => s
  | n + 1, s =>
    match s.agenda with
    | [] => s
    | t :: rest =>
      let s' := handleTask { s with agenda := [] } t
      drain n { s' with agenda := s'.agenda ++ rest }

/-- Every hand-off of the step is taken. -/
def settle (s : State) : State := drain Config.cascadeFuel s

end Sys2Proof.Machine
end

