-- ==== Sys2Proof/Machine/Frames.lean ====
section
/-! DEFINITION. The byte layouts of section 1.7: which frames are well formed (R9, R10), what a well-formed frame delivers
to which block (R11, R12), and the bytes of the frames the part inserts (R15). -/

namespace Sys2Proof.Machine

/-! ## Big-endian fields -/

/-- The number that bytes spell, most significant byte first (section 1.7). -/
def beNat (bs : List Byte) : Nat := bs.foldl (fun n b => n * 256 + b.toNat) 0

/-- The field of `n` bytes at an offset. -/
def fieldAt (bs : List Byte) (off n : Nat) : Nat := beNat ((bs.drop off).take n)

/-- A number written in `n` bytes, most significant byte first. -/
def beBytes : Nat → Nat → List Byte
  | 0, _ => []
  | n + 1, x => BitVec.ofNat 8 (x / 256 ^ n) :: beBytes n x

/-! ## Enumerated codes -/

/-- Breaker codes (section 1.7). -/
def breakerOf : Nat → Option Breaker
  | 0 => some .opn
  | 1 => some .closed
  | _ => none

/-- Engine codes (section 1.7). -/
def engineOf : Nat → Option Engine
  | 0 => some .stopped
  | 1 => some .cranking
  | 2 => some .running
  | 3 => some .faulted
  | _ => none

/-- Selector codes (section 1.7). -/
def selectorOf : Nat → Option Selector
  | 0 => some .remote
  | 1 => some .localPanel
  | _ => none

/-- Order kind codes (section 1.7). -/
def orderOf : Nat → Option OrderKind
  | 1 => some .start
  | 2 => some .stop
  | 3 => some .setCap
  | 4 => some .clearCap
  | 5 => some .opn
  | 6 => some .close
  | _ => none

/-- A verdict with its reason: reason 0 with ACCEPT, 1 to 4 with REFUSE (R10). -/
def verdictOf : Nat → Nat → Option Verdict
  | 0, 0 => some .accept
  | 1, 1 => some (.refuse .localControl)
  | 1, 2 => some (.refuse .notReady)
  | 1, 3 => some (.refuse .outOfRange)
  | 1, 4 => some (.refuse .unitFault)
  | _, _ => none

/-! ## The common header (section 1.7) -/

/-- The common header and the payload of a frame that carries the station protocol. -/
structure Header where
  version : Nat
  cls     : Nat
  unit    : Nat
  kind    : Nat
  seq     : Num16
  epoch   : Num16
  payload : List Byte
  deriving DecidableEq, Repr

/-- The bytes after the protocol type, the check sequence taken off, when a frame carries the station protocol: type
0x89A2 after the source address, or after one VLAN tag (R9). `rest` is the frame after its two addresses. -/
def protocolBytes (rest : List Byte) : Option (List Byte) :=
  let body := rest.take (rest.length - 4)
  if fieldAt body 0 2 = 0x89A2 then some (body.drop 2)
  else if fieldAt body 0 2 = 0x8100 ∧ fieldAt body 4 2 = 0x89A2 then some (body.drop 6)
  else none

/-- The header of a station-protocol frame that meets the conditions of every class: version 1, and a payload length not
above the bytes present (R10). -/
def headerOf (rest : List Byte) : Option Header :=
  (protocolBytes rest).bind fun b =>
    let len := fieldAt b 8 2
    if 10 ≤ b.length ∧ fieldAt b 0 1 = 1 ∧ len ≤ b.length - 10 then
      some {
        version := fieldAt b 0 1
        cls := fieldAt b 1 1
        unit := fieldAt b 2 1
        kind := fieldAt b 3 1
        seq := BitVec.ofNat 16 (fieldAt b 4 2)
        epoch := BitVec.ofNat 16 (fieldAt b 6 2)
        payload := (b.drop 10).take len }
    else none

/-- A unit number 0 to 63. -/
def unitOf (n : Nat) : Option UnitNo := if h : n < 64 then some ⟨n, h⟩ else none

/-- A 32-bit field of a payload. -/
def word32 (bs : List Byte) (off : Nat) : BitVec 32 := BitVec.ofNat 32 (fieldAt bs off 4)

/-- A READING payload of a unit kind: exactly the kind's length, every enumerated field a defined code, and the cap-present
flag 0 or 1 (R10). -/
def readingBodyOf (kind : Nat) (b : List Byte) : Option ReadingBody :=
  match kind with
  | 1 =>
    if b.length = 8 then
      (breakerOf (fieldAt b 4 1)).bind fun br => (engineOf (fieldAt b 5 1)).bind fun en =>
        (selectorOf (fieldAt b 6 1)).map fun se => .genset (word32 b 0) br en se
    else none
  | 2 =>
    if b.length = 16 then
      (breakerOf (fieldAt b 9 1)).bind fun br =>
        match fieldAt b 8 1 with
        | 0 => some (.pv (word32 b 0) (word32 b 4) none br)
        | 1 => some (.pv (word32 b 0) (word32 b 4) (some (word32 b 12)) br)
        | _ => none
    else none
  | 3 =>
    if b.length = 16 then
      (breakerOf (fieldAt b 13 1)).map fun br =>
        .storage (word32 b 0) (word32 b 4) (word32 b 8) (BitVec.ofNat 8 (fieldAt b 12 1)) br
    else none
  | 4 => if b.length = 8 then (breakerOf (fieldAt b 4 1)).map fun br => .feeder (word32 b 0) br else none
  | 5 => if b.length = 8 then some (.meter (word32 b 0) (word32 b 4)) else none
  | _ => none

/-- The request kinds that take no arguments: READ STATE, CLEAR OVERFLOW, START PLAN, ABORT PLAN and ENGINE RESET (R188). -/
def takesNothing (kind : Byte) : Bool := [3, 7, 10, 11, 14].contains kind.toNat

/-- The arguments that the argument bytes of a service request spell. A kind that takes none has none when there are no bytes,
and any byte makes its arguments of a wrong length (R188); the layout of the others is the free value
`Config.requestArgs`. -/
def argsOf (kind : Byte) (bytes : List Byte) : ReqArgs :=
  if takesNothing kind then (if bytes.isEmpty then .nothing else .malformed) else Config.requestArgs kind bytes

/-- What a frame received without error delivers, and to which consumer, or nothing (R10, R11, R12). `toPart` says whether
it was addressed to the part (R7). -/
def deliveryOf (p : Port) (src : Addr) (toPart : Bool) (rest : List Byte) : Option Delivery :=
  (headerOf rest).bind fun h =>
    match h.cls with
    | 1 =>
      (unitOf h.unit).bind fun u => (readingBodyOf h.kind h.payload).map fun body =>
        .reading { port := p, src := src, unit := u, seq := h.seq, epoch := h.epoch, body := body }
    | 2 =>
      if h.payload.length = 4 then
        some (.mark { src := src, unit := BitVec.ofNat 8 h.unit, kind := BitVec.ofNat 8 h.kind, seq := h.seq, number := h.epoch,
                      period := BitVec.ofNat 16 (fieldAt h.payload 0 2) })
      else none
    | 3 =>
      if toPart ∨ h.payload.length ≠ 8 ∨ h.kind = 0 then none
      else
        (unitOf h.unit).bind fun u => (kindOfCode h.kind).bind fun k => (orderOf (fieldAt h.payload 1 1)).map fun o =>
          .observed { src := src, unit := u, kind := k, seq := h.seq, epoch := h.epoch,
                      number := BitVec.ofNat 8 (fieldAt h.payload 0 1), order := o, value := word32 h.payload 4 }
    | 4 =>
      if toPart ∧ h.payload.length = 4 then
        (unitOf h.unit).bind fun u => (verdictOf (fieldAt h.payload 1 1) (fieldAt h.payload 2 1)).map fun v =>
          .reply { port := p, src := src, unit := u, kind := BitVec.ofNat 8 h.kind, seq := h.seq, epoch := h.epoch,
                   number := BitVec.ofNat 8 (fieldAt h.payload 0 1), verdict := v }
      else none
    | 5 =>
      if toPart ∧ 4 ≤ h.payload.length then
        let kind := BitVec.ofNat 8 (fieldAt h.payload 2 1)
        some (.request { port := p, src := src, unit := BitVec.ofNat 8 h.unit, unitKind := BitVec.ofNat 8 h.kind, seq := h.seq,
                         epoch := h.epoch, tag := BitVec.ofNat 16 (fieldAt h.payload 0 2), kind := kind,
                         args := argsOf kind (h.payload.drop 4) })
      else none
    | _ => none

/-- A frame whose reception ended with an error (R8): a bad check sequence, a partial byte, or a length outside 64 to 1,522
bytes, counted with the addresses and the check sequence. -/
def receiveError (rest : List Byte) (badCheck partialByte : Bool) : Bool :=
  badCheck || partialByte || decide (12 + rest.length < 64) || decide (1522 < 12 + rest.length)

/-! ## The bytes of an inserted frame (R15) -/

/-- Status codes (section 1.7). -/
def statusCode : Status → Nat
  | .done => 0
  | .doneClamped => 1
  | .busy => 2
  | .badRequest => 3
  | .badTable => 4
  | .badIndex => 5
  | .badValue => 6
  | .limit => 7
  | .inUse => 8
  | .wrongMode => 9

/-- The frame class code of a payload (section 1.7). -/
def OutPayload.classCode : OutPayload → Nat
  | .order .. => 3
  | .report (.response ..) => 6
  | .report (.notice ..) => 7

/-- The bytes of a response's result data: none where the request returns none (section 1.7, R188), else laid out by the free
value `Config.resultBytes`. -/
def resultData : Result → List Byte
  | .nothing => []
  | r => Config.resultBytes r

/-- The payload bytes (section 1.7). -/
def OutPayload.bytes : OutPayload → List Byte
  | .order number kind value => [number] ++ beBytes 1 (orderCode kind) ++ [0, 0] ++ beBytes 4 value
  | .report (.response tag kind status result) =>
    beBytes 2 tag.toNat ++ [kind] ++ beBytes 1 (statusCode status) ++ resultData result
  | .report (.notice group slot kind) => beBytes 1 group.val ++ beBytes 1 slot.val ++ beBytes 1 kind.number ++ [0]

/-- The bytes of an inserted frame up to its check sequence: no VLAN tag, version 1, and zero padding to the 64-byte minimum
that the four bytes of the check sequence complete (R15). -/
def OutFrame.bytes (f : OutFrame) : List Byte :=
  let payload := f.payload.bytes
  let frame := beBytes 6 f.dst.toNat ++ beBytes 6 f.src.toNat ++ beBytes 2 0x89A2 ++
    beBytes 1 1 ++ beBytes 1 f.payload.classCode ++ beBytes 1 f.unit ++ beBytes 1 (kindCode f.kind) ++
    beBytes 2 f.seq.toNat ++ beBytes 2 f.epoch.toNat ++ beBytes 2 payload.length ++ payload
  frame ++ List.replicate (60 - frame.length) 0

end Sys2Proof.Machine
end

