-- ==== Sys2Proof/Machine/FramePath.lean ====
section
/-! DEFINITION. The Frame Path (chapter 1): a frame's arrival, addresses and end of reception (R3 to R8, R13), the end of a
transmission and its insertion opportunity (R14), link changes (R2) and power-on reset (R18). -/

namespace Sys2Proof.Machine

/-! ## Places of a forwarding buffer -/

/-- A place holds a waiting frame: its addresses are in and it is not being sent (R3, R5). -/
def Place.waiting (p : Place) : Bool := p.addrs.isSome && !p.sending

/-- The first place that satisfies a test is changed. -/
def updateFirst (f : Place → Bool) (g : Place → Place) : List Place → List Place
  | [] => []
  | p :: ps => if f p then g p :: ps else p :: updateFirst f g ps

/-- The state with a port's forwarding buffer replaced. -/
def State.setBuffer (s : State) (p : Port) (b : List Place) : State := s.setPort p { s.port p with buffer := b }

/-- The state with what a port's receiver is doing replaced. -/
def State.setRx (s : State) (p : Port) (x : Rx) : State := s.setPort p { s.port p with rx := x }

/-- The state with what a port's transmitter is doing replaced. -/
def State.setTx (s : State) (p : Port) (x : Tx) : State := s.setPort p { s.port p with tx := x }

/-- The oldest frame waiting to leave by a port is transmitted (R14). One that is still being received when its turn comes
starts at once, in cut-through: the model's choice (notes/assumptions/29.md). -/
def startWaiting (s : State) (p : Port) : State :=
  if (s.port p.other).buffer.any Place.waiting then
    (s.setBuffer p.other (updateFirst Place.waiting (fun x => { x with sending := true }) (s.port p.other).buffer)).setTx p
      .forwarding
  else s

/-- The opportunity of a transmitter that has become free: restricted while a frame waits for it, else open (R14). -/
def opportunity (s : State) (p : Port) : State :=
  if (s.port p.other).buffer.any Place.waiting then
    match offerRestricted s p with
    | some s' => pump s'
    | none => pump (startWaiting s p)
  else pump s

/-! ## Reception -/

/-- A frame begins to arrive (R3, R4). -/
def arrivalStart (s : State) (p : Port) : State :=
  let q := s.port p
  if !q.up || q.rx != .idle then s
  else if q.buffer.length < Config.bufferPlaces then
    s.setPort p { q with rx := .head, buffer := q.buffer ++ [{}] }
  else rise (s.setRx p .lost) .forwardDrop

/-- The place of the frame in reception is given up: the one place still receiving. -/
def dropReceiving (s : State) (p : Port) : State :=
  s.setBuffer p ((s.port p).buffer.filter fun x => !x.receiving)

/-- The addresses of a frame to be forwarded are in: it starts in cut-through on a free far port that no earlier frame waits
for, or it waits (R5). -/
def forwardAddresses (s : State) (p : Port) (dst src : Addr) : State :=
  let q := s.port p
  let far := s.port p.other
  let go := far.up && far.tx == .free && !(q.buffer.any Place.waiting)
  let s := s.setPort p { q with
    rx := .forwarded dst src
    buffer := updateFirst Place.receiving (fun x => { x with addrs := some (dst, src), sending := go }) q.buffer }
  if go then s.setTx p.other .forwarding else s

/-- The first twelve bytes of a frame are in (R5 to R7). -/
def addressesIn (s : State) (p : Port) (dst src : Addr) : State :=
  if (s.port p).rx != .head then s
  else if src == s.frame.station then (dropReceiving s p).setRx p .ringReturn
  else if dst == s.frame.station then (dropReceiving s p).setRx p (.consumed src)
  else forwardAddresses s p dst src

/-- A delivery handed to its consumer (R12, R13; notes/assumptions/3.md). -/
def deliver (s : State) (d : Option Delivery) : State :=
  { s with frame := { s.frame with delivered := s.frame.delivered ++ d.toList } }

/-- The bytes after the addresses that the far port sends of a frame whose reception has ended: one longer than 1,522 bytes is
cut off there (R8). -/
def sentBytes (rest : List Byte) : List Byte := rest.take 1510

/-- The place of a forwarded frame whose reception has ended: one that has not begun to be sent is removed when it has an
error or when the far port is DOWN (R2, R8). -/
def endPlace (far : Bool) (error : Bool) (rest : List Byte) (x : Place) : Option Place :=
  if !x.receiving then some x
  else if !x.sending && (error || !far) then none
  else some { x with receiving := false, rest := sentBytes rest, badEnd := error }

/-- A frame's reception ends (R8, R13). -/
def receptionEnd (s : State) (p : Port) (rest : List Byte) (badCheck partialByte : Bool) : State :=
  let error := receiveError rest badCheck partialByte
  let s' := s.setRx p .idle
  match (s.port p).rx with
  | .idle => s
  | .lost => s'
  | .overlong => s'
  | .head => dropReceiving s' p
  | .ringReturn => s'
  | .consumed src => if error then s' else deliver s' (deliveryOf p src true rest)
  | .forwarded _ src =>
    let s' := s'.setBuffer p ((s.port p).buffer.filterMap (endPlace (s.port p.other).up error rest))
    if error then s' else deliver s' (deliveryOf p src false rest)

/-! ## Transmission -/

/-- The place of the frame being sent on a port is given up (R3). -/
def dropSending (s : State) (p : Port) : State :=
  s.setBuffer p.other ((s.port p.other).buffer.filter fun x => !x.sending)

/-- What an ended or cut-short transmission reports (R3, R15). -/
def transmissionOver (s : State) (p : Port) : State :=
  match (s.port p).tx with
  | .free => s
  | .forwarding => dropSending (s.setTx p .free) p
  | .order i _ => copyComplete (s.setTx p .free) p i
  | .report _ => s.setTx p .free

/-- A frame in cut-through is still being received. -/
def stillArriving (s : State) (p : Port) : Bool :=
  (s.port p).tx == .forwarding && (s.port p.other).buffer.any fun x => x.sending && x.receiving

/-- A transmission that ends while its frame is still being received is a frame longer than 1,522 bytes, cut off at that length
with a deliberately wrong check sequence: its reception goes on, and will end with an error (R8, notes/assumptions/9.md). -/
def cutOverlong (s : State) (p : Port) : State := if stillArriving s p then s.setRx p.other .overlong else s

/-- A frame finishes leaving a port (R14). -/
def transmitOver (s : State) (p : Port) : State :=
  if (s.port p).tx == .free then s else opportunity (transmissionOver (cutOverlong s p) p) p

/-! ## Link changes -/

/-- A port's link goes DOWN (R2): a frame in reception there ends with an error, a frame being sent is cut short, frames
fully received and waiting for the port are removed, and items are taken as though its transmitter were free. -/
def portDown (s : State) (p : Port) : State :=
  if !(s.port p).up then s
  else
    let s := transmissionOver (receptionEnd s p [] true false) p
    let s := s.setPort p { s.port p with up := false }
    pump (s.setBuffer p.other ((s.port p.other).buffer.filter fun x => x.receiving))

/-- A port's link goes UP (R2): it receives from the next frame that begins, and its transmitter is free. -/
def portUp (s : State) (p : Port) : State :=
  if (s.port p).up then s else opportunity (s.setPort p { s.port p with up := true, rx := .idle, tx := .free }) p

/-! ## Power-on reset -/

/-- RESET_N or PGOOD goes low (R18, R192). The link states are the physical-layer devices'. -/
def powerLow (s : State) : State :=
  { State.powerOn with
    frame := { State.powerOn.frame with pa := { up := s.frame.pa.up }, pb := { up := s.frame.pb.up } }
    schedule := s.schedule
    pending := s.pending }

/-- Power-on reset ends (R1, R18, R33). -/
def powerUp (s : State) (straps : Byte) (paUp pbUp : Bool) : State :=
  { State.powerOn with
    inReset := false
    frame := { station := stationOf straps, pa := { up := paUp }, pb := { up := pbUp } }
    schedule := s.schedule
    pending := s.pending }

end Sys2Proof.Machine
end

