-- ==== Sys2Proof/Machine/BusCommands.lean ====
section
/-! DEFINITION. The commands of the Frame Path and of power-on reset: the rows POWER_ON_RESET to TRANSMIT_END. -/

namespace Sys2Proof.Machine

/-- A command's effect with every hand-off it makes; nothing happens while RESET_N or PGOOD is low (R18). -/
def act (s : State) (f : State → State) : Host.Outcome State Fault Refusal :=
  .next (if s.inReset then s else settle (f s))

/-- POWER_ON_RESET (R18). -/
def execPowerOnReset (s : State) : Host.Outcome State Fault Refusal := .next (powerLow s)

/-- POWER_ON_RESET_END (R1, R18): nothing when no power-on reset is under way. -/
def execPowerOnResetEnd (straps : Byte) (paUp pbUp : Bool) (s : State) : Host.Outcome State Fault Refusal :=
  .next (if s.inReset then powerUp s straps paUp pbUp else s)

/-- LINK_DOWN (R2); in reset the link state alone changes. -/
def execLinkDown (p : Port) (s : State) : Host.Outcome State Fault Refusal :=
  if s.inReset then .next (s.setPort p { s.port p with up := false }) else act s fun s => portDown s p

/-- LINK_UP (R2); in reset the link state alone changes. -/
def execLinkUp (p : Port) (s : State) : Host.Outcome State Fault Refusal :=
  if s.inReset then .next (s.setPort p { s.port p with up := true }) else act s fun s => portUp s p

/-- TIMEBASE_TICK (R33). -/
def execTimebaseTick (s : State) : Host.Outcome State Fault Refusal := act s fun s => { s with now := s.now + 1 }

/-- FRAME_ARRIVAL_START (R3, R4). -/
def execFrameArrivalStart (p : Port) (s : State) : Host.Outcome State Fault Refusal := act s fun s => arrivalStart s p

/-- FRAME_ADDRESSES_RECEIVED (R5 to R7). -/
def execFrameAddressesReceived (p : Port) (dst src : Addr) (s : State) : Host.Outcome State Fault Refusal :=
  act s fun s => addressesIn s p dst src

/-- FRAME_RECEPTION_END (R8 to R13). -/
def execFrameReceptionEnd (p : Port) (rest : List Byte) (badCheck partialByte : Bool) (s : State) :
    Host.Outcome State Fault Refusal :=
  act s fun s => receptionEnd s p rest badCheck partialByte

/-- TRANSMIT_END (R14, R15). -/
def execTransmitEnd (p : Port) (s : State) : Host.Outcome State Fault Refusal := act s fun s => transmitOver s p

/-- A delivery taken by its consumer: the first that equals it is struck off those handed over (notes/assumptions/3.md). -/
def takeDelivery (s : State) (d : Delivery) : State :=
  { s with frame := { s.frame with delivered := s.frame.delivered.erase d } }

end Sys2Proof.Machine
end

