-- ==== Sys2Proof/Machine/EpochCommands.lean ====
section
/-! DEFINITION. The commands of the Epoch Tracker and the Balance Engine: the rows EPOCH_MARK to PASS_COMPLETION. -/

namespace Sys2Proof.Machine

/-- EPOCH_MARK (R20 to R22, R26, R27). -/
def execEpochMark (m : MarkMsg) (s : State) : Host.Outcome State Fault Refusal :=
  act s fun s => takeMark (takeDelivery s (.mark m)) m

/-- UNSET_DEADLINE_EXPIRY (R23). -/
def execUnsetDeadlineExpiry (s : State) : Host.Outcome State Fault Refusal :=
  act s fun s =>
    if s.tracker.state == .unset && s.mode != .halted && dueAt s.now s.tracker.unsetDeadline then unsetExpiry s else s

/-- PRIMARY_LOSS (R24). -/
def execPrimaryLoss (s : State) : Host.Outcome State Fault Refusal :=
  act s fun s => if s.tracker.state == .primary && dueAt s.now s.tracker.lossDeadline then losePrimary s else s

/-- SECONDARY_LOSS (R25). -/
def execSecondaryLoss (s : State) : Host.Outcome State Fault Refusal :=
  act s fun s => if s.tracker.state == .secondary && dueAt s.now s.tracker.lossDeadline then loseSecondary s else s

/-- FREE_RUN_EXPIRY (R28). -/
def execFreeRunExpiry (s : State) : Host.Outcome State Fault Refusal :=
  act s fun s =>
    match s.tracker.freeDeadline with
    | none => s
    | some d => if s.tracker.state == .freeRun && reached s.now d then freeRunStep s d else s

/-- The pass completes: it is published, the pass in progress ends, and the completion is handed to the four jobs (R101). -/
def completePass (s : State) (sn : Snapshot) : State :=
  let s := { s with
    balance := passResult s.balance sn
    tracker := { s.tracker with passInProgress := false } }
  s.deferAll ((jobOrder s.schedule.jobs).map Task.completion)

/-- PASS_COMPLETION (R101). -/
def execPassCompletion (s : State) : Host.Outcome State Fault Refusal :=
  act s fun s =>
    match s.balance.working with
    | none => s
    | some sn => completePass s sn

end Sys2Proof.Machine
end

