-- ==== Sys2Proof/WellFormed.lean ====
section
/-! DEFINITION. Which commands the station bus can deliver: the checks on operands that their types leave open. -/

namespace Sys2Proof

/-- The numbers of a field mask rise: a mask names each field once, and the values follow "in ascending field number" (R188). -/
def maskRises : List Nat → Bool
  | [] => true
  | [_] => true
  | a :: b :: rest => decide (a < b) && maskRises (b :: rest)

/-- The arguments of a request can be written on the wire: a mask rises, and the arguments fit the payload of one frame,
which holds at most 1,486 argument bytes (section 1.7). -/
def ReqArgs.wellFormed : ReqArgs → Bool
  | .write _ _ mask values => maskRises mask && decide (values.length ≤ 1486)
  | .slots numbers => decide (numbers.length ≤ 1486) && numbers.all (fun n => decide (n < 256))
  | _ => true

/-- A command that can reach the part. The bytes of a frame after its addresses end with the four bytes of its check
sequence unless the reception ended with an error (section 1.7, R8). -/
def wellFormed : Instr → Bool
  | .frameReceptionEnd _ rest badCheck partialByte => badCheck || partialByte || decide (4 ≤ rest.length)
  | .serviceRequest r => r.args.wellFormed
  | _ => true

end Sys2Proof
end

