-- ==== Sys2Proof/Machine/Operands.lean ====
section
/-! DEFINITION. The operands of the service requests: which arguments a kind requires (R188), and the numbered fields of the
seven tables with their ranges, their enumerated codes and their clamping (R189). The numbers that stand for enumerated
values here are the model's (notes/assumptions/2.md). -/

namespace Sys2Proof.Machine

/-! ## The arguments a kind requires (R188) -/

/-- The arguments have the count and length that a request kind requires, and the kind is 1 to 14 (R188). A field mask names
each field once, in ascending number: numbers that do not rise are no mask (notes/assumptions/2.md). -/
def argsFit (kind : Byte) (a : ReqArgs) : Bool :=
  match kind.toNat, a with
  | 1, .write _ _ mask values => maskRises mask && mask.length == values.length
  | 2, .read _ _ _ => true
  | 3, .nothing => true
  | 4, .slots numbers => decide (1 ≤ numbers.length) && decide (numbers.length ≤ 32)
  | 5, .slots numbers => decide (1 ≤ numbers.length) && decide (numbers.length ≤ 32)
  | 6, .conditions _ => true
  | 7, .nothing => true
  | 8, .mode _ => true
  | 9, .scope _ _ => true
  | 10, .nothing => true
  | 11, .nothing => true
  | 12, .unit _ => true
  | 13, .unit _ => true
  | 14, .nothing => true
  | _, _ => false

/-! ## Writing one field -/

/-- What writing one value to one field comes to: the record has no such writable field, the value is not of the field's
shape, it is no defined code, or the record as written, with whether the value was clamped. -/
inductive FieldOut (α : Type) where
  | noField
  | badShape
  | badValue
  | ok (r : α) (clamped : Bool)
  deriving Repr

/-- A numeric field of a range. -/
def numField {α : Type} (lo hi : Nat) (v : FieldVal) (put : Nat → α) : FieldOut α :=
  match v with
  | .num n => .ok (put (clampNat lo hi n)) (clampNat lo hi n != n)
  | _ => .badShape

/-- A yes-or-no field. -/
def flagField {α : Type} (v : FieldVal) (put : Bool → α) : FieldOut α :=
  match v with
  | .flag b => .ok (put b) false
  | .num _ => .badValue
  | _ => .badShape

/-- An enumerated field. -/
def codeField {α β : Type} (code : Nat → Option β) (v : FieldVal) (put : β → α) : FieldOut α :=
  match v with
  | .num n =>
    match code n with
    | some b => .ok (put b) false
    | none => .badValue
  | _ => .badShape

/-- A field that names a meter, 255 for absent (R189). -/
def meterField {α : Type} (v : FieldVal) (put : Option UnitNo → α) : FieldOut α :=
  match v with
  | .num n => if h : n < 64 then .ok (put (some ⟨n, h⟩)) false else if n = 255 then .ok (put none) false else .badValue
  | _ => .badShape

/-! ## Codes -/

/-- Epoch modes, by the model's numbers. -/
def epochModeOf : Nat → Option EpochMode
  | 0 => some .single
  | 1 => some .dual
  | _ => none

/-- Plan step actions (R163). -/
def actionOf : Nat → Option StepAction
  | 0 => some .noAction
  | 1 => some .openAllFeeders
  | 2 => some .startGenset
  | 3 => some .waitStable
  | 4 => some .closeUnit
  | 5 => some .closeZone
  | 6 => some .releasePv
  | 7 => some .endPlan
  | _ => none

/-- On-fail policies (R163). -/
def policyOf : Nat → Option Policy
  | 0 => some .retry
  | 1 => some .skip
  | 2 => some .abort
  | _ => none

/-- Destinations (R184). -/
def destinationOf : Nat → Option Destination
  | 0 => some .nobody
  | 1 => some .primary
  | 2 => some .backup
  | 3 => some .both
  | _ => none

/-- Classes that a Phase Table position may name, by the model's numbers; URGENT is refused (R82). -/
def phaseOf : Nat → Option QClass
  | 1 => some .dispatch
  | 2 => some .setpoint
  | 3 => some .report
  | _ => none

/-! ## Table UNIT (R36, R38) -/

/-- The kind-specific fields of a GENSET record (R38). -/
def setGensetField (g : GensetCfg) (n : Nat) (v : FieldVal) : FieldOut GensetCfg :=
  match n with
  | 0 => numField 0 15 v fun x => { g with meritRank := x }
  | 1 => numField 1 100 v fun x => { g with loadLimit := x }
  | 2 => numField 0 100 v fun x => { g with minLoad := x }
  | 3 => numField 1000 600000 v fun x => { g with startTimeout := x }
  | 4 => numField 1000 600000 v fun x => { g with stopTimeout := x }
  | 5 => numField 0 3600000 v fun x => { g with minRun := x }
  | 6 => numField 1 3 v fun x => { g with maxAttempts := x }
  | 7 => numField 0 600000 v fun x => { g with retryDelay := x }
  | 8 => numField 1 5 v fun x => { g with tripLimit := x }
  | _ => .noField

/-- The kind-specific fields of a FEEDER record (R38). -/
def setFeederField (f : FeederCfg) (n : Nat) (v : FieldVal) : FieldOut FeederCfg :=
  match n with
  | 0 => numField 0 6 v fun x => { f with stage := x }
  | 1 => numField 0 255 v fun x => { f with priority := x }
  | 2 => flagField v fun x => { f with essential := x }
  | 3 => numField 1000 60000 v fun x => { f with restoreTimeout := x }
  | _ => .noField

/-- A field written inside a part of a record. -/
def FieldOut.map {α β : Type} (f : α → β) : FieldOut α → FieldOut β
  | .noField => .noField
  | .badShape => .badShape
  | .badValue => .badValue
  | .ok r c => .ok (f r) c

/-- The kind-specific fields, numbered from 10, of the record's own kind (R38, R189). -/
def setKindField (r : UnitRec) (n : Nat) (v : FieldVal) : FieldOut UnitRec :=
  match r.kind with
  | .genset => (setGensetField r.genset n v).map fun g => { r with genset := g }
  | .pv => if n = 0 then numField 0 65535 v fun x => { r with pv := { floor := x } } else .noField
  | .feeder => (setFeederField r.feeder n v).map fun f => { r with feeder := f }
  | _ => .noField

/-- A record after a change of kind: the new kind's defaults and initial live and job fields, and everything at an empty
record's values for NONE (R38, R39). -/
def withKind (r : UnitRec) (k : UnitKind) : UnitRec :=
  if r.kind == k then r
  else if k == .noUnit then {}
  else { r with kind := k, genset := {}, pv := {}, feeder := {}, live := {}, gensetJob := {}, pvJob := {}, feederJob := {} }

/-- A record after its link address is written: a change gives the live fields their initial values (R39). A write of the
address already held, zeros among them, is no change and leaves the address written (notes/assumptions/30.md). -/
def withLink (r : UnitRec) (a : Addr) : UnitRec :=
  { r with link := some a, live := if r.linkAddr == a then r.live else {} }

/-- One field of a unit record. A record of kind NONE has no writable field but its kind (R36). -/
def setUnitField (r : UnitRec) (n : Nat) (v : FieldVal) : FieldOut UnitRec :=
  if n = 0 then codeField kindOfCode v fun k => withKind r k
  else if r.kind == .noUnit then .noField
  else
    match n with
    | 1 =>
      match v with
      | .addr a => .ok (withLink r a) false
      | _ => .badShape
    | 2 => numField 0 7 v fun x => { r with zone := x }
    | 3 => numField 0 65535 v fun x => { r with rating := x }
    | 4 => numField 20 10000 v fun x => { r with interval := x }
    | 5 => numField 2 16 v fun x => { r with stale := x }
    | 6 => numField 1 4 v fun x => { r with credit := x }
    | 7 =>
      match v with
      | .orders a b c d e f => .ok { r with permits := ⟨a, b, c, d, e, f⟩ } false
      | _ => .badShape
    | 8 => numField 0 65535 v fun x => { r with winLow := x }
    | 9 => numField 0 65535 v fun x => { r with winHigh := x }
    | n => if n < 10 then .noField else setKindField r (n - 10) v

/-! ## The other tables -/

/-- The range of a step's argument by its action (R163). -/
def argumentLimit : StepAction → Nat
  | .startGenset => 63
  | .closeUnit => 63
  | .closeZone => 7
  | .releasePv => 100
  | _ => 0

/-- One field of a plan step; the argument is clamped once the whole write is known (R163). -/
def setPlanField (p : PlanStep) (n : Nat) (v : FieldVal) : FieldOut PlanStep :=
  match n with
  | 0 => codeField actionOf v fun a => { p with action := a }
  | 1 =>
    match v with
    | .num x => .ok { p with argument := x } false
    | _ => .badShape
  | 2 => numField 100 600000 v fun x => { p with timeout := x }
  | 3 => codeField policyOf v fun x => { p with policy := x }
  | 4 => numField 0 600000 v fun x => { p with hold := x }
  | _ => .noField

/-- One field of a stage (R146). -/
def setStageField (g : Stage) (n : Nat) (v : FieldVal) : FieldOut Stage :=
  match n with
  | 0 => numField 45000 65000 v fun x => { g with threshold := x }
  | 1 => numField 0 60000 v fun x => { g with delay := x }
  | 2 => numField 0 5000 v fun x => { g with hysteresis := x }
  | 3 => flagField v fun x => { g with enabled := x }
  | _ => .noField

/-- One field of a route: a group above 7 is clamped to 7 (R184). -/
def setRouteField (r : Route) (n : Nat) (v : FieldVal) : FieldOut Route :=
  match n with
  | 0 => codeField destinationOf v fun d => { r with dest := d }
  | 1 => numField 0 7 v fun x => { r with group := Fin.ofNat 8 x }
  | _ => .noField

/-- The one field of a Phase Table position (R82). -/
def setPhaseField (n : Nat) (v : FieldVal) : FieldOut QClass :=
  if n = 0 then codeField phaseOf v id else .noField

/-- Fields 0 to 13 of the Settings record (R189). -/
def setSettingsLow (r : Settings) (n : Nat) (v : FieldVal) : FieldOut Settings :=
  match n with
  | 0 => codeField epochModeOf v fun x => { r with epochMode := x }
  | 1 => numField 2 8 v fun x => { r with lossCount := x }
  | 2 => numField 1 8 v fun x => { r with returnCount := x }
  | 3 => numField 0 600000 v fun x => { r with holdTime := x }
  | 4 => meterField v fun x => { r with reference := x }
  | 5 => meterField v fun x => { r with backup := x }
  | 6 => numField 20 5000 v fun x => { r with replyTime := x }
  | 7 => numField 0 3 v fun x => { r with retryLimit := x }
  | 8 => numField 45000 65000 v fun x => { r with fNom := x }
  | 9 => numField 45000 65000 v fun x => { r with fHigh := x }
  | 10 => numField 0 65535 v fun x => { r with kCurt := x }
  | 11 => numField 0 65535 v fun x => { r with rrMin := x }
  | 12 => numField 0 100 v fun x => { r with pvRisk := x }
  | 13 => numField 0 100 v fun x => { r with pvCredit := x }
  | _ => .noField

/-- Fields 14 to 24 of the Settings record (R189). -/
def setSettingsMid (r : Settings) (n : Nat) (v : FieldVal) : FieldOut Settings :=
  match n with
  | 14 => numField 1 65535 v fun x => { r with rocofLimit := x }
  | 15 => numField 1 16 v fun x => { r with startConfirm := x }
  | 16 => flagField v fun x => { r with startForRestore := x }
  | 17 => numField 0 65535 v fun x => { r with stopMargin := x }
  | 18 => numField 1 255 v fun x => { r with stopConfirm := x }
  | 19 => numField 0 100 v fun x => { r with restoreMargin := x }
  | 20 => numField 45000 65000 v fun x => { r with restoreFrequency := x }
  | 21 => numField 1 255 v fun x => { r with restoreHold := x }
  | 22 => flagField v fun x => { r with curtailEnable := x }
  | 23 => numField 1 65535 v fun x => { r with releaseStep := x }
  | 24 => numField 0 65535 v fun x => { r with releaseMargin := x }
  | _ => .noField

/-- Fields 25 to 34 of the Settings record (R189). -/
def setSettingsHigh (r : Settings) (n : Nat) (v : FieldVal) : FieldOut Settings :=
  match n with
  | 25 => numField 0 100 v fun x => { r with pickup := x }
  | 26 => flagField v fun x => { r with restoreEnable := x }
  | 27 => numField 0 600000 v fun x => { r with restoreInterval := x }
  | 28 => flagField v fun x => { r with blackStart := x }
  | 29 => numField 0 65535 v fun x => { r with deadVoltage := x }
  | 30 => numField 0 65535 v fun x => { r with liveVoltage := x }
  | 31 => numField 0 60000 v fun x => { r with deadConfirm := x }
  | 32 => numField 0 3 v fun x => { r with restartLimit := x }
  | 33 => numField 0 5000 v fun x => { r with stableBand := x }
  | 34 =>
    match v with
    | .conditions m => .ok { r with freezeMask := m } false
    | _ => .badShape
  | _ => .noField

/-- One field of the Settings record (R189). -/
def setSettingsField (r : Settings) (n : Nat) (v : FieldVal) : FieldOut Settings :=
  if n < 14 then setSettingsLow r n v else if n < 25 then setSettingsMid r n v else setSettingsHigh r n v

/-- The value an Access field takes: the address 00-00-00-00-00-00 makes it empty (R186). -/
def accessOf (a : Addr) : Option Addr := if a = 0 then none else some a

/-- One field of the Access record (R189). -/
def setAccessField (r : Access) (n : Nat) (v : FieldVal) : FieldOut Access :=
  match v with
  | .addr a =>
    match n with
    | 0 => .ok { r with primaryController := accessOf a } false
    | 1 => .ok { r with backupController := accessOf a } false
    | 2 => .ok { r with primaryTimeMaster := accessOf a } false
    | 3 => .ok { r with secondaryTimeMaster := accessOf a } false
    | _ => .noField
  | _ => if n < 4 then .badShape else .noField

/-! ## Writing several fields -/

/-- What a mask and its values come to: the status of the first check that fails, or the record as written with whether any
value was clamped. A name outside the record is judged before any value (R188). -/
inductive WriteOut (α : Type) where
  | refused (why : Status)
  | ok (r : α) (clamped : Bool)
  deriving Repr

/-- The worse of two findings: a missing field or a value of the wrong shape (BAD_REQUEST) is found before an undefined
code (BAD_VALUE). -/
def worse {α : Type} (first : FieldOut α) (rest : WriteOut α) : WriteOut α :=
  match first, rest with
  | .noField, _ => .refused .badRequest
  | .badShape, _ => .refused .badRequest
  | _, .refused .badRequest => .refused .badRequest
  | .badValue, _ => .refused .badValue
  | _, .refused why => .refused why
  | .ok _ c, .ok r c' => .ok r (c || c')

/-- The fields of a mask written in ascending order, each to the record as the earlier ones leave it (R189). -/
def writeFields {α : Type} (set : α → Nat → FieldVal → FieldOut α) (r : α) : List Nat → List FieldVal → WriteOut α
  | n :: ns, v :: vs =>
    match set r n v with
    | .ok r' c => worse (.ok r' c) (writeFields set r' ns vs)
    | bad => worse bad (writeFields set r ns vs)
  | _, _ => .ok r false

/-- A plan step's argument clamped to the range of the action it then has (R163). -/
def clampArgument : WriteOut PlanStep → WriteOut PlanStep
  | .ok p c =>
    let x := min p.argument (argumentLimit p.action)
    .ok { p with argument := x } (c || x != p.argument)
  | out => out

end Sys2Proof.Machine
end

