-- ==== Sys2Proof/Machine/Service.lean ====
section
/-! DEFINITION. The Service Unit (chapter 11): taking a request (R186, R187), serving the head of the queue (R187, R188), and
what each request kind does (R189 to R192, and the rules of the other chapters that a request names). -/

namespace Sys2Proof.Machine

/-! ## Taking requests (R186, R187) -/

/-- The source filter (R186). -/
def sourceTaken (a : Access) (src : Addr) : Bool :=
  (a.primaryController.isNone && a.backupController.isNone) ||
    a.primaryController == some src || a.backupController == some src

/-- A taken request's arrival port becomes the side of the controller address it came from (R185, R186). -/
def noteSides (s : State) (r : Request) : State :=
  { s with events := { s.events with
      primarySide := if s.access.primaryController == some r.src then some r.port else s.events.primarySide
      backupSide := if s.access.backupController == some r.src then some r.port else s.events.backupSide } }

/-- A response, named for the port on which its request arrived and addressed to its source (R187). -/
def responseTo (r : Request) (status : Status) (result : Result) : ReportItem where
  dst := r.src
  ports := PortSet.ofSide (some r.port)
  body := .response r.tag r.kind status result

/-- A delivered service request (R186, R187). -/
def takeRequest (s : State) (r : Request) : State :=
  if !sourceTaken s.access r.src then s
  else
    let s := noteSides s r
    if s.service.queue.length < Config.serviceDepth then
      { s with service := { s.service with queue := s.service.queue ++ [r] } }
    else if 0 < reportFree s then joinReport s (responseTo r .busy .nothing)
    else s

/-! ## Serving the head of the queue -/

/-- What serving a request comes to. -/
structure Served where
  state  : State
  status : Status
  result : Result

/-- A refused request changes nothing (R188). -/
def refusal (s : State) (why : Status) : Served := ⟨s, why, .nothing⟩

/-- The place of REPORT held for the response of the request being served (R187). -/
def holdPlace (s : State) (b : Bool) : State := { s with egress := { s.egress with held := b } }

/-- The head of the queue served: it leaves the queue, all its effects are carried out, and its response is queued on
REPORT (R187). Nothing is served while REPORT has no free place, or when the head is no request that `wanted` admits. -/
def serve (s : State) (wanted : Request → Bool) (handler : State → Request → Served) : State :=
  match s.service.queue with
  | [] => s
  | r :: rest =>
    if wanted r && decide (0 < reportFree s) then
      let out := handler (holdPlace { s with service := { s.service with queue := rest } } true) r
      joinReport (holdPlace (settle out.state) false) (responseTo r out.status out.result)
    else s

/-- A request of a kind whose arguments have the kind's count and length (R188). -/
def isKind (n : Nat) (r : Request) : Bool := r.kind.toNat == n && argsFit r.kind r.args

/-! ## Records as they are returned (R190) -/

/-- A unit record as it is returned. -/
def unitView (s : State) (u : UnitNo) : RecordView := .unit (s.unit u).asRead (s.inFlight u) (s.unit u).codes

/-- A plan step as it is returned. -/
def planView (p : PlanStep) : RecordView := .planStep p p.action.code p.policy.code

/-- A route as it is returned. -/
def routeView (r : Route) : RecordView := .route r r.dest.code

/-! ## WRITE RECORD (R189) -/

/-- The status of a write that passed. -/
def doneStatus (clamped : Bool) : Status := if clamped then .doneClamped else .done

/-- The indexes of a table, the first and the last (R189). -/
def tableRange : Nat → Option (Nat × Nat)
  | 1 => some (0, 63)
  | 2 => some (0, 31)
  | 3 => some (1, 6)
  | 4 => some (1, 26)
  | 5 => some (0, 15)
  | 6 => some (0, 0)
  | 7 => some (0, 0)
  | _ => none

/-- A write would put a record above its kind's limit (R35). -/
def breaksLimit (s : State) (u : UnitNo) (r : UnitRec) : Bool :=
  r.kind != .noUnit && (s.unit u).kind != r.kind &&
    decide (Config.kindLimit r.kind ≤ ((s.ofKind r.kind).filter (· != u)).length)

/-- A unit is referenced by a running plan (R163). -/
def planRefers (s : State) (u : UnitNo) : Bool :=
  s.planRunning && (s.seqr.plan.toList.any (fun p => p.unit == some u) || (s.unit u).shedIs .openPlan)

/-- A unit holds a slot, is on the Commitment List, the Shed Stack or the pending shed list, or is referenced by a running
plan (R189). -/
def unitHeld (s : State) (u : UnitNo) : Bool :=
  decide (0 < s.inFlight u) || s.dispatcher.commit.contains u || onStack s u || isPending s u || planRefers s u

/-- A write would take a kind out of a permitted-order set that an occupied slot holds (R67). -/
def dropsPermit (s : State) (u : UnitNo) (p : PermitSet) : Bool :=
  allSlots.any fun i => (s.slot i).any fun o => o.target == u && !p.has o.kind

/-- A write would change the essential flag of a feeder that is stacked, pending or RESTORING, in either direction (R142,
notes/assumptions/20.md). -/
def changesEssential (s : State) (u : UnitNo) (r : UnitRec) : Bool :=
  let old := s.unit u
  old.kind == .feeder && r.kind == .feeder && old.feeder.essential != r.feeder.essential &&
    (onStack s u || isPending s u || old.feederJob.shed == .restoring)

/-- A write of a unit record is refused with IN_USE (R189). -/
def unitInUse (s : State) (u : UnitNo) (r : UnitRec) : Bool :=
  let old := s.unit u
  ((old.kind != r.kind || old.linkAddr != r.linkAddr) && unitHeld s u) ||
    decide (r.credit < s.inFlight u) || dropsPermit s u r.permits || changesEssential s u r

/-- WRITE RECORD to table UNIT (R35 to R39, R189). -/
def writeUnit (s : State) (u : UnitNo) (mask : List Nat) (values : List FieldVal) : Served :=
  match writeFields setUnitField (s.unit u) mask values with
  | .refused why => refusal s why
  | .ok r c =>
    if breaksLimit s u r then refusal s .limit
    else if unitInUse s u r then refusal s .inUse
    else
      let s' := s.setUnit u r
      ⟨s', doneStatus c, .records [unitView s' u]⟩

/-- WRITE RECORD to table PLAN (R163). -/
def writePlan (s : State) (k : Fin 32) (mask : List Nat) (values : List FieldVal) : Served :=
  match clampArgument (writeFields setPlanField (s.seqr.plan.get k) mask values) with
  | .refused why => refusal s why
  | .ok p c =>
    if s.planRunning then refusal s .inUse
    else ⟨{ s with seqr := { s.seqr with plan := s.seqr.plan.set k p } }, doneStatus c, .records [planView p]⟩

/-- WRITE RECORD to table STAGES; a disabled stage's timer becomes IDLE at once (R146). -/
def writeStage (s : State) (n : Fin 6) (mask : List Nat) (values : List FieldVal) : Served :=
  match writeFields setStageField (s.shed.stages.get n) mask values with
  | .refused why => refusal s why
  | .ok g c =>
    let timers := if g.enabled then s.shed.timers else s.shed.timers.set n {}
    ⟨s.setShedBlock { s.shed with stages := s.shed.stages.set n g, timers := timers }, doneStatus c, .records [.stage g]⟩

/-- WRITE RECORD to table ROUTING (R184). -/
def writeRoute (s : State) (k : Fin 26) (mask : List Nat) (values : List FieldVal) : Served :=
  match writeFields setRouteField (s.events.routing.get k) mask values with
  | .refused why => refusal s why
  | .ok r c =>
    ⟨{ s with events := { s.events with routing := s.events.routing.set k r } }, doneStatus c, .records [routeView r]⟩

/-- A Phase Table names each of the three classes somewhere (R82). -/
def phasesComplete (p : Vector QClass 16) : Bool :=
  p.toList.contains .dispatch && p.toList.contains .setpoint && p.toList.contains .report

/-- WRITE RECORD to table PHASES (R82). -/
def writePhase (s : State) (k : Fin 16) (mask : List Nat) (values : List FieldVal) : Served :=
  match writeFields (fun _ n v => setPhaseField n v) (s.egress.phases.get k) mask values with
  | .refused why => refusal s why
  | .ok x c =>
    let p := s.egress.phases.set k x
    if phasesComplete p then ⟨{ s with egress := { s.egress with phases := p } }, doneStatus c, .records [.phase x]⟩
    else refusal s .badValue

/-- WRITE RECORD to table SETTINGS: a write to the epoch mode restarts the tracker (R32), and one that names a STALE
reference raises REFERENCE_STALE (R54; notes/assumptions/16.md). Of a write that does both, the records of REFERENCE_STALE come
first: the model's choice (notes/assumptions/46.md). -/
def writeSettings (s : State) (mask : List Nat) (values : List FieldVal) : Served :=
  match writeFields setSettingsField s.settings mask values with
  | .refused why => refusal s why
  | .ok r c =>
    let s' := { s with service := { s.service with settings := r } }
    let s' := riseIfNew s s' .referenceStale
    ⟨if mask.contains 0 then trackerWrite s' else s', doneStatus c, .records [.settings r]⟩

/-- WRITE RECORD to table ACCESS: a controller address written makes its side UNKNOWN (R185), a time-master address written
restarts the tracker (R32). -/
def writeAccess (s : State) (mask : List Nat) (values : List FieldVal) : Served :=
  match writeFields setAccessField s.access mask values with
  | .refused why => refusal s why
  | .ok r c =>
    let s' := { s with
      service := { s.service with access := r }
      events := { s.events with
        primarySide := if mask.contains 0 then none else s.events.primarySide
        backupSide := if mask.contains 1 then none else s.events.backupSide } }
    ⟨if mask.contains 2 || mask.contains 3 then trackerWrite s' else s', doneStatus c, .records [.access r]⟩

/-- WRITE RECORD, table and index checked (R188, R189). -/
def writeTable (s : State) (table index : Nat) (mask : List Nat) (values : List FieldVal) : Served :=
  match tableRange table with
  | none => refusal s .badTable
  | some (lo, hi) =>
    if index < lo || hi < index then refusal s .badIndex
    else
      match table with
      | 1 => writeUnit s (Fin.ofNat 64 index) mask values
      | 2 => writePlan s (Fin.ofNat 32 index) mask values
      | 3 => writeStage s (Fin.ofNat 6 (index - 1)) mask values
      | 4 => writeRoute s (Fin.ofNat 26 (index - 1)) mask values
      | 5 => writePhase s (Fin.ofNat 16 index) mask values
      | 6 => writeSettings s mask values
      | _ => writeAccess s mask values

/-- WRITE RECORD (R189). -/
def serveWrite (s : State) (r : Request) : Served :=
  match r.args with
  | .write table index mask values => writeTable s table index mask values
  | _ => refusal s .badRequest

/-! ## READ RECORD and READ STATE (R190) -/

/-- The record of a table at an index. -/
def viewOf (s : State) (table index : Nat) : RecordView :=
  match table with
  | 1 => unitView s (Fin.ofNat 64 index)
  | 2 => planView (s.seqr.plan.get (Fin.ofNat 32 index))
  | 3 => .stage (s.shed.stages.get (Fin.ofNat 6 (index - 1)))
  | 4 => routeView (s.events.routing.get (Fin.ofNat 26 (index - 1)))
  | 5 => .phase (s.egress.phases.get (Fin.ofNat 16 index))
  | 6 => .settings s.settings
  | _ => .access s.access

/-- READ RECORD (R190). -/
def serveRead (s : State) (r : Request) : Served :=
  match r.args with
  | .read table first count =>
    if count = 0 || 8 < count then refusal s .badRequest
    else
      match tableRange table with
      | none => refusal s .badTable
      | some (lo, hi) =>
        if first < lo || hi < first then refusal s .badIndex
        else ⟨s, .done, .records ((List.range (min count (hi + 1 - first))).map fun k => viewOf s table (first + k))⟩
  | _ => refusal s .badRequest

/-- The epoch status (R34). -/
def epochStatus (s : State) : EpochStatus where
  state := s.tracker.state
  mode := s.settings.epochMode
  epoch := s.tracker.epoch
  period := s.tracker.period
  overruns := s.tracker.overruns
  primaryReturn := s.tracker.primaryReturn
  secondaryReturn := s.tracker.secondaryReturn
  primaryArrival := s.tracker.primaryRec.map MarkRec.arrival
  secondaryArrival := s.tracker.secondaryRec.map MarkRec.arrival
  timebase := s.now

/-- A condition as READ STATE returns it (R179). -/
def conditionView (s : State) (c : Condition) : ConditionView where
  latched := s.isLatched c
  freeze := s.settings.freezeMask.getLsbD c.code
  present := heldCause s c

/-- The queues as READ STATE returns them (R80). -/
def queueStatus (s : State) : QueueStatus where
  urgent := (s.fill .urgent, s.level .urgent)
  dispatch := (s.fill .dispatch, s.level .dispatch)
  setpoint := (s.fill .setpoint, s.level .setpoint)
  report := (s.fill .report, s.level .report)
  occupied := s.occupied.length
  nonUrgent := s.nonUrgent
  waiting := s.orders.waiting.length

/-- The plan progress record as READ STATE returns it (R164). -/
def progressView (s : State) : ProgressView where
  planState := s.progress.planState
  current := s.progress.current
  stepState := s.progress.stepState
  attempt := s.progress.attempt
  startTime := s.progress.startTime
  restarts := s.progress.restarts
  endCause := s.progress.endCause
  failCause := s.progress.failCause

/-- The codes READ STATE reports. -/
def stateCodes (s : State) : StateCodes where
  condition := s.balance.published.condition.code
  mode := s.mode.code
  epochState := s.tracker.state.code
  stackCauses := s.shed.stack.map fun e => e.cause.code
  pendingCauses := s.shed.pending.map fun e => e.cause.code
  planState := s.progress.planState.code
  stepState := s.progress.stepState.code

/-- What READ STATE returns, taken at one moment (R190). -/
def stateView (s : State) : StateView where
  balance := s.balance.published
  mode := s.mode
  epoch := epochStatus s
  conditions := allConditions.map (conditionView s)
  log := logStatus s
  queues := queueStatus s
  commit := s.dispatcher.commit
  stack := s.shed.stack
  pending := s.shed.pending
  timers := s.shed.timers.toList.map Timer.state
  rocof := s.shed.rocof.latest
  planLimit := s.alloc.planLimit
  lastShortfall := s.alloc.lastShortfall
  progress := progressView s
  asserted := s.seqr.asserted
  lowSince := s.seqr.lowSince
  codes := stateCodes s

/-- READ STATE (R190). -/
def serveState (s : State) (_ : Request) : Served := ⟨s, .done, .state (stateView s)⟩

/-! ## Events and conditions -/

/-- The slots that a list of numbers names, or none when one is above 31 (R188). -/
def slotNumbers : List Nat → Option (List LogNo)
  | [] => some []
  | n :: ns => if h : n < 32 then (slotNumbers ns).map fun l => ⟨n, h⟩ :: l else none

/-- READ EVENTS (R180). -/
def serveReadEvents (s : State) (r : Request) : Served :=
  match r.args with
  | .slots ns =>
    match slotNumbers ns with
    | none => refusal s .badIndex
    | some l => ⟨s, .done, .events (l.map fun (i : LogNo) => s.events.log.get i)⟩
  | _ => refusal s .badRequest

/-- ACK EVENTS (R182, R185). -/
def serveAck (s : State) (r : Request) : Served :=
  match r.args with
  | .slots ns =>
    match slotNumbers ns with
    | none => refusal s .badIndex
    | some l =>
      let s' := judgeGroups (emptySlots s l)
      ⟨s', .done, .pendingCount (pendingCount s')⟩
  | _ => refusal s .badRequest

/-- CLEAR CONDITIONS (R178). -/
def serveClear (s : State) (r : Request) : Served :=
  match r.args with
  | .conditions mask =>
    let s' := clearConditionFlags s mask
    ⟨s', .done, .latched s'.events.latched⟩
  | _ => refusal s .badRequest

/-- CLEAR OVERFLOW (R183). -/
def serveOverflow (s : State) (_ : Request) : Served :=
  ⟨if s.events.overflow then clearOverflowFlag s else s, .done, .wasSet s.events.overflow⟩

/-! ## Modes and plans -/

/-- The reference meter names a METER record (R53, R191). -/
def referenceNamed (s : State) : Bool := s.settings.reference.any fun u => (s.unit u).kind == .meter

/-- SET MODE's table: the state after the request, or the refusal (R191). -/
def setModeTo (s : State) (m : Mode) : Option State :=
  if s.mode == m then some s
  else
    match m, s.mode with
    | .active, .halted => if referenceNamed s then some (changeMode s .active) else none
    | .active, .observe => if referenceNamed s then some (changeMode s .active) else none
    | .observe, .halted => some (changeMode s .observe)
    | .observe, .active => some (changeMode s .observe)
    | .halted, .restore => some (planAbort s 6 .halted)
    | .halted, _ => some (changeMode s .halted)
    | _, _ => none

/-- SET MODE (R191). -/
def serveMode (s : State) (r : Request) : Served :=
  match r.args with
  | .mode code =>
    match Mode.ofCode code with
    | none => refusal s .badValue
    | some m =>
      match setModeTo s m with
      | none => refusal s .wrongMode
      | some s' => ⟨s', .done, .mode s'.mode⟩
  | _ => refusal s .badRequest

/-- A CANCEL ORDERS scope (R77, R188). -/
def scopeOf : Nat → Nat → Option Scope
  | 0, _ => some .all
  | 1, z => if z < 8 then some (.zone z) else none
  | 2, u => (unitNo u).map .unit
  | _, _ => none

/-- CANCEL ORDERS: the slots are ended and every end, notice and release taken, and then the cancellation is recorded (R77,
R78). -/
def serveCancel (s : State) (r : Request) : Served :=
  match r.args with
  | .scope code arg =>
    match scopeOf code arg with
    | none => refusal s .badValue
    | some sc =>
      let c := cancelReport s sc
      ⟨recordCancelled (settle (cancelOrders s sc)) sc c, .done, .cancelled c.scope c.unsent c.unknown⟩
  | _ => refusal s .badRequest

/-- START PLAN (R176). -/
def serveStartPlan (s : State) (_ : Request) : Served :=
  if (s.mode == .observe || s.mode == .active) && referenceNamed s then
    let s' := settle (planStart s)
    ⟨s', .done, .planState s'.progress.planState⟩
  else refusal s .wrongMode

/-- ABORT PLAN (R176). -/
def serveAbortPlan (s : State) (_ : Request) : Served :=
  if s.mode == .restore then
    let s' := settle (planAbort s 5 .observe)
    ⟨s', .done, .planState s'.progress.planState⟩
  else refusal s .wrongMode

/-! ## Feeders, gen-sets and the engine reset -/

/-- RELEASE FEEDER of an essential feeder in ACTIVE with no freeze (R156). -/
def releaseEssential (s : State) (u : UnitNo) : Served :=
  match requestOrder s u .close none .service none with
  | (s', .created i) => ⟨closeCreated s' u i .service, .done, .nothing⟩
  | (s', .coalesced _) => ⟨s', .done, .nothing⟩
  | (s', .refused why) => ⟨s', .inUse, .refusal why⟩

/-- RELEASE FEEDER for a unit (R156). -/
def releaseFeederUnit (s : State) (u : UnitNo) : Served :=
  let r := s.unit u
  if r.kind != .feeder then refusal s .badIndex
  else if r.feederJob.shed != .openOther then refusal s .inUse
  else if !r.feeder.essential then ⟨releaseToStack s u .manual, .done, .nothing⟩
  else if s.mode != .active then refusal s .wrongMode
  else if frozen s then refusal s .inUse
  else releaseEssential s u

/-- RELEASE FEEDER (R156, R188). -/
def serveRelease (s : State) (r : Request) : Served :=
  match r.args with
  | .unit n =>
    match unitNo n with
    | none => refusal s .badIndex
    | some u => releaseFeederUnit s u
  | _ => refusal s .badRequest

/-- RESET LOCKOUT for a unit (R139). -/
def resetLockoutUnit (s : State) (u : UnitNo) : Served :=
  let r := s.unit u
  if r.kind != .genset then refusal s .badIndex
  else if r.gensetJob.dispatch == .lockedOut || r.gensetJob.dispatch == .stopped || r.gensetJob.dispatch == .unavailable then
    ⟨releaseLockout s u, .done, .nothing⟩
  else refusal s .inUse

/-- RESET LOCKOUT (R139, R188). -/
def serveLockout (s : State) (r : Request) : Served :=
  match r.args with
  | .unit n =>
    match unitNo n with
    | none => refusal s .badIndex
    | some u => resetLockoutUnit s u
  | _ => refusal s .badRequest

/-- A record after an engine reset: its live and job fields at their initial values (R40, R41). -/
def resetUnit (r : UnitRec) : UnitRec := { r with live := {}, gensetJob := {}, pvJob := {}, feederJob := {} }

/-- The Epoch Tracker after an engine reset (R19). -/
def resetTracker (s : State) : Tracker :=
  { epoch := s.tracker.epoch, period := s.tracker.period, unsetDeadline := some (s.later 3000) }

/-- What an engine reset returns to reset values, the mode made OBSERVE and every condition unlatched (R192). -/
def resetEngineState (s : State) : State :=
  let s := resetOrders { s with
    tracker := resetTracker s
    units := Vector.ofFn fun u : UnitNo => resetUnit (s.unit u)
    lastSource := none
    balance := { published := s.balance.published }
    alloc := {}
    dispatcher := {}
    shed := { stages := s.shed.stages }
    seqr := { plan := s.seqr.plan }
    agenda := [] }
  { s with
    events := { s.events with latched := 0 }
    service := { s.service with mode := .observe } }

/-- Each held cause that is present latches its condition, in ascending code (R178). -/
def relatchHeld (s : State) : State :=
  allConditions.foldl (fun s c => if heldCause s c == some true then rise s c else s) s

/-- ENGINE RESET's effects and its records in their order (R192). -/
def engineResetEffect (s : State) : State :=
  let found := s.mode
  let left := s.tracker.state
  let s := record (resetEngineState s) .engineReset none (some (found.code : Int)) none
  let s := if found == .observe then s else record s .modeChanged none (some (found.code : Int)) (some Mode.observe.code)
  let s := if left == .unset then s
    else record s .epochSourceChanged none (some (left.code : Int)) (some EpochState.unset.code)
  relatchHeld s

/-- ENGINE RESET (R192). -/
def serveEngineReset (s : State) (_ : Request) : Served := ⟨engineResetEffect s, .done, .nothing⟩

/-- A request of no kind, or with arguments of the wrong count or length (R188). -/
def serveUnknown (s : State) (_ : Request) : Served := refusal s .badRequest

end Sys2Proof.Machine
end

