-- ==== Sys2Proof/Machine/ServiceCommands.lean ====
section
/-! DEFINITION. The commands of the Service Unit: the rows SERVICE_REQUEST to UNKNOWN_REQUEST_KIND. Each of the latter serves the
head of the Service Queue when the head is a request of its kind. -/

namespace Sys2Proof.Machine

/-- SERVICE_REQUEST (R186, R187). -/
def execServiceRequest (r : Request) (s : State) : Host.Outcome State Fault Refusal :=
  act s fun s => takeRequest (takeDelivery s (.request r)) r

/-- WRITE RECORD (R189). -/
def execWriteRecord (s : State) : Host.Outcome State Fault Refusal := act s fun s => serve s (isKind 1) serveWrite

/-- READ RECORD (R190). -/
def execReadRecord (s : State) : Host.Outcome State Fault Refusal := act s fun s => serve s (isKind 2) serveRead

/-- READ STATE (R190). -/
def execReadState (s : State) : Host.Outcome State Fault Refusal := act s fun s => serve s (isKind 3) serveState

/-- READ EVENTS (R180). -/
def execReadEvents (s : State) : Host.Outcome State Fault Refusal := act s fun s => serve s (isKind 4) serveReadEvents

/-- ACK EVENTS (R182, R185). -/
def execAckEvents (s : State) : Host.Outcome State Fault Refusal := act s fun s => serve s (isKind 5) serveAck

/-- CLEAR CONDITIONS (R178). -/
def execClearConditions (s : State) : Host.Outcome State Fault Refusal := act s fun s => serve s (isKind 6) serveClear

/-- CLEAR OVERFLOW (R183). -/
def execClearOverflow (s : State) : Host.Outcome State Fault Refusal := act s fun s => serve s (isKind 7) serveOverflow

/-- SET MODE (R191). -/
def execSetMode (s : State) : Host.Outcome State Fault Refusal := act s fun s => serve s (isKind 8) serveMode

/-- CANCEL ORDERS (R77, R78). -/
def execCancelOrders (s : State) : Host.Outcome State Fault Refusal := act s fun s => serve s (isKind 9) serveCancel

/-- START PLAN (R176). -/
def execStartPlan (s : State) : Host.Outcome State Fault Refusal := act s fun s => serve s (isKind 10) serveStartPlan

/-- ABORT PLAN (R176). -/
def execAbortPlan (s : State) : Host.Outcome State Fault Refusal := act s fun s => serve s (isKind 11) serveAbortPlan

/-- RELEASE FEEDER (R156). -/
def execReleaseFeeder (s : State) : Host.Outcome State Fault Refusal := act s fun s => serve s (isKind 12) serveRelease

/-- RESET LOCKOUT (R139). -/
def execResetLockout (s : State) : Host.Outcome State Fault Refusal := act s fun s => serve s (isKind 13) serveLockout

/-- ENGINE RESET (R192). -/
def execEngineReset (s : State) : Host.Outcome State Fault Refusal := act s fun s => serve s (isKind 14) serveEngineReset

/-- UNKNOWN_REQUEST_KIND (R188). -/
def execUnknownRequestKind (s : State) : Host.Outcome State Fault Refusal :=
  act s fun s => serve s (fun r => !argsFit r.kind r.args) serveUnknown

end Sys2Proof.Machine
end

