-- ==== Sys2Proof/Machine/Trips.lean ====
section
/-! DEFINITION. What a gen-set reading means in each dispatch state (R125, R131 to R137), and the trip with its three
hand-offs (R133, R134). -/

namespace Sys2Proof.Machine

/-- A trip: the Dispatcher's own steps, then the trip report, GENSET_TRIP and the predictive shed request (R134). -/
def trip (s : State) (u : UnitNo) (lost : Int) : State :=
  let s := tripReport (tripState s u lost)
  predictiveShed (rise s .gensetTrip) u lost

/-- A STOP_PENDING gen-set's reading (R133, R136). -/
def stopPendingReading (s : State) (u : UnitNo) (lost : Int) : State :=
  let r := s.unit u
  if r.gensetJob.settling == some .stop then
    if r.live.values.engine == .stopped then stopEnds s u 1 else enterStopping s u
  else if stopOpen r && r.live.values.breaker == .opn then
    match withdrawStop s u with
    | (s', true) => trip s' u lost
    | (s', false) => enterStopping s' u
  else s

/-- A gen-set reading handed to the Dispatcher, with the previous output (R56). -/
def gensetReading (s : State) (u : UnitNo) (lost : Int) : State :=
  let r := s.unit u
  match r.gensetJob.dispatch with
  | .stopped => if runningClosed r then adopt s u else judgeAvailability s u
  | .unavailable => if runningClosed r then adopt s u else judgeAvailability s u
  | .startPending => if r.gensetJob.settling == some .start then startSettling s u else s
  | .starting => startingReading s u
  | .online => if r.live.values.breaker == .opn then trip s u lost else s
  | .stopPending => stopPendingReading s u lost
  | .stopping => if r.live.values.engine == .stopped then stopEnds s u 1 else s
  | .lockedOut => s

end Sys2Proof.Machine
end

