-- ==== Sys2Proof/Machine/Intake.lean ====
section
/-! DEFINITION. Reading Intake (chapter 3): the checks on a reading (R43 to R47), acceptance (R48, R49), the hand-offs (R55 to
R58), and manual holds (R59 to R61). -/

namespace Sys2Proof.Machine

/-! ## The checks -/

/-- The kind in a reading's header (R44). -/
def bodyKind : ReadingBody → UnitKind
  | .genset .. => .genset
  | .pv .. => .pv
  | .storage .. => .storage
  | .feeder .. => .feeder
  | .meter .. => .meter

/-- A record is open: it accepts every sequence (R47). -/
def recordOpen (r : UnitRec) (now : Time) : Bool :=
  !r.live.heard ||
    match r.live.lastArrival with
    | none => true
    | some t => decide (r.stale * r.interval < elapsed now t)

/-- The difference of a sequence from a record's last sequence, modulo 65,536 (R47). -/
def seqGap (r : UnitRec) (seq : Num16) : Nat := (seq - r.live.lastSeq).toNat

/-- The sequence check (R47). -/
def seqPasses (r : UnitRec) (now : Time) (seq : Num16) : Bool :=
  recordOpen r now || (decide (1 ≤ seqGap r seq) && decide (seqGap r seq ≤ 32767))

/-- How a reading fares at the checks (R43 to R47): dropped in silence, dropped with ADDRESS_MISMATCH, or accepted. -/
inductive Checked where
  | dropped
  | mismatch
  | accepted
  deriving DecidableEq, Repr

/-- The mode test and the four checks in their order (R43 to R47). The address check passes when the source equals the record's
link address, and never for a record whose link address has not been written (R45). -/
def checkReading (s : State) (m : ReadingMsg) : Checked :=
  let r := s.unit m.unit
  if s.mode == .halted then .dropped
  else if r.kind != bodyKind m.body then .dropped
  else if r.link != some m.src then .mismatch
  else if !inWindow s.tracker m.epoch then .dropped
  else if !seqPasses r s.now m.seq then .dropped
  else .accepted

/-! ## Clamping (R48) -/

/-- A signed carried value clamped to 0 to 65,535. -/
def clampKw (x : BitVec 32) : Nat := clampToNat 65535 x.toInt

/-- A signed carried value lies in 0 to 65,535. -/
def kwFits (x : BitVec 32) : Bool := decide (0 ≤ x.toInt) && decide (x.toInt ≤ 65535)

/-- An unsigned carried value clamped to 0 to 65,535. -/
def clampMeter (x : BitVec 32) : Nat := min x.toNat 65535

/-- A reading's values clamped to their ranges, over the values the record held (R48). -/
def clampedValues (v : Values) : ReadingBody → Values
  | .genset output breaker engine selector =>
    { v with output := (clampKw output : Int), breaker := breaker, engine := engine, selector := selector }
  | .pv output available cap breaker =>
    { v with output := (clampKw output : Int), available := clampKw available, cap := cap.map clampKw, breaker := breaker }
  | .storage output discharge charge soc breaker =>
    { v with output := clampInt (-32768) 32767 output.toInt, discharge := clampKw discharge, charge := clampKw charge,
             soc := min soc.toNat 100, breaker := breaker }
  | .feeder load breaker => { v with load := clampKw load, breaker := breaker }
  | .meter frequency voltage => { v with frequency := clampMeter frequency, voltage := clampMeter voltage }

/-- At least one value of a reading was clamped (R48). -/
def wasClamped : ReadingBody → Bool
  | .genset output _ _ _ => !kwFits output
  | .pv output available cap _ => !(kwFits output && kwFits available && cap.all kwFits)
  | .storage output discharge charge soc _ =>
    !(decide (-32768 ≤ output.toInt) && decide (output.toInt ≤ 32767) && kwFits discharge && kwFits charge &&
      decide (soc.toNat ≤ 100))
  | .feeder load _ => !kwFits load
  | .meter frequency voltage => !(decide (frequency.toNat ≤ 65535) && decide (voltage.toNat ≤ 65535))

/-! ## Acceptance (R49) -/

/-- A record's live fields after a reading is accepted (R48 to R50). -/
def acceptedLive (r : UnitRec) (m : ReadingMsg) (now : Time) : Live :=
  { r.live with
    freshness := .fresh
    lastSeq := m.seq
    lastEpoch := m.epoch
    lastArrival := some now
    side := some m.port
    values := clampedValues r.live.values m.body
    clampCount := if wasClamped m.body then bump 255 r.live.clampCount else r.live.clampCount
    localFlag := match m.body with
      | .genset _ _ _ selector => selector == .localPanel
      | _ => r.live.localFlag }

/-- The record brought up to date, items that a moved side makes eligible handed over (R14, R50), and UNIT_FRESH_AGAIN
recorded (R49). -/
def acceptReading (s : State) (m : ReadingMsg) : State :=
  let r := s.unit m.unit
  let s := pump (s.setLive m.unit (acceptedLive r m s.now))
  if r.live.freshness == .stale then
    record s .unitFreshAgain (some m.unit) (some (m.seq.toNat : Int)) (some (kindCode r.kind))
  else s

/-! ## Hand-offs -/

/-- The frequency arrival that a METER reading makes (R55); `r` is the record before it. -/
def arrivalOf (s : State) (r : UnitRec) (m : ReadingMsg) : Arrival where
  meter := m.unit
  frequency := (s.unit m.unit).live.values.frequency
  voltage := (s.unit m.unit).live.values.voltage
  time := s.now
  interval := r.interval
  gap := if recordOpen r s.now then none else some (seqGap r m.seq)
  sourceChanged := s.lastSource != some m.unit

/-- A frequency arrival handed to the Shed Controller and the Sequencer (R55). -/
def handArrival (s : State) (a : Arrival) : State :=
  let s := { s with lastSource := some a.meter }
  if s.schedule.sequencerFirst then shedArrival (seqArrival s a) a else seqArrival (shedArrival s a) a

/-- A METER reading is a frequency arrival when its meter is the meter in use (R55). -/
def meterReading (s : State) (r : UnitRec) (m : ReadingMsg) : State :=
  if meterInUse s.units s.settings == some m.unit then handArrival s (arrivalOf s r m) else s

/-- A reading handed to the block that follows its kind, with the values the record held before (R56, R57). -/
def handToOwner (s : State) (r : UnitRec) (m : ReadingMsg) : State :=
  match m.body with
  | .genset .. => gensetReading s m.unit r.live.values.output
  | .feeder .. => feederReading s m.unit r.live.values.breaker r.live.freshness
  | .pv .. => allocatorReading s m.unit
  | _ => s

/-- A reading handed to the Sequencer while the plan is RUNNING (R58). -/
def handToPlan (running : Bool) (s : State) : State := if running then stepEvent s .reading else s

/-- The hand-offs of an accepted reading; `r` is the record before it (R55 to R58). -/
def handReading (s : State) (r : UnitRec) (m : ReadingMsg) : State :=
  match m.body with
  | .meter .. => meterReading s r m
  | _ =>
    let running := s.planRunning
    if s.schedule.sequencerFirst then handToOwner (handToPlan running s) r m
    else handToPlan running (handToOwner s r m)

/-- A delivered reading (R43 to R58). -/
def takeReading (s : State) (m : ReadingMsg) : State :=
  match checkReading s m with
  | .dropped => s
  | .mismatch => rise s .addressMismatch
  | .accepted => handReading (acceptReading s m) (s.unit m.unit) m

/-! ## Manual hold -/

/-- A foreign order (R60). -/
def foreignOrder (s : State) (o : ObservedMsg) : State :=
  let r := s.unit o.unit
  let h := s.settings.holdTime
  let s' := s.setLive o.unit { r.live with hold := if h = 0 then none else some (s.later h) }
  if r.holdCurrent s.now then s' else record s' .manualHold (some o.unit) (some (h : Int)) (some (orderCode o.order))

/-- An observed order (R43, R59). -/
def takeObserved (s : State) (o : ObservedMsg) : State :=
  if s.mode == .halted || (s.unit o.unit).kind == .noUnit then s else foreignOrder s o

/-- A manual-hold deadline is reached (R61), in HALTED as in every other mode: the model's choice (notes/assumptions/31.md). -/
def endHold (s : State) (u : UnitNo) : State :=
  if dueAt s.now (s.unit u).live.hold then s.setLive u { (s.unit u).live with hold := none } else s

end Sys2Proof.Machine
end

