-- ==== Sys2Proof/Machine/Verdicts.lean ====
section
/-! DEFINITION. Verdicts of orders in flight: replies (R72) and reply timeouts (R74). -/

namespace Sys2Proof.Machine

/-- A reply matches a slot (R72). -/
def replyMatches (s : State) (r : ReplyMsg) (i : SlotNo) : Bool :=
  (s.slot i).any fun o =>
    o.state == .sent && o.target == r.unit && o.number == r.number && (s.unit o.target).linkAddr == r.src

/-- The slot a reply matches, with its order (R72). -/
def matchReply (s : State) (r : ReplyMsg) : Option (SlotNo × Order) :=
  (allSlots.find? (replyMatches s r)).bind fun i => (s.slot i).map fun o => (i, o)

/-- A delivered order reply: a verdict for the slot it matches, or stray (R72). -/
def takeReply (s : State) (r : ReplyMsg) : State :=
  match matchReply s r with
  | none => s
  | some (i, o) =>
    match r.verdict with
    | .accept => endOrder s i o .accept
    | .refuse why =>
      endOrder (record s .orderRefused (some o.target) (some (orderCode o.kind : Int)) (some (reasonCode why))) i o (.refuse why)

/-- A retry: the next attempt joins its queue or the waiting line as a new entry (R74). -/
def retryOrder (s : State) (i : SlotNo) (o : Order) : State :=
  let o' := { o with attempt := o.attempt + 1, state := .waitingRetry, pendingPort := none, deadline := none, stamp := none }
  enqueue (refill ((s.dequeue i).setSlot i (some o'))) i o'

/-- A final timeout (R74). -/
def finalTimeout (s : State) (i : SlotNo) (o : Order) : State :=
  let s := record s .orderTimedOut (some o.target) (some (o.attempt : Int)) (some (orderCode o.kind))
  endOrder (rise s .unitUnreachable) i o .timedOut

/-- A SENT order whose deadline is reached (R74). -/
def replyExpiry (s : State) (i : SlotNo) : State :=
  match s.slot i with
  | none => s
  | some o =>
    if o.state == .sent && dueAt s.now o.deadline then
      if decide (o.attempt ≤ s.settings.retryLimit) && s.mode.orders then retryOrder s i o else finalTimeout s i o
    else s

end Sys2Proof.Machine
end

