-- ==== Sys2Proof/Machine/UnitCommands.lean ====
section
/-! DEFINITION. The commands of Reading Intake, the Order Transactor and the jobs' deadlines: the rows READING to
STEP_TIMEOUT. -/

namespace Sys2Proof.Machine

/-- READING (R43 to R58). -/
def execReading (r : ReadingMsg) (s : State) : Host.Outcome State Fault Refusal :=
  act s fun s => takeReading (takeDelivery s (.reading r)) r

/-- OBSERVED_ORDER (R59, R60). -/
def execObservedOrder (o : ObservedMsg) (s : State) : Host.Outcome State Fault Refusal :=
  act s fun s => takeObserved (takeDelivery s (.observed o)) o

/-- MANUAL_HOLD_END (R61). -/
def execManualHoldEnd (u : UnitNo) (s : State) : Host.Outcome State Fault Refusal := act s fun s => endHold s u

/-- ORDER_REPLY (R72). -/
def execOrderReply (r : ReplyMsg) (s : State) : Host.Outcome State Fault Refusal :=
  act s fun s => takeReply (takeDelivery s (.reply r)) r

/-- REPLY_TIMEOUT (R74). -/
def execReplyTimeout (i : SlotNo) (s : State) : Host.Outcome State Fault Refusal := act s fun s => replyExpiry s i

/-- START_TIMEOUT (R131): a failed attempt of cause 3. -/
def execStartTimeout (u : UnitNo) (s : State) : Host.Outcome State Fault Refusal :=
  act s fun s =>
    if (s.unit u).dispatchIs .starting && dueAt s.now (s.unit u).gensetJob.deadline then failedAttempt s u 3 else s

/-- STOP_TIMEOUT (R137): code 2 or 3 as the live breaker reads. -/
def execStopTimeout (u : UnitNo) (s : State) : Host.Outcome State Fault Refusal :=
  act s fun s =>
    if (s.unit u).dispatchIs .stopping && dueAt s.now (s.unit u).gensetJob.deadline then
      stopEnds s u (if (s.unit u).live.values.breaker == .opn then 2 else 3)
    else s

/-- RESTORE_TIMEOUT (R155). -/
def execRestoreTimeout (u : UnitNo) (s : State) : Host.Outcome State Fault Refusal :=
  act s fun s =>
    if (s.unit u).shedIs .restoring && dueAt s.now (s.unit u).feederJob.deadline then restoreFails s u else s

/-- STEP_TIMEOUT (R172): cause 1. -/
def execStepTimeout (s : State) : Host.Outcome State Fault Refusal :=
  act s fun s =>
    if s.planRunning && s.progress.stepOpen && dueAt s.now s.progress.deadline then stepFail s 1 (currentStep s).unit else s

end Sys2Proof.Machine
end

