-- ==== Sys2Proof/Machine/Dispatch.lean ====
section
/-! DEFINITION. The meaning of each command: one arm per constructor of `Instr`. -/

namespace Sys2Proof.Machine

def exec (i : Instr) (s : State) : Host.Outcome State Fault Refusal :=
  match i with
  | .powerOnReset => Sys2Proof.Machine.execPowerOnReset s
  | .powerOnResetEnd straps paUp pbUp => Sys2Proof.Machine.execPowerOnResetEnd straps paUp pbUp s
  | .linkDown p => Sys2Proof.Machine.execLinkDown p s
  | .linkUp p => Sys2Proof.Machine.execLinkUp p s
  | .timebaseTick => Sys2Proof.Machine.execTimebaseTick s
  | .frameArrivalStart p => Sys2Proof.Machine.execFrameArrivalStart p s
  | .frameAddressesReceived p dst src => Sys2Proof.Machine.execFrameAddressesReceived p dst src s
  | .frameReceptionEnd p rest badCheck partialByte => Sys2Proof.Machine.execFrameReceptionEnd p rest badCheck partialByte s
  | .transmitEnd p => Sys2Proof.Machine.execTransmitEnd p s
  | .epochMark m => Sys2Proof.Machine.execEpochMark m s
  | .unsetDeadlineExpiry => Sys2Proof.Machine.execUnsetDeadlineExpiry s
  | .primaryLoss => Sys2Proof.Machine.execPrimaryLoss s
  | .secondaryLoss => Sys2Proof.Machine.execSecondaryLoss s
  | .freeRunExpiry => Sys2Proof.Machine.execFreeRunExpiry s
  | .passCompletion => Sys2Proof.Machine.execPassCompletion s
  | .reading r => Sys2Proof.Machine.execReading r s
  | .observedOrder o => Sys2Proof.Machine.execObservedOrder o s
  | .manualHoldEnd u => Sys2Proof.Machine.execManualHoldEnd u s
  | .orderReply r => Sys2Proof.Machine.execOrderReply r s
  | .replyTimeout slot => Sys2Proof.Machine.execReplyTimeout slot s
  | .startTimeout u => Sys2Proof.Machine.execStartTimeout u s
  | .stopTimeout u => Sys2Proof.Machine.execStopTimeout u s
  | .restoreTimeout u => Sys2Proof.Machine.execRestoreTimeout u s
  | .stepTimeout => Sys2Proof.Machine.execStepTimeout s
  | .serviceRequest r => Sys2Proof.Machine.execServiceRequest r s
  | .writeRecord => Sys2Proof.Machine.execWriteRecord s
  | .readRecord => Sys2Proof.Machine.execReadRecord s
  | .readState => Sys2Proof.Machine.execReadState s
  | .readEvents => Sys2Proof.Machine.execReadEvents s
  | .ackEvents => Sys2Proof.Machine.execAckEvents s
  | .clearConditions => Sys2Proof.Machine.execClearConditions s
  | .clearOverflow => Sys2Proof.Machine.execClearOverflow s
  | .setMode => Sys2Proof.Machine.execSetMode s
  | .cancelOrders => Sys2Proof.Machine.execCancelOrders s
  | .startPlan => Sys2Proof.Machine.execStartPlan s
  | .abortPlan => Sys2Proof.Machine.execAbortPlan s
  | .releaseFeeder => Sys2Proof.Machine.execReleaseFeeder s
  | .resetLockout => Sys2Proof.Machine.execResetLockout s
  | .engineReset => Sys2Proof.Machine.execEngineReset s
  | .unknownRequestKind => Sys2Proof.Machine.execUnknownRequestKind s

end Sys2Proof.Machine
end

