-- ==== Sys2Proof/Safety.lean ====
section
/-! DEFINITION. The terms in which statements about the part are made: a part at rest, a request at the head of the Service
Queue, what a command may not change, and the invariants that every step keeps. -/

namespace Sys2Proof.Machine

/-! ## Between commands -/

/-- The part runs and no hand-off of an earlier command is left over. -/
def Ready (s : State) : Prop := s.inReset = false ∧ s.agenda = []

/-- The part is ready, a request stands at the head of the Service Queue with `rest` behind it, and REPORT has a free place
for its response (R187). -/
structure HeadIs (s : State) (r : Request) (rest : List Request) : Prop where
  ready : Ready s
  queue : s.service.queue = r :: rest
  room  : s.egress.report.length < 16
  held  : s.egress.held = false

/-- The state with the head of the Service Queue taken off. -/
def popRequest (s : State) (rest : List Request) : State := { s with service := { s.service with queue := rest } }

/-- A command completes with a request answered: the state `u` that its effects leave, and the response queued on REPORT. -/
def Answered (i : Instr) (s u : State) (r : Request) (status : Status) (result : Result) : Prop :=
  exec i s = .next (joinReport u (responseTo r status result))

/-- A command completes with a request answered, its effects having left the state `v` with hand-offs still to take and one
place of REPORT held: the hand-offs are taken, the place is given back, and the response is queued (R187). -/
def Responds (i : Instr) (s v : State) (r : Request) (status : Status) (result : Result) : Prop :=
  exec i s = .next (joinReport (holdPlace (settle v) false) (responseTo r status result))

/-- A command completes: its own effect leaves the state `v`, and then the hand-offs it has made are taken. -/
def Hands (i : Instr) (s v : State) : Prop := exec i s = .next (settle v)

/-- The next slot of the Event Log is free to take a record (R181). -/
def logOpen (s : State) : Prop := s.events.overflow = false ∧ s.events.log.get s.events.writeIndex = none

/-- The record that a state makes now of an event (R180), its value in 32 bits. A value outside the signed 32-bit range is the
free value `Config.valueBeyond`. -/
def recordNow (s : State) (k : EventKind) (unit : Option UnitNo) (value : Option Int) (detail : Option Nat) : EventRec :=
  { kind := k, time := s.now, epoch := s.tracker.epoch, unit := unit, value := value.map eventValue, detail := detail }

/-! ## The numeric fields that WRITE RECORD stores, as their rules give them -/

/-- A numeric field of a record: its number (R189), its range, and the record with a value put in it. -/
structure NumField (α : Type) where
  number : Nat
  low    : Nat
  high   : Nat
  put    : α → Nat → α

/-- A value clamped to a field's range (Conventions, "Clamping"). -/
def NumField.clamp {α : Type} (f : NumField α) (x : Nat) : Nat := max f.low (min f.high x)

/-- A value lies in a field's range. -/
def NumField.holds {α : Type} (f : NumField α) (x : Nat) : Bool := decide (f.low ≤ x) && decide (x ≤ f.high)

/-- The numeric common fields of a unit record but the credit, whose write has a check of its own (R36, R189). -/
def commonFields : List (NumField UnitRec) :=
  [⟨2, 0, 7, fun r x => { r with zone := x }⟩,
   ⟨3, 0, 65535, fun r x => { r with rating := x }⟩,
   ⟨4, 20, 10000, fun r x => { r with interval := x }⟩,
   ⟨5, 2, 16, fun r x => { r with stale := x }⟩,
   ⟨8, 0, 65535, fun r x => { r with winLow := x }⟩,
   ⟨9, 0, 65535, fun r x => { r with winHigh := x }⟩]

/-- The numeric kind-specific fields of a unit record (R38, R189). -/
def kindFields : UnitKind → List (NumField UnitRec)
  | .genset =>
    [⟨10, 0, 15, fun r x => { r with genset := { r.genset with meritRank := x } }⟩,
     ⟨11, 1, 100, fun r x => { r with genset := { r.genset with loadLimit := x } }⟩,
     ⟨12, 0, 100, fun r x => { r with genset := { r.genset with minLoad := x } }⟩,
     ⟨13, 1000, 600000, fun r x => { r with genset := { r.genset with startTimeout := x } }⟩,
     ⟨14, 1000, 600000, fun r x => { r with genset := { r.genset with stopTimeout := x } }⟩,
     ⟨15, 0, 3600000, fun r x => { r with genset := { r.genset with minRun := x } }⟩,
     ⟨16, 1, 3, fun r x => { r with genset := { r.genset with maxAttempts := x } }⟩,
     ⟨17, 0, 600000, fun r x => { r with genset := { r.genset with retryDelay := x } }⟩,
     ⟨18, 1, 5, fun r x => { r with genset := { r.genset with tripLimit := x } }⟩]
  | .pv => [⟨10, 0, 65535, fun r x => { r with pv := { r.pv with floor := x } }⟩]
  | .feeder =>
    [⟨10, 0, 6, fun r x => { r with feeder := { r.feeder with stage := x } }⟩,
     ⟨11, 0, 255, fun r x => { r with feeder := { r.feeder with priority := x } }⟩,
     ⟨13, 1000, 60000, fun r x => { r with feeder := { r.feeder with restoreTimeout := x } }⟩]
  | .noUnit => []
  | .storage => []
  | .meter => []

/-- The numeric fields of a stage (R146, R189). -/
def stageFields : List (NumField Stage) :=
  [⟨0, 45000, 65000, fun g x => { g with threshold := x }⟩,
   ⟨1, 0, 60000, fun g x => { g with delay := x }⟩,
   ⟨2, 0, 5000, fun g x => { g with hysteresis := x }⟩]

/-- The numeric fields of a plan step but the argument, whose range is that of the action (R163, R189). -/
def planFields : List (NumField PlanStep) :=
  [⟨2, 100, 600000, fun p x => { p with timeout := x }⟩,
   ⟨4, 0, 600000, fun p x => { p with hold := x }⟩]

/-- The highest argument of each action (R163). -/
def argumentTops : List (StepAction × Nat) :=
  [(.noAction, 0), (.openAllFeeders, 0), (.startGenset, 63), (.waitStable, 0), (.closeUnit, 63), (.closeZone, 7),
   (.releasePv, 100), (.endPlan, 0)]

/-- The numeric fields of the Settings record (R19, R60, R71, R74, R103, R105, R151, R154, R160, R169, R189). -/
def settingsFields : List (NumField Settings) :=
  [⟨1, 2, 8, fun r x => { r with lossCount := x }⟩,
   ⟨2, 1, 8, fun r x => { r with returnCount := x }⟩,
   ⟨3, 0, 600000, fun r x => { r with holdTime := x }⟩,
   ⟨6, 20, 5000, fun r x => { r with replyTime := x }⟩,
   ⟨7, 0, 3, fun r x => { r with retryLimit := x }⟩,
   ⟨8, 45000, 65000, fun r x => { r with fNom := x }⟩,
   ⟨9, 45000, 65000, fun r x => { r with fHigh := x }⟩,
   ⟨10, 0, 65535, fun r x => { r with kCurt := x }⟩,
   ⟨11, 0, 65535, fun r x => { r with rrMin := x }⟩,
   ⟨12, 0, 100, fun r x => { r with pvRisk := x }⟩,
   ⟨13, 0, 100, fun r x => { r with pvCredit := x }⟩,
   ⟨14, 1, 65535, fun r x => { r with rocofLimit := x }⟩,
   ⟨15, 1, 16, fun r x => { r with startConfirm := x }⟩,
   ⟨17, 0, 65535, fun r x => { r with stopMargin := x }⟩,
   ⟨18, 1, 255, fun r x => { r with stopConfirm := x }⟩,
   ⟨19, 0, 100, fun r x => { r with restoreMargin := x }⟩,
   ⟨20, 45000, 65000, fun r x => { r with restoreFrequency := x }⟩,
   ⟨21, 1, 255, fun r x => { r with restoreHold := x }⟩,
   ⟨23, 1, 65535, fun r x => { r with releaseStep := x }⟩,
   ⟨24, 0, 65535, fun r x => { r with releaseMargin := x }⟩,
   ⟨25, 0, 100, fun r x => { r with pickup := x }⟩,
   ⟨27, 0, 600000, fun r x => { r with restoreInterval := x }⟩,
   ⟨29, 0, 65535, fun r x => { r with deadVoltage := x }⟩,
   ⟨30, 0, 65535, fun r x => { r with liveVoltage := x }⟩,
   ⟨31, 0, 60000, fun r x => { r with deadConfirm := x }⟩,
   ⟨32, 0, 3, fun r x => { r with restartLimit := x }⟩,
   ⟨33, 0, 5000, fun r x => { r with stableBand := x }⟩]

/-- The yes-or-no fields of the Settings record: their numbers, and the record with a value put in (R103, R105, R154, R160). -/
def settingsFlags : List (Nat × (Settings → Bool → Settings)) :=
  [(16, fun r b => { r with startForRestore := b }), (22, fun r b => { r with curtailEnable := b }),
   (26, fun r b => { r with restoreEnable := b }), (28, fun r b => { r with blackStart := b })]

/-- The status of a write whose values all lay in their ranges, or did not (R189). -/
def writeStatus (inRange : Bool) : Status := if inRange then .done else .doneClamped

/-- A unit is in use, so that its kind and its link address may not change: it holds an Order Slot, is on the Commitment List,
the Shed Stack or the pending shed list, or is referenced by a running plan (R163, R189). -/
def UnitUsed (s : State) (u : UnitNo) : Prop :=
  (∃ (i : SlotNo) (o : Order), s.slot i = some o ∧ o.target = u) ∨ u ∈ s.dispatcher.commit ∨
  u ∈ s.shed.stack.map StackEntry.feeder ∨ u ∈ s.shed.pending.map PendingShed.feeder ∨
  (s.progress.planState = .running ∧
    ((∃ k : Fin 32, ((s.seqr.plan.get k).action = .startGenset ∨ (s.seqr.plan.get k).action = .closeUnit) ∧
        (s.seqr.plan.get k).argument = u.val) ∨
      ((s.unit u).kind = .feeder ∧ (s.unit u).feederJob.shed = .openPlan)))

/-- The tracker as a write to a time-master address or to the epoch mode leaves it (R32). -/
def restartedTracker (s : State) : Tracker :=
  { s.tracker with
    state := .unset
    primaryRec := none
    secondaryRec := none
    lossDeadline := none
    freeDeadline := none
    unsetDeadline := if s.mode = .halted then none else some (after s.now 3000)
    primaryReturn := 0
    secondaryReturn := 0 }

/-! ## What commands keep -/

/-- Commands other than power-on reset and its end. -/
def notPowerReset : Instr → Bool
  | .powerOnReset => false
  | .powerOnResetEnd .. => false
  | _ => true

/-- The configuration fields of a unit record, its live and job fields left out (R36, R38). -/
def configOf (r : UnitRec) : UnitRec := { r with live := {}, gensetJob := {}, pvJob := {}, feederJob := {} }

/-- Two states hold the same configuration: Settings, Access, Stages, Routing, Phases, the plan and every unit record's
configuration fields (R192). -/
structure SameConfig (s t : State) : Prop where
  settings : t.service.settings = s.service.settings
  access   : t.service.access = s.service.access
  stages   : t.shed.stages = s.shed.stages
  routing  : t.events.routing = s.events.routing
  phases   : t.egress.phases = s.egress.phases
  plan     : t.seqr.plan = s.seqr.plan
  units    : ∀ u : UnitNo, configOf (t.unit u) = configOf (s.unit u)

/-! ## What serving the ports changes -/

/-- What an order is, apart from where it stands in its lifecycle: its target, kind, value, number, owner, class, plan step
and attempt (R63). -/
def Order.content (o : Order) : UnitNo × OrderKind × Option Nat × Byte × Owner × QClass × Option (Fin 32) × Nat :=
  (o.target, o.kind, o.value, o.number, o.owner, o.cls, o.planStep, o.attempt)

/-- Two states agree outside the Frame Path, the Egress Scheduler and the Order Transactor. -/
structure SameOutsidePorts (s t : State) : Prop where
  inReset    : t.inReset = s.inReset
  now        : t.now = s.now
  tracker    : t.tracker = s.tracker
  units      : t.units = s.units
  lastSource : t.lastSource = s.lastSource
  balance    : t.balance = s.balance
  alloc      : t.alloc = s.alloc
  dispatcher : t.dispatcher = s.dispatcher
  shed       : t.shed = s.shed
  seqr       : t.seqr = s.seqr
  events     : t.events = s.events
  service    : t.service = s.service
  schedule   : t.schedule = s.schedule
  agenda     : t.agenda = s.agenda
  pending    : t.pending = s.pending

/-- The work of handing queue entries to ports: outside the three blocks of the bus nothing changes; the station address, the
deliveries, the link states, the receivers and the forwarding buffers, the Phase Table, the held place and the order
counters are kept; every slot keeps its order; the waiting line and REPORT only lose entries; and an order that is SENT
and not in the waiting line stays SENT with its deadline. -/
structure PortWork (s t : State) : Prop where
  outside   : SameOutsidePorts s t
  station   : t.frame.station = s.frame.station
  delivered : t.frame.delivered = s.frame.delivered
  up        : ∀ p : Port, (t.port p).up = (s.port p).up
  rx        : ∀ p : Port, (t.port p).rx = (s.port p).rx
  buffer    : ∀ p : Port, (t.port p).buffer = (s.port p).buffer
  phases    : t.egress.phases = s.egress.phases
  held      : t.egress.held = s.egress.held
  counters  : t.orders.counters = s.orders.counters
  slots     : ∀ i : SlotNo, (t.slot i).map Order.content = (s.slot i).map Order.content
  waiting   : ∀ i : SlotNo, i ∈ t.orders.waiting → i ∈ s.orders.waiting
  report    : (t.egress.report.map fun r => (r.dst, r.body)).Sublist (s.egress.report.map fun r => (r.dst, r.body))
  sent      : ∀ (i : SlotNo) (o : Order), s.slot i = some o → o.state = .sent → i ∉ s.orders.waiting →
    ∃ o' : Order, t.slot i = some o' ∧ o'.state = .sent ∧ o'.deadline = o.deadline

/-! ## What a received frame delivers (R9 to R12, section 1.7) -/

/-- A 16-bit field, the most significant byte first. -/
def bytes16 (x : Num16) : List Byte := [x.extractLsb' 8 8, x.extractLsb' 0 8]

/-- A 32-bit field, the most significant byte first. -/
def bytes32 (x : BitVec 32) : List Byte := [x.extractLsb' 24 8, x.extractLsb' 16 8, x.extractLsb' 8 8, x.extractLsb' 0 8]

/-- The bytes of a frame that may stand between its source address and its protocol type: none, or one VLAN tag of any contents
(R9). -/
def IsTag (tag : List Byte) : Prop := tag = [] ∨ ∃ a b : Byte, tag = [0x81, 0x00, a, b]

/-- A station-protocol frame after its two addresses: the protocol type, the common header, the payload, and the padding and the
check sequence (section 1.7). -/
def wireBytes (tag : List Byte) (version cls unit kind : Byte) (seq epoch len : Num16) (payload tail : List Byte) : List Byte :=
  tag ++ [0x89, 0xA2, version, cls, unit, kind] ++ bytes16 seq ++ bytes16 epoch ++ bytes16 len ++ payload ++ tail

/-- The code of a breaker reading (section 1.7). -/
def breakerByte : Breaker → Byte
  | .opn => 0
  | .closed => 1

/-- The code of an engine reading (section 1.7). -/
def engineByte : Engine → Byte
  | .stopped => 0
  | .cranking => 1
  | .running => 2
  | .faulted => 3

/-- The code of a selector reading (section 1.7). -/
def selectorByte : Selector → Byte
  | .remote => 0
  | .localPanel => 1

/-- The verdict and reason codes of a reply (section 1.7, R10). -/
def verdictBytes : Verdict → Byte × Byte
  | .accept => (0, 0)
  | .refuse .localControl => (1, 1)
  | .refuse .notReady => (1, 2)
  | .refuse .outOfRange => (1, 3)
  | .refuse .unitFault => (1, 4)

/-- The payloads that carry a reading, by its kind; the pad bytes are any (section 1.7). -/
def ReadingBytes (payload : List Byte) : ReadingBody → Prop
  | .genset output breaker engine selector => ∃ a : Byte,
      payload = bytes32 output ++ [breakerByte breaker, engineByte engine, selectorByte selector, a]
  | .pv output available cap breaker => ∃ (a b : Byte) (c : BitVec 32), (∀ x : BitVec 32, cap = some x → c = x) ∧
      payload = bytes32 output ++ bytes32 available ++ [if cap.isSome then 1 else 0, breakerByte breaker, a, b] ++ bytes32 c
  | .storage output discharge charge soc breaker => ∃ a b : Byte,
      payload = bytes32 output ++ bytes32 discharge ++ bytes32 charge ++ [soc, breakerByte breaker, a, b]
  | .feeder load breaker => ∃ a b c : Byte, payload = bytes32 load ++ [breakerByte breaker, a, b, c]
  | .meter frequency voltage => payload = bytes32 frequency ++ bytes32 voltage

/-- What a station-protocol frame with a well-formed header delivers, by its class and by whether it is addressed to the part
(R10 to R12). The arguments of a request kind that takes any are a free value (notes/assumptions/2.md). -/
structure Delivers (p : Port) (src : Addr) (toPart : Bool) (cls unit kind : Byte) (seq epoch : Num16) (payload : List Byte)
    (d : Option Delivery) : Prop where
  reading    : cls = 1 → ∀ (u : UnitNo) (body : ReadingBody), unit.toNat = u.val → kind.toNat = kindCode (bodyKind body) →
    ReadingBytes payload body →
    d = some (.reading { port := p, src := src, unit := u, seq := seq, epoch := epoch, body := body })
  readingBad : cls = 1 → (64 ≤ unit.toNat ∨
    ∀ body : ReadingBody, kind.toNat = kindCode (bodyKind body) → ¬ ReadingBytes payload body) → d = none
  mark       : cls = 2 → ∀ (period : Num16) (a b : Byte), payload = bytes16 period ++ [a, b] →
    d = some (.mark { src := src, unit := unit, kind := kind, seq := seq, number := epoch, period := period })
  markBad    : cls = 2 → payload.length ≠ 4 → d = none
  order      : cls = 3 → toPart = false → ∀ (u : UnitNo) (k : UnitKind) (o : OrderKind) (number code a b : Byte)
    (value : BitVec 32), unit.toNat = u.val → k ≠ .noUnit → kind.toNat = kindCode k → code.toNat = orderCode o →
    payload = [number, code, a, b] ++ bytes32 value →
    d = some (.observed { src := src, unit := u, kind := k, seq := seq, epoch := epoch, number := number, order := o,
                          value := value })
  orderBad   : cls = 3 → (toPart = true ∨ 64 ≤ unit.toNat ∨ kind = 0 ∨ 5 < kind.toNat ∨ payload.length ≠ 8 ∨
    ∀ code : Byte, payload[1]? = some code → code = 0 ∨ 6 < code.toNat) → d = none
  reply      : cls = 4 → toPart = true → ∀ (u : UnitNo) (v : Verdict) (number a : Byte), unit.toNat = u.val →
    payload = [number, (verdictBytes v).1, (verdictBytes v).2, a] →
    d = some (.reply { port := p, src := src, unit := u, kind := kind, seq := seq, epoch := epoch, number := number,
                       verdict := v })
  replyBad   : cls = 4 → (toPart = false ∨ 64 ≤ unit.toNat ∨
    ∀ (v : Verdict) (number a : Byte), payload ≠ [number, (verdictBytes v).1, (verdictBytes v).2, a]) → d = none
  request    : cls = 5 → toPart = true → ∀ (tag : Num16) (k a : Byte) (args : List Byte), payload = bytes16 tag ++ [k, a] ++ args →
    ∃ x : ReqArgs, d = some (.request { port := p, src := src, unit := unit, unitKind := kind, seq := seq, epoch := epoch,
                                        tag := tag, kind := k, args := x }) ∧
      x = if k = 3 ∨ k = 7 ∨ k = 10 ∨ k = 11 ∨ k = 14 then (if args = [] then .nothing else .malformed)
        else Config.requestArgs k args
  requestBad : cls = 5 → (toPart = false ∨ payload.length < 4) → d = none
  others     : (cls = 0 ∨ 5 < cls.toNat) → d = none

/-! ## What a port is handed (R14, R17, R70, R81) -/

/-- An order entry is eligible for a port (R70): while a copy is owed, for its pending port alone, and before a copy is handed
for the port of its target's side, or for both while that side is UNKNOWN. -/
def OrderEligible (s : State) (p : Port) (i : SlotNo) : Prop :=
  ∃ o : Order, s.slot i = some o ∧ (o.pendingPort = some p ∨
    o.pendingPort = none ∧ ((s.unit o.target).live.side = none ∨ (s.unit o.target).live.side = some p))

/-- The item that a class has for a port: the oldest of its entries that is eligible (R81). A REPORT entry, named by its position,
is eligible on the ports it names and has not been handed to. -/
def ClassServes (s : State) (p : Port) (c : QClass) : Item → Prop
  | .order i => c ≠ .report ∧ OrderEligible s p i ∧ ∃ before later : List SlotNo, s.queue c = before ++ i :: later ∧
      ∀ j ∈ before, ¬ OrderEligible s p j
  | .report k => c = .report ∧ ∃ r : ReportItem, s.egress.report[k]? = some r ∧ r.ports.has p = true ∧
      ∀ (j : Nat) (x : ReportItem), j < k → s.egress.report[j]? = some x → x.ports.has p = false

/-- URGENT has no item for a port. -/
def NoUrgent (s : State) (p : Port) : Prop := ∀ x : Item, ¬ ClassServes s p .urgent x

/-- The Phase Table's choice for a port: the first position from its phase pointer, wrapping, whose class has an item, and that
item (R81). -/
def PhaseServes (s : State) (p : Port) (k : Fin 16) (x : Item) : Prop :=
  ∃ d : Fin 16, k = s.phase p + d ∧ ClassServes s p (s.egress.phases.get k) x ∧
    ∀ e : Fin 16, e < d → ∀ y : Item, ¬ ClassServes s p (s.egress.phases.get (s.phase p + e)) y

/-- A port is UP and transmits. -/
def PortBusy (s : State) (p : Port) : Prop := (s.port p).up = true ∧ (s.port p).tx ≠ .free

/-- A port takes nothing at once: it is busy, or no class has an item for it. -/
def PortQuiet (s : State) (p : Port) : Prop := PortBusy s p ∨ ∀ (c : QClass) (x : Item), ¬ ClassServes s p c x

/-- A port takes nothing at once, and does not when a place of a class queue is given up either: it is busy, or no class has an
item for it and no slot waits for a queue place (R69). -/
def PortStill (s : State) (p : Port) : Prop :=
  PortBusy s p ∨ s.orders.waiting = [] ∧ ∀ (c : QClass) (x : Item), ¬ ClassServes s p c x

/-- The sequence counters of the frames that the part sends: ORDER, SERVICE RESPONSE and NOTICE (R17). -/
def sequences (s : State) : Num16 × Num16 × Num16 := (s.frame.seqOrder, s.frame.seqResponse, s.frame.seqNotice)

/-- An order of a state is handed to an UP port (R15, R17, R70): the first copy of an attempt takes the next ORDER sequence and E
and an owed copy repeats them; the port joins the in-transmission set; the order stays in its queue at its place when the first
copy went while the side was UNKNOWN, and else leaves it. -/
structure OrderLeaves (s t : State) (p : Port) (i : SlotNo) (o : Order) : Prop where
  frame : ∃ (st : Stamp) (o' : Order), st = o.stamp.getD ⟨s.frame.seqOrder + 1, s.tracker.epoch⟩ ∧
    (t.port p).tx = .order i {
      dst := (s.unit o.target).linkAddr, src := s.frame.station, unit := o.target.val, kind := (s.unit o.target).kind,
      seq := st.seq, epoch := st.epoch, payload := .order o.number o.kind (o.value.getD 0) } ∧
    t.slot i = some o' ∧ o'.content = o.content ∧ o'.stamp = some st ∧ o'.inTx.has p = true ∧
    o'.inTx.has p.other = o.inTx.has p.other ∧
    o'.pendingPort = if o.pendingPort = none ∧ (s.unit o.target).live.side = none then some p.other else none
  count : sequences t =
    (if o.stamp = none then s.frame.seqOrder + 1 else s.frame.seqOrder, s.frame.seqResponse, s.frame.seqNotice)
  queue : s.orders.waiting = [] → ∀ c : QClass, t.queue c =
    if c = o.cls ∧ (o.pendingPort ≠ none ∨ (s.unit o.target).live.side ≠ none) then (s.queue c).filter (· != i)
    else s.queue c
  report : t.egress.report = s.egress.report

/-- A REPORT entry of a state is handed to an UP port (R15, R17, R81, R83): its first transmission takes the next sequence of its
class and E, and one on its other port repeats them; the entry leaves REPORT when no other port is owed it. -/
structure ReportLeaves (s t : State) (p : Port) (k : Nat) (r : ReportItem) : Prop where
  frame : ∃ (seq : Num16) (st : Stamp),
    (seq = match r.body with
      | .response .. => s.frame.seqResponse + 1
      | .notice .. => s.frame.seqNotice + 1) ∧
    st = r.stamp.getD ⟨seq, s.tracker.epoch⟩ ∧
    (t.port p).tx = .report {
      dst := r.dst, src := s.frame.station, unit := 255, kind := .noUnit, seq := st.seq, epoch := st.epoch,
      payload := .report r.body } ∧
    (sequences t = if r.stamp ≠ none then sequences s else match r.body with
      | .response .. => (s.frame.seqOrder, seq, s.frame.seqNotice)
      | .notice .. => (s.frame.seqOrder, s.frame.seqResponse, seq)) ∧
    t.egress.report = if r.ports.has p.other then s.egress.report.set k { r with ports := r.ports.erase p, stamp := some st }
      else s.egress.report.eraseIdx k
  queues : ∀ c : QClass, t.queue c = s.queue c

/-- An item of a state is handed to an UP port. -/
def ItemLeaves (s t : State) (p : Port) : Item → Prop
  | .order i => ∀ o : Order, s.slot i = some o → OrderLeaves s t p i o
  | .report k => ∀ r : ReportItem, s.egress.report[k]? = some r → ReportLeaves s t p k r

/-- The oldest frame that waits to leave by a port becomes the one being sent, in its place of the other port's buffer, whose
places are those of `buffer` (R14). -/
def OldestSent (buffer : List Place) (t : State) (p : Port) : Prop :=
  (t.port p).tx = .forwarding ∧ ∀ (before later : List Place) (x : Place), buffer = before ++ x :: later →
    (∀ y ∈ before, y.waiting = false) → x.waiting = true →
    (t.port p.other).buffer = before ++ { x with sending := true } :: later

/-- Two states agree outside the Frame Path, the Egress Scheduler, the Order Transactor and the Condition and Event Unit. -/
structure SameOutsideRecord (s t : State) : Prop where
  inReset    : t.inReset = s.inReset
  now        : t.now = s.now
  tracker    : t.tracker = s.tracker
  units      : t.units = s.units
  lastSource : t.lastSource = s.lastSource
  balance    : t.balance = s.balance
  alloc      : t.alloc = s.alloc
  dispatcher : t.dispatcher = s.dispatcher
  shed       : t.shed = s.shed
  seqr       : t.seqr = s.seqr
  service    : t.service = s.service
  schedule   : t.schedule = s.schedule
  agenda     : t.agenda = s.agenda
  pending    : t.pending = s.pending

/-- The work of recording events and raising conditions: the blocks outside the bus and the Condition and Event Unit are
untouched, a latched condition stays latched, a record in the Event Log stays, an outstanding group stays outstanding, and
on the bus happens only what `PortWork` allows but for the entries that join REPORT. -/
structure RecordWork (s t : State) : Prop where
  outside     : SameOutsideRecord s t
  latched     : ∀ c : Condition, s.isLatched c = true → t.isLatched c = true
  log         : ∀ (i : LogNo) (r : EventRec), s.events.log.get i = some r → t.events.log.get i = some r
  routing     : t.events.routing = s.events.routing
  primarySide : t.events.primarySide = s.events.primarySide
  backupSide  : t.events.backupSide = s.events.backupSide
  groups      : ∀ g : Fin 8, s.events.groups.get g = true → t.events.groups.get g = true
  station     : t.frame.station = s.frame.station
  delivered   : t.frame.delivered = s.frame.delivered
  up          : ∀ p : Port, (t.port p).up = (s.port p).up
  rx          : ∀ p : Port, (t.port p).rx = (s.port p).rx
  buffer      : ∀ p : Port, (t.port p).buffer = (s.port p).buffer
  phases      : t.egress.phases = s.egress.phases
  held        : t.egress.held = s.egress.held
  counters    : t.orders.counters = s.orders.counters
  slots       : ∀ i : SlotNo, (t.slot i).map Order.content = (s.slot i).map Order.content
  waiting     : ∀ i : SlotNo, i ∈ t.orders.waiting → i ∈ s.orders.waiting
  sent        : ∀ (i : SlotNo) (o : Order), s.slot i = some o → o.state = .sent → i ∉ s.orders.waiting →
    ∃ o' : Order, t.slot i = some o' ∧ o'.state = .sent ∧ o'.deadline = o.deadline

/-! ## Invariants -/

/-- The plan is RUNNING exactly when the engine mode is RESTORE (R164). -/
def PlanMode (s : State) : Prop := s.progress.planState = .running ↔ s.mode = .restore

/-- The bounds on occupied slots: no unit has more than its credit, and at most eight hold orders of a class other than
URGENT (R64). -/
structure SlotBounds (s : State) : Prop where
  credit    : ∀ u : UnitNo, s.inFlight u ≤ (s.unit u).credit
  nonUrgent : s.nonUrgent ≤ 8

/-- Every order in a slot is of a kind in its target's permitted-order set (R67). -/
def Permitted (s : State) : Prop :=
  ∀ (i : SlotNo) (o : Order), s.slot i = some o → (s.unit o.target).permits.has o.kind = true

/-- The Commitment List holds no gen-set twice and holds exactly the committed gen-sets (R123); a record of another kind
has no Dispatcher items. -/
structure CommitExact (s : State) : Prop where
  once   : s.dispatcher.commit.Nodup
  exact  : ∀ u : UnitNo, u ∈ s.dispatcher.commit ↔
    (s.unit u).kind = .genset ∧ (s.unit u).gensetJob.dispatch.committed = true
  others : ∀ u : UnitNo, (s.unit u).kind ≠ .genset → (s.unit u).gensetJob = {}

/-- The shed states in which a non-essential feeder stands on the Shed Stack (R142). -/
def stacked : ShedState → Bool
  | .opening | .shed | .restoring => true
  | .unknown | .closed | .openOther | .openPlan => false

/-- The Shed Stack holds a feeder at most once, and holds exactly the non-essential feeders in OPENING, SHED or RESTORING
(R142). The last three clauses make it inductive: an essential feeder is never OPENING or SHED, a pending entry is a CLOSED
non-essential feeder that is listed once, and a record of another kind has no Shed Controller items. -/
structure StackExact (s : State) : Prop where
  once    : (s.shed.stack.map StackEntry.feeder).Nodup
  exact   : ∀ u : UnitNo, u ∈ s.shed.stack.map StackEntry.feeder ↔
    (s.unit u).kind = .feeder ∧ (s.unit u).feeder.essential = false ∧ stacked (s.unit u).feederJob.shed = true
  plain   : ∀ u : UnitNo, (s.unit u).feeder.essential = true →
    (s.unit u).feederJob.shed ≠ .opening ∧ (s.unit u).feederJob.shed ≠ .shed
  pending : (s.shed.pending.map PendingShed.feeder).Nodup ∧
    ∀ u : UnitNo, u ∈ s.shed.pending.map PendingShed.feeder →
      (s.unit u).kind = .feeder ∧ (s.unit u).feeder.essential = false ∧ (s.unit u).feederJob.shed = .closed
  others  : ∀ u : UnitNo, (s.unit u).kind ≠ .feeder → (s.unit u).feederJob = {} ∧ (s.unit u).feeder = {}

/-- The tables that a record request may name, each with its first and its last index (R189). -/
def tableIndexes : List (Nat × Nat × Nat) :=
  [(1, 0, 63), (2, 0, 31), (3, 1, 6), (4, 1, 26), (5, 0, 15), (6, 0, 0), (7, 0, 0)]

/-- The number of the last field of a unit record of a kind (R36, R38, R189). -/
def lastUnitField : UnitKind → Nat
  | .noUnit => 0
  | .genset => 18
  | .pv => 10
  | .storage => 9
  | .feeder => 13
  | .meter => 9

/-- How many records of a kind the Unit Table may hold (R35). -/
def kindLimits : List (UnitKind × Nat) := [(.genset, 16), (.pv, 32), (.storage, 8), (.feeder, 32), (.meter, 4)]

/-- The classes that a Phase Table position may name, by the model's codes (R82, notes/assumptions/2.md). -/
def phaseCodes : List (Nat × QClass) := [(1, .dispatch), (2, .setpoint), (3, .report)]

/-- A record after its kind is changed to another: the configuration of the new kind at its defaults and the live and job fields
at their initial values; NONE leaves an empty record (R38, R39). -/
def changedKind (r : UnitRec) (k : UnitKind) : UnitRec :=
  if k = .noUnit then {}
  else { r with kind := k, genset := {}, pv := {}, feeder := {}, live := {}, gensetJob := {}, pvJob := {}, feederJob := {} }

/-- A unit record as it is returned: the record, its in-flight count, and the codes of its enumerated items (R190). -/
def unitShown (s : State) (u : UnitNo) (r : UnitRec) : RecordView :=
  .unit { r with link := some (r.link.getD 0) } (s.inFlight u) r.codes

/-- A write of one value to one field of a unit record is answered as stored. -/
def UnitStored (s : State) (r : Request) (rest : List Request) (u : UnitNo) (x : UnitRec) (inRange : Bool) : Prop :=
  Answered .writeRecord s ((popRequest s rest).setUnit u x) r (writeStatus inRange) (.records [unitShown s u x])

/-- A write is refused, and changes nothing but the queue and REPORT (R188). -/
def WriteRefused (s : State) (r : Request) (rest : List Request) (why : Status) : Prop :=
  Answered .writeRecord s (popRequest s rest) r why .nothing

/-- WRITE RECORD of table UNIT, one field, two, and two of which one is refused (R35 to R39, R67, R142, R189). The bounds of R64
and R67, which every step keeps, are premises where a write that touches neither credit nor permits would otherwise be refused
for them. -/
structure UnitWrites (s : State) (r : Request) (rest : List Request) (u : UnitNo) : Prop where
  numeric : ∀ (f : NumField UnitRec) (x : Nat), f ∈ commonFields ++ kindFields (s.unit u).kind → (s.unit u).kind ≠ .noUnit →
    SlotBounds s → Permitted s → r.args = .write 1 u.val [f.number] [.num x] →
    UnitStored s r rest u (f.put (s.unit u) (f.clamp x)) (f.holds x)
  credit : ∀ x : Nat, (s.unit u).kind ≠ .noUnit → Permitted s → r.args = .write 1 u.val [6] [.num x] →
    (max 1 (min 4 x) < s.inFlight u → WriteRefused s r rest .inUse) ∧
    (s.inFlight u ≤ max 1 (min 4 x) →
      UnitStored s r rest u { s.unit u with credit := max 1 (min 4 x) } (decide (1 ≤ x) && decide (x ≤ 4)))
  permits : ∀ a b c d e f : Bool, (s.unit u).kind ≠ .noUnit → SlotBounds s →
    r.args = .write 1 u.val [7] [.orders a b c d e f] →
    ((∃ (i : SlotNo) (o : Order), s.slot i = some o ∧ o.target = u ∧ PermitSet.has ⟨a, b, c, d, e, f⟩ o.kind = false) →
      WriteRefused s r rest .inUse) ∧
    ((∀ (i : SlotNo) (o : Order), s.slot i = some o → o.target = u → PermitSet.has ⟨a, b, c, d, e, f⟩ o.kind = true) →
      UnitStored s r rest u { s.unit u with permits := ⟨a, b, c, d, e, f⟩ } true)
  kindUndefined : ∀ n : Nat, 5 < n → r.args = .write 1 u.val [0] [.num n] → WriteRefused s r rest .badValue
  kindSame : SlotBounds s → Permitted s → r.args = .write 1 u.val [0] [.num (kindCode (s.unit u).kind)] →
    UnitStored s r rest u (s.unit u) true
  kindLimit : ∀ (k : UnitKind) (top : Nat), (k, top) ∈ kindLimits → k ≠ (s.unit u).kind →
    r.args = .write 1 u.val [0] [.num (kindCode k)] →
    top ≤ ((List.finRange 64).filter fun v => v ≠ u ∧ (s.unit v).kind = k).length → WriteRefused s r rest .limit
  kindChange : ∀ k : UnitKind, k ≠ (s.unit u).kind → r.args = .write 1 u.val [0] [.num (kindCode k)] →
    (∀ top : Nat, (k, top) ∈ kindLimits →
      ((List.finRange 64).filter fun v => v ≠ u ∧ (s.unit v).kind = k).length < top) →
    (UnitUsed s u → WriteRefused s r rest .inUse) ∧
    (¬ UnitUsed s u → UnitStored s r rest u (changedKind (s.unit u) k) true)
  link : ∀ a : Addr, (s.unit u).kind ≠ .noUnit → SlotBounds s → Permitted s → r.args = .write 1 u.val [1] [.addr a] →
    (a = (s.unit u).linkAddr → UnitStored s r rest u { s.unit u with link := some a } true) ∧
    (a ≠ (s.unit u).linkAddr → UnitUsed s u → WriteRefused s r rest .inUse) ∧
    (a ≠ (s.unit u).linkAddr → ¬ UnitUsed s u → UnitStored s r rest u { s.unit u with link := some a, live := {} } true)
  essential : ∀ b : Bool, (s.unit u).kind = .feeder → SlotBounds s → Permitted s → r.args = .write 1 u.val [12] [.flag b] →
    ∀ guarded : Bool, (guarded = true ↔ b ≠ (s.unit u).feeder.essential ∧ (u ∈ s.shed.stack.map StackEntry.feeder ∨
        u ∈ s.shed.pending.map PendingShed.feeder ∨ (s.unit u).feederJob.shed = .restoring)) →
      (guarded = true → WriteRefused s r rest .inUse) ∧
      (guarded = false →
        UnitStored s r rest u { s.unit u with feeder := { (s.unit u).feeder with essential := b } } true)
  noField : ∀ (n : Nat) (v : FieldVal), lastUnitField (s.unit u).kind < n → r.args = .write 1 u.val [n] [v] →
    WriteRefused s r rest .badRequest
  several : ∀ (f g : NumField UnitRec) (x y : Nat), f ∈ commonFields ++ kindFields (s.unit u).kind →
    g ∈ commonFields ++ kindFields (s.unit u).kind → f.number < g.number → (s.unit u).kind ≠ .noUnit → SlotBounds s → Permitted s →
    r.args = .write 1 u.val [f.number, g.number] [.num x, .num y] →
    UnitStored s r rest u (g.put (f.put (s.unit u) (f.clamp x)) (g.clamp y)) (f.holds x && g.holds y)
  withKind : ∀ (k : UnitKind) (g : NumField UnitRec) (y : Nat), k ≠ (s.unit u).kind →
    r.args = .write 1 u.val [0, g.number] [.num (kindCode k), .num y] →
    ((k = .noUnit ∨ lastUnitField k < g.number) → WriteRefused s r rest .badRequest) ∧
    (k ≠ .noUnit → g ∈ commonFields ++ kindFields k →
      ∀ top : Nat, (k, top) ∈ kindLimits →
      (top ≤ ((List.finRange 64).filter fun v => v ≠ u ∧ (s.unit v).kind = k).length → WriteRefused s r rest .limit) ∧
      (((List.finRange 64).filter fun v => v ≠ u ∧ (s.unit v).kind = k).length < top →
        (UnitUsed s u → WriteRefused s r rest .inUse) ∧
        (¬ UnitUsed s u → UnitStored s r rest u (g.put (changedKind (s.unit u) k) (g.clamp y)) (g.holds y))))
  oneRefused : ∀ (f : NumField UnitRec) (x : Nat), f ∈ commonFields ++ kindFields (s.unit u).kind → (s.unit u).kind ≠ .noUnit →
    (∀ (n : Nat) (v : FieldVal), lastUnitField (s.unit u).kind < n → r.args = .write 1 u.val [f.number, n] [.num x, v] →
      WriteRefused s r rest .badRequest) ∧
    (∀ n : Nat, 5 < n → r.args = .write 1 u.val [0, f.number] [.num n, .num x] → WriteRefused s r rest .badValue) ∧
    (∀ y : Nat, f.number < 6 → max 1 (min 4 y) < s.inFlight u → r.args = .write 1 u.val [f.number, 6] [.num x, .num y] →
      WriteRefused s r rest .inUse) ∧
    (∀ a b c d e g : Bool, f.number < 7 →
      (∃ (i : SlotNo) (o : Order), s.slot i = some o ∧ o.target = u ∧ PermitSet.has ⟨a, b, c, d, e, g⟩ o.kind = false) →
      r.args = .write 1 u.val [f.number, 7] [.num x, .orders a b c d e g] → WriteRefused s r rest .inUse)

/-- WRITE RECORD of table SETTINGS: numeric fields one at a time and two together, with a refused one, yes-or-no fields, the
meters, the freeze mask and the epoch mode (R32, R53, R54, R179, R189). -/
structure SettingsWrites (s : State) (r : Request) (rest : List Request) : Prop where
  numeric : ∀ (f : NumField Settings) (x : Nat), f ∈ settingsFields → r.args = .write 6 0 [f.number] [.num x] →
    ∀ st : Settings, st = f.put s.settings (f.clamp x) →
      Answered .writeRecord s { popRequest s rest with service := { s.service with queue := rest, settings := st } } r
        (writeStatus (f.holds x)) (.records [.settings st])
  several : ∀ (f g : NumField Settings) (x y : Nat), f ∈ settingsFields → g ∈ settingsFields → f.number < g.number →
    r.args = .write 6 0 [f.number, g.number] [.num x, .num y] →
    ∀ st : Settings, st = g.put (f.put s.settings (f.clamp x)) (g.clamp y) →
      Answered .writeRecord s { popRequest s rest with service := { s.service with queue := rest, settings := st } } r
        (writeStatus (f.holds x && g.holds y)) (.records [.settings st])
  flags : ∀ (x : Nat × (Settings → Bool → Settings)) (b : Bool), x ∈ settingsFlags → r.args = .write 6 0 [x.1] [.flag b] →
    ∀ st : Settings, st = x.2 s.settings b →
      Answered .writeRecord s { popRequest s rest with service := { s.service with queue := rest, settings := st } } r
        .done (.records [.settings st])
  freezeMask : ∀ m : BitVec 14, r.args = .write 6 0 [34] [.conditions m] →
    ∀ st : Settings, st = { s.settings with freezeMask := m } →
      Answered .writeRecord s { popRequest s rest with service := { s.service with queue := rest, settings := st } } r
        .done (.records [.settings st])
  backup : ∀ x : Nat, r.args = .write 6 0 [5] [.num x] →
    (∀ (m : Option UnitNo) (st : Settings), (m = none ∧ x = 255 ∨ ∃ u : UnitNo, m = some u ∧ x = u.val) →
      st = { s.settings with backup := m } →
      Answered .writeRecord s { popRequest s rest with service := { s.service with queue := rest, settings := st } } r
        .done (.records [.settings st])) ∧
    (64 ≤ x → x ≠ 255 → WriteRefused s r rest .badValue)
  reference : ∀ x : Nat, r.args = .write 6 0 [4] [.num x] →
    (∀ (m : Option UnitNo) (st : Settings), (m = none ∧ x = 255 ∨ ∃ u : UnitNo, m = some u ∧ x = u.val) →
      st = { s.settings with reference := m } →
      ∃ v : State, Responds .writeRecord s v r .done (.records [.settings st]) ∧ v.agenda = [] ∧
        v.service = { s.service with queue := rest, settings := st } ∧ v.units = s.units ∧ v.tracker = s.tracker ∧
        (s.isLatched .referenceStale = true → v.events = s.events) ∧
        ((∃ u : UnitNo, m = some u ∧ (s.unit u).kind = .meter ∧ (s.unit u).live.freshness = .stale) →
          (∀ u : UnitNo, s.settings.reference = some u →
            (s.unit u).kind ≠ .meter ∨ (s.unit u).live.freshness ≠ .stale) →
          v.isLatched .referenceStale = true)) ∧
    (64 ≤ x → x ≠ 255 → WriteRefused s r rest .badValue)
  epochMode : ∀ x : Nat, r.args = .write 6 0 [0] [.num x] →
    (∀ m : EpochMode, (m = .single ∧ x = 0 ∨ m = .dual ∧ x = 1) →
      ∃ v : State, Responds .writeRecord s v r .done (.records [.settings { s.settings with epochMode := m }]) ∧
        v.agenda = [] ∧ v.service = { s.service with queue := rest, settings := { s.settings with epochMode := m } } ∧
        v.tracker = restartedTracker s ∧ v.units = s.units ∧ v.balance = s.balance ∧
        (s.tracker.state = .unset → v.events = s.events) ∧
        (s.tracker.state ≠ .unset → logOpen s → v.events.log.get s.events.writeIndex =
          some (recordNow s .epochSourceChanged none (some (s.tracker.state.code : Int)) (some 0)))) ∧
    (1 < x → WriteRefused s r rest .badValue)
  noField : ∀ (n : Nat) (v : FieldVal), 34 < n → r.args = .write 6 0 [n] [v] → WriteRefused s r rest .badRequest
  oneRefused : ∀ (f : NumField Settings) (x : Nat), f ∈ settingsFields →
    (∀ (n : Nat) (v : FieldVal), 34 < n → r.args = .write 6 0 [f.number, n] [.num x, v] → WriteRefused s r rest .badRequest) ∧
    (∀ y : Nat, f.number < 5 → 64 ≤ y → y ≠ 255 → r.args = .write 6 0 [f.number, 5] [.num x, .num y] →
      WriteRefused s r rest .badValue) ∧
    (∀ y : Nat, 1 < y → r.args = .write 6 0 [0, f.number] [.num y, .num x] → WriteRefused s r rest .badValue)

/-- WRITE RECORD of table ACCESS: a controller address makes its side UNKNOWN (R185), a time-master address restarts the tracker
(R32), and the address of zeros empties an entry (R186). -/
structure AccessWrites (s : State) (r : Request) (rest : List Request) : Prop where
  primaryController : ∀ (a : Addr) (w : Access), r.args = .write 7 0 [0] [.addr a] →
    w = { s.access with primaryController := if a = 0 then none else some a } →
    Answered .writeRecord s { popRequest s rest with
      service := { s.service with queue := rest, access := w }
      events := { s.events with primarySide := none } } r .done (.records [.access w])
  backupController : ∀ (a : Addr) (w : Access), r.args = .write 7 0 [1] [.addr a] →
    w = { s.access with backupController := if a = 0 then none else some a } →
    Answered .writeRecord s { popRequest s rest with
      service := { s.service with queue := rest, access := w }
      events := { s.events with backupSide := none } } r .done (.records [.access w])
  timeMasters : ∀ (n : Nat) (a : Addr) (w : Access), r.args = .write 7 0 [n] [.addr a] →
    (n = 2 ∧ w = { s.access with primaryTimeMaster := if a = 0 then none else some a } ∨
      n = 3 ∧ w = { s.access with secondaryTimeMaster := if a = 0 then none else some a }) →
    ∃ v : State, Responds .writeRecord s v r .done (.records [.access w]) ∧ v.agenda = [] ∧
      v.service = { s.service with queue := rest, access := w } ∧ v.tracker = restartedTracker s ∧ v.units = s.units ∧
      v.balance = s.balance ∧ v.events.primarySide = s.events.primarySide ∧ v.events.backupSide = s.events.backupSide ∧
      (s.tracker.state = .unset → v.events = s.events) ∧
      (s.tracker.state ≠ .unset → logOpen s → v.events.log.get s.events.writeIndex =
        some (recordNow s .epochSourceChanged none (some (s.tracker.state.code : Int)) (some 0)))
  noField : ∀ (n : Nat) (v : FieldVal), 3 < n → r.args = .write 7 0 [n] [v] → WriteRefused s r rest .badRequest
  several : ∀ (a b : Addr) (w : Access), r.args = .write 7 0 [0, 1] [.addr a, .addr b] →
    w = { s.access with
      primaryController := if a = 0 then none else some a
      backupController := if b = 0 then none else some b } →
    Answered .writeRecord s { popRequest s rest with
      service := { s.service with queue := rest, access := w }
      events := { s.events with primarySide := none, backupSide := none } } r .done (.records [.access w])
  oneRefused : ∀ (k n : Nat) (a : Addr) (v : FieldVal), k ≤ 3 → 3 < n → r.args = .write 7 0 [k, n] [.addr a, v] →
    WriteRefused s r rest .badRequest

/-- WRITE RECORD of table STAGES: the field is stored, and the timer of a disabled stage is IDLE (R146). -/
structure StageWrites (s : State) (r : Request) (rest : List Request) (n : Fin 6) : Prop where
  numeric : ∀ (f : NumField Stage) (x : Nat), f ∈ stageFields → r.args = .write 3 (n.val + 1) [f.number] [.num x] →
    ∀ g : Stage, g = f.put (s.shed.stages.get n) (f.clamp x) →
      Answered .writeRecord s { popRequest s rest with shed := {
          s.shed with
          stages := s.shed.stages.set n g
          timers := if g.enabled then s.shed.timers else s.shed.timers.set n {} } } r
        (writeStatus (f.holds x)) (.records [.stage g])
  enabled : ∀ b : Bool, r.args = .write 3 (n.val + 1) [3] [.flag b] →
    ∀ g : Stage, g = { s.shed.stages.get n with enabled := b } →
      Answered .writeRecord s { popRequest s rest with shed := {
          s.shed with
          stages := s.shed.stages.set n g
          timers := if b then s.shed.timers else s.shed.timers.set n {} } } r .done (.records [.stage g])
  noField : ∀ (k : Nat) (v : FieldVal), 3 < k → r.args = .write 3 (n.val + 1) [k] [v] → WriteRefused s r rest .badRequest
  several : ∀ (f : NumField Stage) (x : Nat) (b : Bool), f ∈ stageFields →
    r.args = .write 3 (n.val + 1) [f.number, 3] [.num x, .flag b] →
    ∀ g : Stage, g = { f.put (s.shed.stages.get n) (f.clamp x) with enabled := b } →
      Answered .writeRecord s { popRequest s rest with shed := {
          s.shed with
          stages := s.shed.stages.set n g
          timers := if b then s.shed.timers else s.shed.timers.set n {} } } r
        (writeStatus (f.holds x)) (.records [.stage g])
  oneRefused : ∀ (f : NumField Stage) (x k : Nat) (v : FieldVal), f ∈ stageFields → 3 < k →
    r.args = .write 3 (n.val + 1) [f.number, k] [.num x, v] → WriteRefused s r rest .badRequest

/-- WRITE RECORD of table ROUTING: a destination by its code, and a group clamped to 7 (R184). -/
structure RouteWrites (s : State) (r : Request) (rest : List Request) (k : Fin 26) : Prop where
  destination : ∀ d : Destination, r.args = .write 4 (k.val + 1) [0] [.num d.code] →
    ∀ x : Route, x = { s.events.routing.get k with dest := d } →
      Answered .writeRecord s { popRequest s rest with events := { s.events with routing := s.events.routing.set k x } } r
        .done (.records [.route x d.code])
  undefined : ∀ n : Nat, 3 < n → r.args = .write 4 (k.val + 1) [0] [.num n] → WriteRefused s r rest .badValue
  group : ∀ n : Nat, r.args = .write 4 (k.val + 1) [1] [.num n] →
    ∀ x : Route, x.dest = (s.events.routing.get k).dest → x.group.val = min 7 n →
      Answered .writeRecord s { popRequest s rest with events := { s.events with routing := s.events.routing.set k x } } r
        (writeStatus (decide (n ≤ 7))) (.records [.route x x.dest.code])
  noField : ∀ (n : Nat) (v : FieldVal), 1 < n → r.args = .write 4 (k.val + 1) [n] [v] → WriteRefused s r rest .badRequest
  several : ∀ (d : Destination) (n : Nat), r.args = .write 4 (k.val + 1) [0, 1] [.num d.code, .num n] →
    ∀ x : Route, x.dest = d → x.group.val = min 7 n →
      Answered .writeRecord s { popRequest s rest with events := { s.events with routing := s.events.routing.set k x } } r
        (writeStatus (decide (n ≤ 7))) (.records [.route x d.code])
  oneRefused : ∀ m n : Nat, 3 < m → r.args = .write 4 (k.val + 1) [0, 1] [.num m, .num n] → WriteRefused s r rest .badValue

/-- WRITE RECORD of table PHASES: a class is stored unless one of the three would be named nowhere, and URGENT and every
undefined code are refused (R82). -/
structure PhaseWrites (s : State) (r : Request) (rest : List Request) (k : Fin 16) : Prop where
  stored : ∀ (n : Nat) (c : QClass), (n, c) ∈ phaseCodes → r.args = .write 5 k.val [0] [.num n] →
    ((∀ x ∈ phaseCodes, ∃ j : Fin 16, (s.egress.phases.set k c).get j = x.2) →
      Answered .writeRecord s { popRequest s rest with egress := {
        s.egress with phases := s.egress.phases.set k c } } r .done (.records [.phase c])) ∧
    ((∃ x ∈ phaseCodes, ∀ j : Fin 16, (s.egress.phases.set k c).get j ≠ x.2) → WriteRefused s r rest .badValue)
  undefined : ∀ n : Nat, (n = 0 ∨ 3 < n) → r.args = .write 5 k.val [0] [.num n] → WriteRefused s r rest .badValue
  noField : ∀ (n : Nat) (v : FieldVal), 0 < n → r.args = .write 5 k.val [n] [v] → WriteRefused s r rest .badRequest

/-- A write to a plan step is answered as stored, its argument clamped to the range of the action it then has (R163). -/
def PlanStored (s : State) (r : Request) (rest : List Request) (k : Fin 32) (p : PlanStep) (inRange : Bool) : Prop :=
  ∀ top : Nat, (p.action, top) ∈ argumentTops →
    ∀ q : PlanStep, q = { p with argument := min p.argument top } →
      Answered .writeRecord s { popRequest s rest with seqr := { s.seqr with plan := s.seqr.plan.set k q } } r
        (writeStatus (inRange && decide (p.argument ≤ top))) (.records [.planStep q q.action.code q.policy.code])

/-- WRITE RECORD of table PLAN: refused while the plan runs, and stored otherwise (R163). -/
structure PlanWrites (s : State) (r : Request) (rest : List Request) (k : Fin 32) : Prop where
  running : ∀ n x : Nat, n ≤ 4 → (n = 0 → x ≤ 7) → (n = 3 → x ≤ 2) → r.args = .write 2 k.val [n] [.num x] →
    s.progress.planState = .running → WriteRefused s r rest .inUse
  numeric : ∀ (f : NumField PlanStep) (x : Nat), f ∈ planFields → r.args = .write 2 k.val [f.number] [.num x] →
    s.progress.planState ≠ .running → PlanStored s r rest k (f.put (s.seqr.plan.get k) (f.clamp x)) (f.holds x)
  action : ∀ a : StepAction, r.args = .write 2 k.val [0] [.num a.code] → s.progress.planState ≠ .running →
    PlanStored s r rest k { s.seqr.plan.get k with action := a } true
  argument : ∀ x : Nat, r.args = .write 2 k.val [1] [.num x] → s.progress.planState ≠ .running →
    PlanStored s r rest k { s.seqr.plan.get k with argument := x } true
  policy : ∀ p : Policy, r.args = .write 2 k.val [3] [.num p.code] → s.progress.planState ≠ .running →
    PlanStored s r rest k { s.seqr.plan.get k with policy := p } true
  undefined : ∀ n : Nat, (7 < n ∧ r.args = .write 2 k.val [0] [.num n] ∨ 2 < n ∧ r.args = .write 2 k.val [3] [.num n]) →
    WriteRefused s r rest .badValue
  noField : ∀ (n : Nat) (v : FieldVal), 4 < n → r.args = .write 2 k.val [n] [v] → WriteRefused s r rest .badRequest
  several : ∀ (f g : NumField PlanStep) (x y : Nat), f ∈ planFields → g ∈ planFields → f.number < g.number →
    r.args = .write 2 k.val [f.number, g.number] [.num x, .num y] → s.progress.planState ≠ .running →
    PlanStored s r rest k (g.put (f.put (s.seqr.plan.get k) (f.clamp x)) (g.clamp y)) (f.holds x && g.holds y)
  whole : ∀ (a : StepAction) (argument timeout hold : Nat) (p : Policy),
    r.args = .write 2 k.val [0, 1, 2, 3, 4] [.num a.code, .num argument, .num timeout, .num p.code, .num hold] →
    (s.progress.planState = .running → WriteRefused s r rest .inUse) ∧
    (s.progress.planState ≠ .running → PlanStored s r rest k
      { action := a, argument := argument, timeout := max 100 (min 600000 timeout), policy := p, hold := min 600000 hold }
      (decide (100 ≤ timeout) && decide (timeout ≤ 600000) && decide (hold ≤ 600000)))
  oneRefused : ∀ (f : NumField PlanStep) (x : Nat), f ∈ planFields →
    (∀ (n : Nat) (v : FieldVal), 4 < n → r.args = .write 2 k.val [f.number, n] [.num x, v] → WriteRefused s r rest .badRequest) ∧
    (∀ n : Nat, 7 < n → r.args = .write 2 k.val [0, f.number] [.num n, .num x] → WriteRefused s r rest .badValue) ∧
    (∀ n : Nat, f.number < 3 → 2 < n → r.args = .write 2 k.val [f.number, 3] [.num x, .num n] → WriteRefused s r rest .badValue)

/-! ## Records and state as they are read (R190) -/

/-- A record as READ RECORD returns it from a table at an index. -/
structure Shows (s : State) (table index : Nat) (v : RecordView) : Prop where
  unit     : ∀ u : UnitNo, table = 1 → index = u.val → v = unitShown s u (s.unit u)
  planStep : ∀ k : Fin 32, table = 2 → index = k.val →
    v = .planStep (s.seqr.plan.get k) (s.seqr.plan.get k).action.code (s.seqr.plan.get k).policy.code
  stage    : ∀ n : Fin 6, table = 3 → index = n.val + 1 → v = .stage (s.shed.stages.get n)
  route    : ∀ k : Fin 26, table = 4 → index = k.val + 1 →
    v = .route (s.events.routing.get k) (s.events.routing.get k).dest.code
  phase    : ∀ k : Fin 16, table = 5 → index = k.val → v = .phase (s.egress.phases.get k)
  settings : table = 6 → v = .settings s.settings
  access   : table = 7 → v = .access s.access

/-- The level of a queue of a depth by its entry count (R80). -/
structure LevelIs (depth n : Nat) (l : Level) : Prop where
  clear : n + 2 < depth → l = .clear
  near  : n + 2 = depth → l = .near
  edge  : n + 1 = depth → l = .edge
  full  : depth ≤ n → l = .full

/-- The queues part of READ STATE (R80). -/
structure QueuesShown (s : State) (q : QueueStatus) : Prop where
  urgent    : q.urgent.1 = s.egress.urgent.length ∧ LevelIs 8 s.egress.urgent.length q.urgent.2
  dispatch  : q.dispatch.1 = s.egress.dispatch.length ∧ LevelIs 8 s.egress.dispatch.length q.dispatch.2
  setpoint  : q.setpoint.1 = s.egress.setpoint.length ∧ LevelIs 16 s.egress.setpoint.length q.setpoint.2
  report    : q.report.1 = s.egress.report.length ∧ LevelIs 16 s.egress.report.length q.report.2
  occupied  : q.occupied = (allSlots.filter fun i => (s.slot i).isSome).length
  nonUrgent : q.nonUrgent = (allSlots.filter fun i => (s.slot i).any fun o => o.cls != .urgent).length
  waiting   : q.waiting = s.orders.waiting.length

/-- The log status part of READ STATE: the pending slots counted, and the first one found from the write index onward (R180). -/
structure LogShown (s : State) (l : LogStatus) : Prop where
  pending    : l.pending = ((List.finRange 32).filter fun i => (s.events.log.get i).isSome).length
  empty      : l.firstPending = none ↔ ∀ i : LogNo, s.events.log.get i = none
  first      : ∀ w : LogNo, l.firstPending = some w → s.events.log.get w ≠ none ∧
    ∀ k : Fin 32, k < w - s.events.writeIndex → s.events.log.get (s.events.writeIndex + k) = none
  writeIndex : l.writeIndex = s.events.writeIndex
  overflow   : l.overflow = s.events.overflow

/-- Whether the held cause of a condition is present, by the rule of each (R31, R54, R80, R113); none for a condition whose
cause is momentary (R177). -/
structure CauseShown (s : State) (c : Condition) (p : Option Bool) : Prop where
  primaryLost : c = .epochPrimaryLost → p = some (decide (s.tracker.state = .secondary))
  freeRun     : c = .epochFreeRun → p = some (decide (s.tracker.state = .freeRun))
  reference   : c = .referenceStale → ∃ b : Bool, p = some b ∧ (b = true ↔ ∃ u : UnitNo, s.settings.reference = some u ∧
    (s.unit u).kind = .meter ∧ (s.unit u).live.freshness = .stale)
  pressure    : c = .queuePressure → ∃ b : Bool, p = some b ∧ (b = true ↔ 7 ≤ s.egress.urgent.length ∨
    7 ≤ s.egress.dispatch.length ∨ 15 ≤ s.egress.setpoint.length ∨ 15 ≤ s.egress.report.length)
  shortfall   : c = .curtailShortfall → p = some (decide (0 < s.alloc.lastShortfall))
  momentary   : c ≠ .epochPrimaryLost → c ≠ .epochFreeRun → c ≠ .referenceStale → c ≠ .queuePressure →
    c ≠ .curtailShortfall → p = none

/-- What READ STATE returns, part by part (R34, R80, R164, R179, R180, R190). -/
structure StateShown (s : State) (v : StateView) : Prop where
  balance       : v.balance = s.balance.published
  mode          : v.mode = s.mode
  epoch         : v.epoch = {
    state := s.tracker.state, mode := s.settings.epochMode, epoch := s.tracker.epoch, period := s.tracker.period,
    overruns := s.tracker.overruns, primaryReturn := s.tracker.primaryReturn, secondaryReturn := s.tracker.secondaryReturn,
    primaryArrival := s.tracker.primaryRec.map MarkRec.arrival,
    secondaryArrival := s.tracker.secondaryRec.map MarkRec.arrival, timebase := s.now }
  conditions    : v.conditions.length = 14 ∧ ∀ (c : Condition) (x : ConditionView), v.conditions[c.code]? = some x →
    x.latched = s.isLatched c ∧ x.freeze = s.settings.freezeMask.getLsbD c.code ∧ CauseShown s c x.present
  log           : LogShown s v.log
  queues        : QueuesShown s v.queues
  commit        : v.commit = s.dispatcher.commit
  stack         : v.stack = s.shed.stack
  pending       : v.pending = s.shed.pending
  timers        : v.timers.length = 6 ∧ ∀ n : Fin 6, v.timers[n.val]? = some (s.shed.timers.get n).state
  rocof         : v.rocof = s.shed.rocof.latest
  planLimit     : v.planLimit = s.alloc.planLimit
  lastShortfall : v.lastShortfall = s.alloc.lastShortfall
  progress      : v.progress = {
    planState := s.progress.planState, current := s.progress.current, stepState := s.progress.stepState,
    attempt := s.progress.attempt, startTime := s.progress.startTime, restarts := s.progress.restarts,
    endCause := s.progress.endCause, failCause := s.progress.failCause }
  detector      : v.asserted = s.seqr.asserted ∧ v.lowSince = s.seqr.lowSince
  codes         : v.codes = {
    condition := s.balance.published.condition.code, mode := s.mode.code, epochState := s.tracker.state.code,
    stackCauses := s.shed.stack.map fun e => e.cause.code, pendingCauses := s.shed.pending.map fun e => e.cause.code,
    planState := s.progress.planState.code, stepState := s.progress.stepState.code }

/-! ## Marks, orders and sums that statements name -/

/-- A mark from this address is a mark of this master (R20). -/
def MarkOf (s : State) (g : Master) (src : Addr) : Prop :=
  match g with
  | .primary => s.access.primaryTimeMaster = some src
  | .secondary => s.access.secondaryTimeMaster = some src ∧ s.access.primaryTimeMaster ≠ some src ∧
      s.settings.epochMode = .dual

/-- The largest output among the ONLINE gen-sets of a snapshot but the one left out, or 0 (R91). -/
structure LargestOnline (units : Vector UnitRec 64) (leftOut : Option UnitNo) (top : Int) : Prop where
  floor   : 0 ≤ top
  above   : ∀ u : UnitNo, leftOut ≠ some u → (units.get u).kind = .genset → (units.get u).gensetJob.dispatch = .online →
    (units.get u).live.values.output ≤ top
  reached : top = 0 ∨ ∃ u : UnitNo, leftOut ≠ some u ∧ (units.get u).kind = .genset ∧
    (units.get u).gensetJob.dispatch = .online ∧ (units.get u).live.values.output = top

/-- The headroom of an ONLINE gen-set: max(0, Lim − max(0, P)) while it is heard, and 0 while it is not (R89). -/
def onlineHeadroom (r : UnitRec) : Int :=
  if r.live.freshness = .fresh ∨ r.live.freshness = .held then
    max 0 (((r.rating * r.genset.loadLimit / 100 : Nat) : Int) - max 0 r.live.values.output)
  else 0

/-- A gen-set meets every condition of the stop candidate at a pass time (R98). -/
structure MayStop (r : UnitRec) (passTime : Time) : Prop where
  online  : r.kind = .genset ∧ r.gensetJob.dispatch = .online
  remote  : r.live.localFlag = false
  noHold  : ∀ d : Time, r.live.hold = some d → reached passTime d = true
  hasRun  : ∃ t : Time, r.gensetJob.onlineSince = some t ∧ r.genset.minRun ≤ elapsed passTime t
  permits : r.permits.stop = true

/-- Both ports transmit, so nothing that waits leaves. -/
def Busy (s : State) : Prop := ∀ p : Port, (s.port p).up = true ∧ (s.port p).tx ≠ .free

/-- What an order request has made: the order it asked for stands in the slot, with its class, the unit's next number and
attempt 1 (R63, R65, R67). -/
def OrderMade (s t : State) (i : SlotNo) (u : UnitNo) (k : OrderKind) (w : Owner) (step : Option (Fin 32)) : Prop :=
  (t.slot i).map Order.content = some (u, k, none, s.orders.counters.get u + 1, w, orderClass w k, step, 1)

/-- The depth of each order queue (R80). -/
def queueDepth : QClass → Nat
  | .urgent => 8
  | .dispatch => 8
  | .setpoint => 16
  | .report => 16

/-- A new order, in the form in which it is created, joins from a state `s`, with its slot free (R69): the tail of the queue of its
class, as QUEUED, when that queue has a free place, and else the end of the waiting line, as WAITING_RETRY with no deadline.
What follows at once is record work: QUEUE_PRESSURE may rise, and a free port may take an item (R14, R80). With both ports busy
the order stands there after it. -/
def OrderJoins (s t : State) (i : SlotNo) (o : Order) : Prop :=
  ∀ q : State, q = (
    if (s.queue o.cls).length < queueDepth o.cls then
      { s with orders := { s.orders with slots := s.orders.slots.set i (some { o with state := .queued, deadline := none }) } }
        |>.setQueue o.cls (s.queue o.cls ++ [i])
    else
      { s with orders := {
        s.orders with
        slots := s.orders.slots.set i (some { o with state := .waitingRetry, deadline := none })
        waiting := s.orders.waiting ++ [i] } }) →
    RecordWork q t ∧ (Busy s → t.orders = q.orders ∧ ∀ c : QClass, t.queue c = q.queue c)

/-- The slot holds a setpoint order to the unit that a request of the Allocator's can rewrite: QUEUED at attempt 1, with no copy in
transmission and none handed (R68). -/
def Rewritable (s : State) (u : UnitNo) (i : SlotNo) : Prop :=
  ∃ o : Order, s.slot i = some o ∧ o.target = u ∧ (o.kind = .setCap ∨ o.kind = .clearCap) ∧ o.attempt = 1 ∧
    o.inTx.isEmpty = true ∧ o.state = .queued ∧ o.pendingPort = none ∧ i ∈ s.queue o.cls

/-- A gen-set is a candidate of a start decision (R126). -/
structure MayStart (s : State) (u : UnitNo) : Prop where
  stopped : (s.unit u).kind = .genset ∧ (s.unit u).gensetJob.dispatch = .stopped
  rested  : ∀ d : Time, (s.unit u).gensetJob.retryAfter = some d → reached s.now d = true
  noHold  : ∀ d : Time, (s.unit u).live.hold = some d → reached s.now d = true
  permits : (s.unit u).permits.start = true

/-- A start decision asks one gen-set before another: the lower merit rank first, and then the lower unit number (R126). -/
def AskedBefore (s : State) (v u : UnitNo) : Prop :=
  (s.unit v).genset.meritRank < (s.unit u).genset.meritRank ∨
    (s.unit v).genset.meritRank = (s.unit u).genset.meritRank ∧ v < u

/-- A candidate's request is answered NO_CREDIT or HELD, so that a start decision goes on to the next candidate (R126). -/
def PassedOver (s : State) (v : UnitNo) : Prop :=
  judgeRequest s v .start .dispatch = .refused .noCredit ∨ judgeRequest s v .start .dispatch = .refused .held

/-- A candidate that a start decision comes to: every candidate before it is passed over (R126). The first candidate is one. -/
def StartReaches (s : State) (u : UnitNo) : Prop :=
  MayStart s u ∧ ∀ v : UnitNo, MayStart s v → AskedBefore s v u → PassedOver s v

/-- The starts under way: the gen-sets in START_PENDING or STARTING (R126). -/
def underWay (s : State) : Nat :=
  ((List.finRange 64).filter fun u => (s.unit u).kind = .genset ∧
    ((s.unit u).gensetJob.dispatch = .startPending ∨ (s.unit u).gensetJob.dispatch = .starting)).length

/-- The gates of a stop decision for its candidate (R135). -/
structure StopGates (s : State) (c : UnitNo) : Prop where
  confirmed : s.settings.stopConfirm ≤ s.balance.published.stopCount
  online    : (s.unit c).kind = .genset ∧ (s.unit c).gensetJob.dispatch = .online
  remote    : (s.unit c).live.localFlag = false
  noHold    : ∀ d : Time, (s.unit c).live.hold = some d → reached s.now d = true
  permits   : (s.unit c).permits.stop = true
  unshed    : s.shed.stack = []
  thawed    : frozen s = false
  noStart   : underWay s = 0
  another   : ∃ u : UnitNo, u ≠ c ∧ (s.unit u).kind = .genset ∧ (s.unit u).gensetJob.dispatch = .online

/-- The gates of a restore decision for the top entry of the Shed Stack (R154). -/
structure RestoreGates (s : State) (e : StackEntry) : Prop where
  top       : s.shed.stack.getLast? = some e
  enabled   : s.settings.restoreEnable = true
  thawed    : frozen s = false
  allowed   : s.balance.published.restoreAllowed = true
  counted   : s.balance.restoreFeeder = some e.feeder
  isShed    : (s.unit e.feeder).feederJob.shed = .shed
  nobody    : ∀ u : UnitNo, (s.unit u).kind = .feeder → (s.unit u).feederJob.shed ≠ .restoring
  noStop    : ∀ u : UnitNo, (s.unit u).kind = .genset →
    (s.unit u).gensetJob.dispatch ≠ .stopPending ∧ (s.unit u).gensetJob.dispatch ≠ .stopping
  interval  : ∀ d : Time, s.shed.lastRestore = some d → reached s.now (after d s.settings.restoreInterval) = true

/-! ## Decisions of the Curtailment Allocator (chapter 6) -/

/-- A PV unit is reachable (R107): it is heard, under no current hold and settled, and it has room for an order of the
Allocator's own, IDLE below its credit or ORDERED with an order that can still be rewritten. -/
structure Reachable (s : State) (u : UnitNo) : Prop where
  isPv    : (s.unit u).kind = .pv
  heard   : (s.unit u).live.freshness = .fresh ∨ (s.unit u).live.freshness = .held
  noHold  : ∀ d : Time, (s.unit u).live.hold = some d → reached s.now d = true
  settled : (s.unit u).pvJob.setpoint ≠ .unsettled
  room    : (s.unit u).pvJob.setpoint = .idle ∧ s.inFlight u < (s.unit u).credit ∨
    (s.unit u).pvJob.setpoint = .ordered ∧ ∃ i : SlotNo, (s.unit u).pvJob.slot = some i ∧ Rewritable s u i

/-- A PV unit is eligible (R107): reachable, permitted SET_CAP, and curtailable, its window not inverted and its effective floor
not above its ceiling (R106). -/
structure Eligible (s : State) (u : UnitNo) : Prop where
  reachable : Reachable s u
  permits   : (s.unit u).permits.setCap = true
  window    : (s.unit u).winLow ≤ (s.unit u).winHigh
  bounds    : (s.unit u).effFloor s.mode ≤ (s.unit u).ceiling

/-- A quantity summed over the eligible units. -/
def overEligible (s : State) (x : UnitNo → Nat) : Nat :=
  ((List.finRange 64).map fun u => if eligible s u = true then x u else 0).sum

/-- The groups and the shares that a cut is made of: who is reachable and eligible (R107), the headrooms h and their sum H (R110),
and each eligible unit's cut, which is h when CD is at or above H, and else the floor of its proportional share, with 1 kW of the
remainder r when it is one of the first r eligible units with headroom, in ascending unit number (R111). -/
structure CutShares (s : State) (cd : Nat) : Prop where
  whoReach  : ∀ u : UnitNo, reachable s u = true ↔ Reachable s u
  whoTakes  : ∀ u : UnitNo, eligible s u = true ↔ Eligible s u
  listed    : (∀ u : UnitNo, u ∈ eligibleUnits s ↔ Eligible s u) ∧ (eligibleUnits s).Pairwise (· < ·)
  headroom  : ∀ u : UnitNo, (cutHeadroom s u : Int) =
    max 0 ((s.unit u).live.values.output - ((s.unit u).effFloor s.mode : Int))
  total     : totalHeadroom s = overEligible s (cutHeadroom s)
  whole     : totalHeadroom s ≤ cd → ∀ u : UnitNo, Eligible s u → allocatedCut s cd u = cutHeadroom s u
  share     : cd < totalHeadroom s → ∀ (h : UnitNo → Nat) (r : Nat), h = cutHeadroom s →
    overEligible s (fun u => cd * h u / totalHeadroom s) + r = cd →
    r < overEligible s (fun u => if 0 < h u then 1 else 0) ∧
    ∀ u : UnitNo, Eligible s u → allocatedCut s cd u = cd * h u / totalHeadroom s +
      if 0 < h u ∧ overEligible s (fun v => if v < u ∧ 0 < h v then 1 else 0) < r then 1 else 0

/-- The proposals of a decision turned into requests in ascending unit number (R108, R118). -/
def requestsMade (s : State) (p : UnitNo → Proposal) : State :=
  (List.finRange 64).foldl (fun w u =>
    match p u with
    | .unchanged => w
    | .value cap => askCap w u (some cap)
    | .clear => askCap w u none) s

/-- The proposal of a decision for a unit, before the plan bound (R108). -/
structure Proposes (s : State) (u : UnitNo) (p : Proposal) : Prop where
  disabled : s.settings.curtailEnable = false → p = .unchanged
  cut      : s.settings.curtailEnable = true → 0 < s.balance.published.cd → p = cutProposal s s.balance.published.cd u
  release  : s.settings.curtailEnable = true → s.balance.published.cd = 0 → releaseTest s = true → p = releaseProposal s u
  rest     : s.settings.curtailEnable = true → s.balance.published.cd = 0 → releaseTest s = false → p = .unchanged

/-- What a pass completion does at the Allocator, by mode and curtailment enable (R108): the requests of the decision, the last
shortfall replaced (R113), and the onset of a shortfall recorded and its condition latched. -/
structure AllocatorDecides (s t : State) : Prop where
  idle   : (s.mode = .halted ∨ s.mode = .observe) → t = { s with alloc := { s.alloc with lastShortfall := 0 } }
  acting : (s.mode = .active ∨ s.mode = .restore) → ∀ (b p : UnitNo → Proposal) (n : Nat) (v : State),
    (∀ u : UnitNo, Proposes s u (b u)) → (∀ u : UnitNo, p u = if s.mode = .restore then applyBound s u (b u) else b u) →
    n = (if s.settings.curtailEnable = true then s.balance.published.cd - totalHeadroom s else 0) →
    v = { requestsMade s p with alloc := { s.alloc with lastShortfall := n } } →
    ((s.alloc.lastShortfall ≠ 0 ∨ n = 0) → t = v) ∧
    (s.alloc.lastShortfall = 0 → 0 < n → RecordWork v t ∧ t.isLatched .curtailShortfall = true ∧
      (logOpen v → t.events.log.get v.events.writeIndex =
        some (recordNow s .curtailShortfall none (some (n : Int)) (some (eligibleUnits s).length))))

/-! ## A change of the engine mode (R191) -/

/-- The orders stand as they did, but for copies that a free port may have taken in between; with both ports busy nothing of them
has moved. -/
structure OrdersStand (s w : State) : Prop where
  contents : ∀ i : SlotNo, (w.slot i).map Order.content = (s.slot i).map Order.content
  kinds    : ∀ u : UnitNo, (w.unit u).kind = (s.unit u).kind
  schedule : w.schedule = s.schedule
  waiting  : ∀ i : SlotNo, i ∈ w.orders.waiting → i ∈ s.orders.waiting
  sent     : ∀ (i : SlotNo) (o : Order), s.slot i = some o → o.state = .sent → i ∉ s.orders.waiting →
    ∃ o' : Order, w.slot i = some o' ∧ o'.state = .sent ∧ o'.deadline = o.deadline
  busy     : Busy s → w.orders = s.orders ∧ ∀ c : QClass, w.queue c = s.queue c

/-- What leaving ACTIVE or RESTORE for OBSERVE or HALTED does with the orders of a state (R79): the unsent ones are freed and
their ends and slot releases handed on in slot order; the others keep their slots, and an owed copy leaves its queue.
`plan` says that a plan ended with the change, so that the orders kept lose their plan step (R175). -/
structure OrdersDiscarded (s v : State) (plan : Bool) : Prop where
  free   : ∀ i : SlotNo, s.slot i = none → v.slot i = none
  unsent : ∀ (i : SlotNo) (o : Order), s.slot i = some o → unsentYet s i o = true → v.slot i = none
  kept   : ∀ (i : SlotNo) (o : Order), s.slot i = some o → unsentYet s i o = false →
    (v.slot i).map Order.content = some (if plan then { o with planStep := none } else o).content
  owed   : ∀ (i : SlotNo) (o o' : Order), s.slot i = some o → unsentYet s i o = false → o.pendingPort ≠ none →
    v.slot i = some o' → o'.pendingPort = none ∧ ∀ c : QClass, i ∉ v.queue c
  ends   : ∃ (ends : List (SlotNo × Order × OrderEnd)) (jobs : List Job),
    ends = allSlots.filterMap (fun i => (s.slot i).bind fun o =>
      if unsentYet s i o then some (i, o, .unsent .discarded) else none) ∧
    jobs.Perm [.allocator, .dispatcher, .shed, .sequencer] ∧
    v.agenda = ends.flatMap (fun x => (endReceivers s x.2.1).map fun j => Task.ended j x.1 x.2.1 x.2.2) ++
      ends.flatMap (fun x => jobs.map fun j => Task.released j x.2.1.target)

/-- The tracker as a change of mode leaves it (R32). -/
def trackerAfterMode (s : State) (m : Mode) : Tracker :=
  if m = .halted then
    { s.tracker with
      state := .unset
      primaryRec := none
      secondaryRec := none
      lossDeadline := none
      unsetDeadline := none
      freeDeadline := none
      primaryReturn := 0
      secondaryReturn := 0 }
  else if s.mode = .halted then { s.tracker with unsetDeadline := some (after s.now 3000) }
  else s.tracker

/-- Records made one after the other in the Event Log, each written at the write index or lost (R181). -/
def recordsMade (e : Events) (rs : List EventRec) : Events :=
  rs.foldl (fun e r =>
    if e.overflow then e
    else if e.log.get e.writeIndex = none then
      { e with log := e.log.set e.writeIndex (some r), writeIndex := e.writeIndex + 1 }
    else { e with overflow := true }) e

/-- The Event Log after certain records and no other. -/
def LogGains (s v : State) (rs : List EventRec) : Prop :=
  v.events.log = (recordsMade s.events rs).log ∧ v.events.writeIndex = (recordsMade s.events rs).writeIndex ∧
    v.events.overflow = (recordsMade s.events rs).overflow

/-- The records that ENGINE RESET makes before it judges the held causes (R192): ENGINE_RESET, MODE_CHANGED when the mode found was
not OBSERVE (R191), and EPOCH_SOURCE_CHANGED when the tracker was not UNSET (R31). -/
def resetRecords (s : State) : List EventRec :=
  recordNow s .engineReset none (some (s.mode.code : Int)) none ::
    (if s.mode = .observe then [] else [recordNow s .modeChanged none (some (s.mode.code : Int)) (some 1)]) ++
    (if s.tracker.state = .unset then [] else
      [recordNow s .epochSourceChanged none (some (s.tracker.state.code : Int)) (some 0)])

/-- The record of QUEUE_PRESSURE latching (R177). -/
def pressureRecord (s : State) : EventRec := recordNow s .conditionLatched none none (some 5)

/-- The written controller addresses: the most notices that one event queues (R185). -/
def controllers (s : State) : Nat := s.access.primaryController.toList.length + s.access.backupController.toList.length

/-- The records of ENGINE RESET in their order (R178, R192). Of the held causes only QUEUE_PRESSURE can be present after it, of
REPORT alone: its CONDITION_LATCHED comes last where REPORT stood at EDGE, and right after the record whose notices bring REPORT
to EDGE where it did not (notes/assumptions/28.md). -/
structure ResetRecorded (s v : State) : Prop where
  order   : ∃ rs : List EventRec, LogGains s v rs ∧ (v.isLatched .queuePressure = false → rs = resetRecords s) ∧
    (v.isLatched .queuePressure = true → ∃ before later : List EventRec, before ≠ [] ∧ resetRecords s = before ++ later ∧
      rs = before ++ pressureRecord s :: later)
  pressed : Busy s → s.egress.report.length = 15 →
    v.isLatched .queuePressure = true ∧ LogGains s v (resetRecords s ++ [pressureRecord s])
  calm    : Busy s → s.egress.report.length + controllers s * (resetRecords s).length < 15 →
    v.isLatched .queuePressure = false ∧ LogGains s v (resetRecords s)

/-- The notices of an event recorded first (R185): what REPORT gains, `more`, begins with one NOTICE to each written controller
address that the destination of the event's kind names, in some order, and the group becomes outstanding. One place of REPORT
is held for the response (R187). -/
def NoticesFirst (s v : State) (k : EventKind) (more : List ReportItem) : Prop :=
  ∀ (x : Route) (addrs : List (Addr × Option Port)), x = s.events.routing.get k.index →
    addrs = (if x.dest = .primary ∨ x.dest = .both
        then (s.access.primaryController.map fun a => (a, s.events.primarySide)).toList else []) ++
      (if x.dest = .backup ∨ x.dest = .both
        then (s.access.backupController.map fun a => (a, s.events.backupSide)).toList else []) →
    addrs ≠ [] → logOpen s → s.events.groups.get x.group = false → s.egress.report.length + 1 + addrs.length ≤ 16 →
    v.events.groups.get x.group = true ∧ ∃ first rest : List ReportItem, more = first ++ rest ∧
      (first.map fun r => (r.dst, r.ports, r.body)).Perm
        (addrs.map fun a => (a.1, PortSet.ofSide a.2, ReportBody.notice x.group s.events.writeIndex k))

/-- What SET MODE leaves when it changes the mode from another than RESTORE (R191): the tracker (R32), the orders (R79), the jobs
(R116, R127, R140, R159), the records made, and the notices that REPORT gains while both ports are busy. -/
structure ModeChanged (s v : State) (m : Mode) : Prop where
  mode       : v.mode = m
  config     : v.settings = s.settings ∧ v.access = s.access ∧ v.service.queue = s.service.queue.tail
  tracker    : v.tracker = trackerAfterMode s m
  jobs       : v.units = s.units ∧ v.balance = s.balance ∧ v.alloc = s.alloc ∧ v.seqr = s.seqr ∧
    v.lastSource = s.lastSource
  dispatcher : v.dispatcher = if s.mode = .active then { s.dispatcher with startRetry := false } else s.dispatcher
  shed       : v.shed = if s.mode = .active then { s.shed with pending := [], predictive := none } else s.shed
  orders     : s.mode = .active → ∃ w : State, OrdersStand s w ∧ OrdersDiscarded w v false
  standing   : s.mode ≠ .active → v.agenda = [] ∧
    ∀ i : SlotNo, (v.slot i).map Order.content = (s.slot i).map Order.content
  recorded   : logOpen s → v.events.log.get s.events.writeIndex =
    some (recordNow s .modeChanged none (some (s.mode.code : Int)) (some m.code))
  source     : m = .halted → s.tracker.state ≠ .unset → logOpen s →
    (∀ k : Fin 32, k.val < 3 → s.events.log.get (s.events.writeIndex + k) = none) →
    ∃ k : Fin 32, 0 < k.val ∧ k.val < 3 ∧ v.events.log.get (s.events.writeIndex + k) =
      some (recordNow s .epochSourceChanged none (some (s.tracker.state.code : Int)) (some 0))
  report     : Busy s → ∃ more : List ReportItem, v.egress.report = s.egress.report ++ more ∧
    NoticesFirst s v .modeChanged more ∧ ∀ x ∈ more, ∃ (g : Fin 8) (i : LogNo) (k : EventKind), x.body = .notice g i k

/-- A feeder as the end of an ABORTED plan leaves it: CLOSED or OPEN_OTHER by its breaker when the plan held it, and else as it
stands (R158). -/
def feederAfterAbort (r : UnitRec) : UnitRec :=
  if r.kind = .feeder ∧ r.feederJob.shed = .openPlan then
    { r with feederJob := {
      r.feederJob with
      shed := if r.live.values.breaker = .closed then .closed else .openOther
      restoreFail := if r.live.values.breaker = .closed then 0 else r.feederJob.restoreFail } }
  else r

/-- What the abort of a running plan leaves in RESTORE, with its end cause and the mode that follows (R175): the progress record,
the feeders released (R158), the orders discarded (R79), the jobs, and the first record. Restart pending stays as it is
(notes/assumptions/43.md). -/
structure PlanAborts (s v : State) (m : Mode) (cause : Nat) : Prop where
  mode       : v.mode = m
  tracker    : v.tracker = trackerAfterMode s m
  plan       : v.progress = { s.progress with planState := .aborted, endCause := some cause, deadline := none } ∧
    v.seqr.plan = s.seqr.plan ∧ v.seqr.asserted = s.seqr.asserted ∧ v.seqr.lowSince = s.seqr.lowSince
  failed     : v.isLatched .planFailed = true
  units      : ∀ u : UnitNo, v.unit u = feederAfterAbort (s.unit u)
  stack      : v.shed.stack = s.shed.stack.filter fun e =>
    !decide ((s.unit e.feeder).kind = .feeder ∧ (s.unit e.feeder).feederJob.shed = .openPlan)
  shed       : v.shed.pending = [] ∧ v.shed.predictive = none ∧ v.shed.timers = s.shed.timers ∧ v.shed.rocof = s.shed.rocof ∧
    v.shed.stages = s.shed.stages ∧ v.shed.lastRestore = s.shed.lastRestore
  jobs       : v.balance = s.balance ∧ v.alloc = { s.alloc with planLimit := none } ∧
    v.dispatcher = { s.dispatcher with startRetry := false } ∧ v.lastSource = s.lastSource ∧
    v.settings = s.settings ∧ v.access = s.access
  orders     : ∃ w : State, OrdersStand s w ∧ OrdersDiscarded w v true
  recorded   : logOpen s → v.events.log.get s.events.writeIndex =
    some (recordNow s .planEnded none (some (s.progress.current.val : Int)) (some cause))
  report     : Busy s → ∃ more : List ReportItem, v.egress.report = s.egress.report ++ more ∧
    NoticesFirst s v .planEnded more ∧ ∀ x ∈ more, ∃ (g : Fin 8) (i : LogNo) (k : EventKind), x.body = .notice g i k

/-! ## Shedding (chapter 8) -/

/-- Feeders of equal priority stand in ascending unit number, and the others in ascending priority value (R148, R152). -/
def InShedOrder (s : State) (us : List UnitNo) : Prop :=
  us.Pairwise fun u v => (s.unit u).feeder.priority < (s.unit v).feeder.priority ∨
    ((s.unit u).feeder.priority = (s.unit v).feeder.priority ∧ u < v)

/-- A feeder that a shed may take: CLOSED, non-essential and not in the pending shed list (R144). -/
structure MayShed (s : State) (u : UnitNo) : Prop where
  kind      : (s.unit u).kind = .feeder
  closed    : (s.unit u).feederJob.shed = .closed
  plain     : (s.unit u).feeder.essential = false
  unlisted  : u ∉ s.shed.pending.map PendingShed.feeder

/-- A feeder's load as a shed counts it: the stored load, or the rating while it is STALE or ABSENT (R142, R152). -/
def loadCounted (r : UnitRec) : Nat :=
  if r.live.freshness = .fresh ∨ r.live.freshness = .held then r.live.values.load else r.rating

/-- A feeder that may be asked to open now: OPEN is permitted, and no manual hold is current (R66). -/
def mayOpen (s : State) (u : UnitNo) : Bool := (s.unit u).permits.opn && !(s.unit u).holdCurrent s.now

/-- An owner can take back its order of a target and a kind from a slot (R75): the slot holds it, QUEUED with no copy handed or
WAITING_RETRY. -/
def Withdrawable (s : State) (i : SlotNo) (w : Owner) (u : UnitNo) (k : OrderKind) (o : Order) : Prop :=
  s.slot i = some o ∧ o.owner = w ∧ o.target = u ∧ o.kind = k ∧ unsentYet s i o = true

/-- What a push onto the Shed Stack does at the Dispatcher (R138), told of the states before and after one push or several: the
STOP of a STOP_PENDING gen-set is withdrawn when it was unsent, its slot freed and the gen-set ONLINE again (R136), and it
stands when a copy of it had been handed, or when its slot holds no STOP of the Dispatcher for the gen-set, which has then
reached its end (R75). What is unsent in a retry is notes/assumptions/11.md; a SENT order with a place in the waiting line is
12.md, and is left out. -/
structure StopsWithdrawn (s t : State) : Prop where
  gensets : ∀ (g : UnitNo) (x : OpenOrder), (s.unit g).kind = .genset →
    (s.unit g).gensetJob.dispatch = .stopPending → (s.unit g).gensetJob.openOrder = some x → x.kind = .stop →
    (∀ o : Order, Withdrawable s x.slot .dispatch g .stop o → o.pendingPort = none →
      t.unit g = { s.unit g with gensetJob := { (s.unit g).gensetJob with openOrder := none, dispatch := .online } } ∧
      ∀ o' : Order, t.slot x.slot = some o' → o'.target ≠ g ∨ o'.kind ≠ .stop) ∧
    (∀ o : Order, s.slot x.slot = some o → o.owner = .dispatch → o.target = g → o.kind = .stop →
      unsentYet s x.slot o = false → x.slot ∉ s.orders.waiting →
      t.unit g = s.unit g ∧ ∃ o' : Order, t.slot x.slot = some o' ∧ o'.target = g ∧ o'.kind = o.kind ∧ o'.number = o.number) ∧
    ((∀ o : Order, s.slot x.slot = some o → o.owner ≠ .dispatch ∨ o.target ≠ g ∨ o.kind ≠ .stop) → t.unit g = s.unit g)

/-- One gen-set at the most has an open STOP that a push may withdraw. -/
def OneStopAtMost (s : State) : Prop :=
  ∀ g h : UnitNo, (s.unit g).kind = .genset → (s.unit g).gensetJob.dispatch = .stopPending → (s.unit h).kind = .genset →
    (s.unit h).gensetJob.dispatch = .stopPending → g = h

/-- The occupied Order Slots. -/
def occupied (s : State) : Nat := (allSlots.filter fun i => (s.slot i).isSome).length

/-- There is room to serve feeders from an empty pending shed list: a slot for each. -/
structure RoomToShed (s : State) (us : List UnitNo) : Prop where
  mode  : s.mode = .active ∨ s.mode = .restore
  empty : s.shed.pending = []
  slots : occupied s + us.length ≤ 12

/-- Feeders, CLOSED and each listed once, are added to the pending shed list with a cause, and the list is served (R144). In
HALTED and OBSERVE every entry leaves again. Where there is room, the feeders that may open and have credit become OPENING and
are pushed in order, the open STOPs being withdrawn at the pushes (R138; stated while both ports are busy, so that none is sent in
between), those without credit stay in the list, and those refused HELD or NOT_PERMITTED leave it as they were; a
PREDICTIVE one would be replaced (R153), so for that cause none is refused so here. With every slot occupied the list stands. -/
structure ListServed (s t : State) (us : List UnitNo) (cause : ShedCause) : Prop where
  nobody  : us = [] → t = s
  noOrder : (s.mode = .halted ∨ s.mode = .observe) → us ≠ [] →
    t.units = s.units ∧ t.shed.stack = s.shed.stack ∧ t.shed.pending = [] ∧ t.orders = s.orders ∧ t.events = s.events
  served  : RoomToShed s us → (cause = .predictive → ∀ u ∈ us, mayOpen s u = true) →
    ∀ opened : List UnitNo, opened = us.filter (fun u => mayOpen s u && decide (s.inFlight u < (s.unit u).credit)) →
      t.shed.pending = (us.filter fun u => mayOpen s u && decide ((s.unit u).credit ≤ s.inFlight u)).map (fun u => ⟨u, cause⟩) ∧
      t.shed.stack = s.shed.stack ++ opened.map (fun u =>
        { feeder := u, cause := cause, load := loadCounted (s.unit u), epoch := s.tracker.epoch }) ∧
      (∀ u ∈ opened, ∃ i : SlotNo, OrderMade s t i u .opn .shed none ∧
        t.unit u = { s.unit u with feederJob := { shed := .opening, openOrder := some ⟨.opn, i, .shed⟩ } }) ∧
      (∀ u ∈ us, u ∉ opened → t.unit u = s.unit u) ∧
      (opened ≠ [] → Busy s → StopsWithdrawn s t)
  noSlot  : (s.mode = .active ∨ s.mode = .restore) → s.shed.pending = [] → (∀ i : SlotNo, s.slot i ≠ none) →
    ∀ (u : UnitNo) (rest : List UnitNo), us = u :: rest → mayOpen s u = true → s.inFlight u < (s.unit u).credit →
      t.units = s.units ∧ t.shed.stack = s.shed.stack ∧ t.shed.pending = us.map (fun v => ⟨v, cause⟩) ∧
      t.isLatched .slotsExhausted = true

/-- What a timer entering TRIPPED does (R148): STAGE_TRIPPED is recorded with the frequency and a detail code, and the stage's
feeders that may be shed are listed in order for a cause and served. -/
def StageSheds (s t : State) (n : Fin 6) (f detail : Nat) (cause : ShedCause) : Prop :=
  ∃ (w : State) (us : List UnitNo), RecordWork s w ∧
    (logOpen s → w.events.log.get s.events.writeIndex = some (recordNow s .stageTripped none (some (f : Int)) (some detail))) ∧
    InShedOrder s us ∧ (∀ u : UnitNo, u ∈ us ↔ MayShed s u ∧ (s.unit u).feeder.stage = n.val + 1) ∧
    ListServed w t us cause

/-- FR, the power that the island can pick up at once (R151). -/
def pickupNow (s : State) : Int :=
  (sumUnits s.units fun r =>
    if r.kind = .storage ∧ (r.live.freshness = .fresh ∨ r.live.freshness = .held) ∧ r.live.values.breaker = .closed
    then max 0 ((r.live.values.discharge : Int) - max 0 r.live.values.output) else 0) +
  sumUnits s.units fun r =>
    if r.kind = .genset ∧ r.gensetJob.dispatch = .online
    then (((onlineHeadroom r).toNat * s.settings.pickup / 100 : Nat) : Int) else 0

/-- The covered amount at a predictive shed request (R152): each OPENING feeder at the load of its stack entry, or its stored load
where it has none, and each pending one at its load as counted. -/
def coveredAtOnce (s : State) : Int :=
  ((((List.finRange 64).filter fun u => (s.unit u).kind = .feeder ∧ (s.unit u).feederJob.shed = .opening).map fun u =>
    (((s.shed.stack.find? fun e => e.feeder == u).map StackEntry.load).getD (s.unit u).live.values.load : Int)).sum) +
  (s.shed.pending.map fun e => (loadCounted (s.unit e.feeder) : Int)).sum

/-- A predictive shed request for a tripped gen-set and the power lost (R151 to R153): the amount, the feeders chosen one by one
while the covered amount is below it, the list served, PREDICTIVE_SHED, and SHED_INSUFFICIENT when the candidates run out. -/
def PredictiveSheds (s t : State) (g : UnitNo) (lost : Int) : Prop :=
  ∃ (amount : Int) (cs us : List UnitNo) (w : State), amount = clampPass (lost - pickupNow s) ∧
    InShedOrder s cs ∧ (∀ u : UnitNo, u ∈ cs ↔ MayShed s u) ∧ us <+: cs ∧
    ∀ cover : List UnitNo → Int, (∀ l : List UnitNo, cover l =
        coveredAtOnce s + (l.map fun u => (loadCounted (s.unit u) : Int)).sum) →
      (∀ l : List UnitNo, l <+: us → l ≠ us → cover l < amount) ∧ (us = cs ∨ amount ≤ cover us) ∧
      ListServed { s with shed := {
        s.shed with
        predictive := if us = [] then s.shed.predictive
          else some { amount := amount, covered := cover us, chosen := us } } } w us .predictive ∧
      ((s.mode = .halted ∨ s.mode = .observe) → us ≠ [] → w.shed.predictive = none) ∧
      (RoomToShed s us → (∀ u ∈ us, mayOpen s u = true) → us ≠ [] →
        w.shed.predictive = some { amount := amount, covered := cover us, chosen := us }) ∧
      RecordWork w t ∧
      (logOpen w → t.events.log.get w.events.writeIndex =
        some (recordNow w .predictiveShed (some g) (some amount) (some us.length))) ∧
      (cover us < amount → t.isLatched .shedInsufficient = true)

/-- A feeder's reading gives it new Shed Controller items, and it leaves the stack and the pending shed list by the state that it
then has (R142, R144). -/
structure FeederBecomes (s t : State) (u : UnitNo) (j : FeederJob) : Prop where
  unit    : t.unit u = { s.unit u with feederJob := j }
  stack   : t.shed.stack = if stacked j.shed then s.shed.stack else s.shed.stack.filter fun e => e.feeder != u
  pending : t.shed.pending =
    if j.shed = .closed then s.shed.pending else s.shed.pending.filter fun e => e.feeder != u

/-- A feeder's reading returns it to CLOSED with FEEDER_RESTORED recorded: the load of its stack entry, or its stored load when it
has none, and a detail code (R143, R155). -/
def FeederRestored (s t : State) (u : UnitNo) (j : FeederJob) (detail : Nat) : Prop :=
  FeederBecomes s t u { j with shed := .closed, restoreFail := 0 } ∧
  (logOpen s → t.events.log.get s.events.writeIndex = some (recordNow s .feederRestored (some u)
    (some (((s.shed.stack.find? fun e => e.feeder == u).map StackEntry.load).getD (s.unit u).live.values.load : Int))
    (some detail)))

/-- What a FEEDER reading, already stored, does at the Shed Controller, row by row (R143, R145, R155); `before` and `was` are the
breaker and the freshness that the record held before it. -/
structure FeederMoves (s t : State) (u : UnitNo) (before : Breaker) (was : Freshness) : Prop where
  frame     : (∀ v : UnitNo, v ≠ u → t.unit v = s.unit v) ∧ t.dispatcher = s.dispatcher ∧ t.tracker = s.tracker ∧
    t.balance = s.balance ∧ t.alloc = s.alloc ∧ t.seqr = s.seqr ∧ t.service = s.service ∧ t.agenda = s.agenda ∧
    (∀ i : SlotNo, (t.slot i).map Order.content = (s.slot i).map Order.content) ∧ t.shed.stages = s.shed.stages ∧
    t.shed.timers = s.shed.timers ∧ t.shed.rocof = s.shed.rocof ∧ t.shed.lastRestore = s.shed.lastRestore
  rows      : ∀ (r : UnitRec) (j : FeederJob) (news : Bool), r = s.unit u → j = r.feederJob →
    (news = true ↔ was = .absent ∨ r.live.values.breaker ≠ before) →
    (j.shed = .unknown → r.live.values.breaker = .closed →
      FeederBecomes s t u { j with shed := .closed, restoreFail := 0 } ∧ t.events = s.events) ∧
    (j.shed = .unknown → r.live.values.breaker = .opn →
      FeederBecomes s t u { j with shed := .openOther } ∧ t.events = s.events) ∧
    (j.shed = .closed → news = true → r.live.values.breaker = .opn →
      FeederBecomes s t u { j with shed := .openOther } ∧ t.events = s.events) ∧
    (j.shed = .closed → (news = false ∨ r.live.values.breaker = .closed) → t = s) ∧
    (j.shed = .opening → j.openOrder = none → j.settling = some .opn → r.live.values.breaker = .opn →
      FeederBecomes s t u { j with shed := .shed, settling := none } ∧ t.events = s.events) ∧
    (j.shed = .opening → j.openOrder = none → j.settling = some .opn → r.live.values.breaker = .closed →
      FeederBecomes s t u { j with shed := .closed, settling := none, restoreFail := 0 } ∧ t.events = s.events) ∧
    (j.shed = .opening → (j.openOrder ≠ none ∨ j.settling ≠ some .opn) → t = s) ∧
    (j.shed = .shed → news = true → r.live.values.breaker = .closed → FeederRestored s t u j 2) ∧
    (j.shed = .shed → (news = false ∨ r.live.values.breaker = .opn) → t = s) ∧
    (j.shed = .restoring → r.live.values.breaker = .closed →
      (j.settling = some .close ∨ j.openOrder = none ∧ news = true) →
      FeederRestored s t u { j with openOrder := none, deadline := none, settling := none } 1) ∧
    (j.shed = .restoring → r.live.values.breaker = .opn → j.settling = some .close →
      FeederBecomes s t u {
        j with
        shed := if u ∈ s.shed.stack.map StackEntry.feeder then .shed else .openOther
        openOrder := none
        deadline := none
        settling := none } ∧ t.events = s.events) ∧
    (j.shed = .restoring → j.settling ≠ some .close →
      (j.openOrder ≠ none ∨ news = false ∨ r.live.values.breaker = .opn) → t = s) ∧
    ((j.shed = .openOther ∨ j.shed = .openPlan) → news = true → r.live.values.breaker = .closed →
      FeederBecomes s t u { j with shed := .closed, restoreFail := 0 } ∧ t.events = s.events) ∧
    ((j.shed = .openOther ∨ j.shed = .openPlan) → (news = false ∨ r.live.values.breaker = .opn) → t = s)

/-! ## Frequency arrivals (R55) -/

/-- One stage at a frequency arrival (R147, R148): a disabled one is passed over; an enabled one takes it by its timer's table,
and when it enters TRIPPED its feeders are shed. -/
structure StageTakes (s t : State) (a : Arrival) (n : Fin 6) : Prop where
  disabled : (s.shed.stages.get n).enabled = false → t = s
  enabled  : (s.shed.stages.get n).enabled = true → ∀ (held : Bool) (x : Timer) (w : State),
    (held = true ↔ n = 0 ∧ 2 ≤ s.shed.rocof.lowCount) →
    x = takeTimer (s.shed.stages.get n) a held (s.shed.timers.get n) →
    w = { s with shed := { s.shed with timers := s.shed.timers.set n x } } →
    ((x.state ≠ .tripped ∨ (s.shed.timers.get n).state = .tripped) → t = w) ∧
    (x.state = .tripped → (s.shed.timers.get n).state ≠ .tripped → StageSheds w t n a.frequency (n.val + 1) (.stage n))

/-- The ROCOF trigger, judged after the stages (R150). -/
structure TriggerTakes (s t : State) (a : Arrival) : Prop where
  fires : s.shed.rocof.lowCount = 2 → (s.shed.stages.get 0).enabled = true → (s.shed.timers.get 0).state ≠ .tripped →
    StageSheds { s with shed := {
      s.shed with timers := s.shed.timers.set 0 { s.shed.timers.get 0 with state := .tripped } } } t 0 a.frequency 7 .rocof
  rests : (s.shed.rocof.lowCount ≠ 2 ∨ (s.shed.stages.get 0).enabled = false ∨
    (s.shed.timers.get 0).state = .tripped) → t = s

/-- What an assertion of the dead-bus detector does, by mode and plan (R162): BUS_DEAD is recorded before any record of the action
it starts, with the meter, the voltage and the detail code. -/
structure DeadBus (s t : State) (a : Arrival) : Prop where
  nothing : (s.mode = .halted ∨ s.mode = .observe ∨ s.mode = .active ∧ s.settings.blackStart = false) →
    RecordWork s t ∧ (logOpen s → t.events.log.get s.events.writeIndex =
      some (recordNow s .busDead (some a.meter) (some (a.voltage : Int)) (some 0)))
  starts  : s.mode = .active → s.settings.blackStart = true →
    t.progress.current = 0 ∧ t.progress.attempt = 1 ∧ t.progress.restarts = 0 ∧ t.progress.startTime = s.now ∧
    ((s.seqr.plan.get 0).action ≠ .noAction → (s.seqr.plan.get 0).action ≠ .endPlan →
      t.mode = .restore ∧ t.progress.planState = .running) ∧
    (logOpen s → t.events.log.get s.events.writeIndex =
      some (recordNow s .busDead (some a.meter) (some (a.voltage : Int)) (some 1)))
  again   : s.mode = .restore → ∀ n : Nat, n = min 4 (s.progress.restarts + 1) → n ≤ s.settings.restartLimit →
    t.mode = .restore ∧ t.agenda.getLast? = some .planAdvance ∧
    ((s.progress.stepState = .issued ∨ s.progress.stepState = .waiting) →
      t.progress = { s.progress with
        restarts := n, restartPending := true, stepState := .failed, failCause := some 7, deadline := none, toIssue := [] }) ∧
    ((s.progress.stepState = .done ∨ s.progress.stepState = .failed) →
      t.progress = { s.progress with restarts := n, restartPending := true }) ∧
    (logOpen s → t.events.log.get s.events.writeIndex =
      some (recordNow s .busDead (some a.meter) (some (a.voltage : Int)) (some 2)))
  ends    : s.mode = .restore → ∀ n : Nat, n = min 4 (s.progress.restarts + 1) → s.settings.restartLimit < n →
    t.mode = .observe ∧ t.progress.planState = .aborted ∧ t.progress.endCause = some 4 ∧ t.progress.restarts = n ∧
    t.isLatched .planFailed = true ∧
    (logOpen s → t.events.log.get s.events.writeIndex =
      some (recordNow s .busDead (some a.meter) (some (a.voltage : Int)) (some 3)))

/-- A frequency arrival at the Sequencer (R161, R162): the run of low voltage, the assertion or its end, and what follows. An
arrival at which the detector does not assert is handed to the step of a plan that is RUNNING (R165). -/
def DetectorTakes (s t : State) (a : Arrival) : Prop :=
  ∃ (since : Option Time) (dead : Bool),
    (∀ start : Time, a.voltage < s.settings.deadVoltage →
      start = (if a.sourceChanged = true ∨ a.gap = none then a.time else s.seqr.lowSince.getD a.time) →
      since = some start ∧ (dead = true ↔ s.seqr.asserted = true ∨ s.settings.deadConfirm ≤ elapsed a.time start ∧
        ∀ u : UnitNo, (s.unit u).kind = .genset →
          ((s.unit u).live.freshness = .fresh ∨ (s.unit u).live.freshness = .held) →
          (s.unit u).live.values.breaker = .opn)) ∧
    (s.settings.deadVoltage ≤ a.voltage → since = none ∧
      (dead = true ↔ s.seqr.asserted = true ∧ a.voltage < s.settings.liveVoltage)) ∧
    ∀ d : State, d = { s with seqr := { s.seqr with lowSince := since, asserted := dead } } →
      ((dead = false ∨ s.seqr.asserted = true) → t = stepEvent d (.arrival a) ∧ (s.planRunning = false → t = d)) ∧
      (dead = true → s.seqr.asserted = false → DeadBus d t a)

/-- A frequency arrival at the Shed Controller: the ROCOF tracker (R149), then the six stages in ascending number, each with what
its trip sheds (the order is notes/assumptions/39.md), then the trigger. -/
def ShedTakes (s t : State) (a : Arrival) : Prop :=
  ∃ after : Nat → State,
    after 0 = { s with shed := { s.shed with rocof := takeRocof s.shed.rocof a s.settings.rocofLimit } } ∧
    (∀ n : Fin 6, StageTakes (after n.val) (after (n.val + 1)) a n) ∧ TriggerTakes (after 6) t a

/-! ## The hand-offs of an accepted reading (R49, R55 to R58) -/

/-- An accepted reading as it stands when its hand-offs begin: its unit holds the live fields `l`, and beyond that only the
bus and, for a unit that was STALE, the record of UNIT_FRESH_AGAIN have moved (R49). -/
structure ReadingStored (s w : State) (m : ReadingMsg) (l : Live) : Prop where
  work  : RecordWork ((takeDelivery s (.reading m)).setUnit m.unit { s.unit m.unit with live := l }) w
  quiet : (s.unit m.unit).live.freshness ≠ .stale → w.events = s.events
  again : (s.unit m.unit).live.freshness = .stale → logOpen s → w.events.log.get s.events.writeIndex =
    some (recordNow s .unitFreshAgain (some m.unit) (some (m.seq.toNat : Int)) (some (kindCode (s.unit m.unit).kind)))

/-- At least one value of a reading was clamped: one that is stored differs from the one carried (R48). -/
def ReadingClamped (l : Live) : ReadingBody → Prop
  | .genset output _ _ _ => l.values.output ≠ output.toInt
  | .pv output available cap _ => l.values.output ≠ output.toInt ∨ (l.values.available : Int) ≠ available.toInt ∨
      ∃ (c : BitVec 32) (n : Nat), cap = some c ∧ l.values.cap = some n ∧ (n : Int) ≠ c.toInt
  | .storage output discharge charge soc _ => l.values.output ≠ output.toInt ∨ (l.values.discharge : Int) ≠ discharge.toInt ∨
      (l.values.charge : Int) ≠ charge.toInt ∨ l.values.soc ≠ soc.toNat
  | .feeder load _ => (l.values.load : Int) ≠ load.toInt
  | .meter frequency voltage => l.values.frequency ≠ frequency.toNat ∨ l.values.voltage ≠ voltage.toNat

/-- The meter is the one in use once its reading is accepted (R53): the reference, or the backup while the reference is no meter
that is FRESH or HELD. -/
def MeterTaken (s : State) (m : UnitNo) : Prop :=
  s.settings.reference = some m ∨ s.settings.backup = some m ∧ ∀ u : UnitNo, s.settings.reference = some u →
    (s.unit u).kind ≠ .meter ∨ (s.unit u).live.freshness ≠ .fresh ∧ (s.unit u).live.freshness ≠ .held

/-- The frequency arrival of an accepted METER reading (R55): the gap is absent when the record was open (R47). -/
structure ArrivalMade (s : State) (m : ReadingMsg) (frequency voltage : Nat) (a : Arrival) : Prop where
  meter    : a.meter = m.unit ∧ a.frequency = frequency ∧ a.voltage = voltage ∧ a.time = s.now
  interval : a.interval = (s.unit m.unit).interval
  source   : a.sourceChanged = true ↔ s.lastSource ≠ some m.unit
  opened   : ((s.unit m.unit).live.heard = false ∨
      (∀ t : Time, (s.unit m.unit).live.lastArrival = some t →
        (s.unit m.unit).stale * (s.unit m.unit).interval < elapsed s.now t)) → a.gap = none
  gap      : ∀ t : Time, (s.unit m.unit).live.heard = true → (s.unit m.unit).live.lastArrival = some t →
    elapsed s.now t ≤ (s.unit m.unit).stale * (s.unit m.unit).interval →
    a.gap = some (m.seq - (s.unit m.unit).live.lastSeq).toNat

/-- A frequency arrival taken by the Shed Controller and by the Sequencer, in the order drawn for the two (R55). -/
def ArrivalTaken (w v : State) (a : Arrival) : Prop :=
  ∃ x y : State, x = { w with lastSource := some a.meter } ∧
    (w.schedule.sequencerFirst = false → ShedTakes x y a ∧ DetectorTakes y v a) ∧
    (w.schedule.sequencerFirst = true → DetectorTakes x y a ∧ ShedTakes y v a)

/-- Who is handed an accepted reading, once it is stored in `w` (R55 to R58); `r` is the record as it was before. -/
structure ReadingHanded (w v : State) (r : UnitRec) (m : ReadingMsg) : Prop where
  owner : bodyKind m.body ≠ .meter → ∀ own step : State → State,
    (∀ x : State, own x = match m.body with
      | .genset .. => gensetReading x m.unit r.live.values.output
      | .pv .. => allocatorReading x m.unit
      | .feeder .. => feederReading x m.unit r.live.values.breaker r.live.freshness
      | _ => x) →
    (∀ x : State, step x = if w.planRunning then stepEvent x .reading else x) →
    v = if w.schedule.sequencerFirst then own (step w) else step (own w)
  feeder : bodyKind m.body = .feeder → w.planRunning = false →
    FeederMoves w v m.unit r.live.values.breaker r.live.freshness
  pv : bodyKind m.body = .pv → w.planRunning = false →
    v = if (w.unit m.unit).pvJob.setpoint = .unsettled
      then w.setUnit m.unit { w.unit m.unit with pvJob := {
        (w.unit m.unit).pvJob with
        commanded := (w.unit m.unit).live.values.cap
        heldCap := (w.unit m.unit).live.values.cap
        setpoint := .idle } }
      else w
  storage : bodyKind m.body = .storage → w.planRunning = false → v = w

/-! ## A chosen feeder that fails (R153) -/

/-- A feeder that has failed for a predictive record `p` is replaced: its load comes off the covered amount, candidates that have
not failed for the record are chosen until the amount is covered again, they join the pending shed list and the record, and
SHED_INSUFFICIENT rises when they run out. -/
def ChosenReplaced (s t : State) (p : Predictive) (u : UnitNo) (load : Nat) : Prop :=
  ∃ (cs us left : List UnitNo) (v : State), InShedOrder s cs ∧
    (∀ c : UnitNo, c ∈ cs ↔ MayShed s c ∧ c ≠ u ∧ c ∉ p.failed) ∧ us <+: cs ∧
    left = (p.chosen.filter (· != u) ++ us).filter (fun c =>
      decide (c ∈ (s.shed.pending.map PendingShed.feeder ++ us)) || decide ((s.unit c).feederJob.shed = .opening)) ∧
    ∀ cover : List UnitNo → Int, (∀ l : List UnitNo, cover l =
        p.covered - load + (l.map fun c => (loadCounted (s.unit c) : Int)).sum) →
      (∀ l : List UnitNo, l <+: us → l ≠ us → cover l < p.amount) ∧ (us = cs ∨ p.amount ≤ cover us) ∧
      v = { s with shed := {
        s.shed with
        pending := s.shed.pending ++ us.map fun c => ⟨c, .predictive⟩
        predictive := if left = [] then none
          else some { amount := p.amount, covered := cover us, chosen := left, failed := p.failed ++ [u] } } } ∧
      RecordWork v t ∧ (p.amount ≤ cover us → t = v) ∧ (cover us < p.amount → t.isLatched .shedInsufficient = true)

/-- The OPEN of a feeder chosen for the predictive record `p` ends REFUSE or TIMED_OUT (R145, R153): the feeder is CLOSED or
OPEN_OTHER by its stored breaker, SHED_FAILED is recorded, the feeder is replaced, and the list is served when it has grown. -/
def ChosenFails (s t : State) (p : Predictive) (u : UnitNo) (detail : Nat) : Prop :=
  ∃ (w x y : State) (load : Nat),
    load = ((s.shed.stack.find? fun e => e.feeder == u).map StackEntry.load).getD (s.unit u).live.values.load ∧
    FeederBecomes s w u { (s.unit u).feederJob with
      openOrder := none
      shed := if (s.unit u).live.values.breaker = .closed then .closed else .openOther
      restoreFail := if (s.unit u).live.values.breaker = .closed then 0 else (s.unit u).feederJob.restoreFail } ∧
    (∀ v : UnitNo, v ≠ u → w.unit v = s.unit v) ∧ w.events = s.events ∧ w.orders = s.orders ∧ w.service = s.service ∧
    RecordWork w x ∧ (logOpen s → x.events.log.get s.events.writeIndex =
      some (recordNow s .shedFailed (some u) (some (load : Int)) (some detail))) ∧
    ChosenReplaced x y p u load ∧
    t = if x.shed.pending.length < y.shed.pending.length then servePending y else y

/-! ## Gen-sets at their readings (chapter 7) -/

/-- An event is the first that is recorded. -/
def RecordsFirst (s t : State) (k : EventKind) (unit : Option UnitNo) (value : Option Int) (detail : Option Nat) : Prop :=
  logOpen s → t.events.log.get s.events.writeIndex = some (recordNow s k unit value detail)

/-- GENSET_LOCKED_OUT is recorded after another event, which QUEUE_PRESSURE may follow first (R80, R130, R134). -/
def LockoutRecorded (s t : State) (u : UnitNo) (n detail : Nat) : Prop :=
  logOpen s → (∀ k : Fin 32, k.val < 3 → s.events.log.get (s.events.writeIndex + k) = none) →
    ∃ k : Fin 32, 0 < k.val ∧ k.val < 3 ∧ t.events.log.get (s.events.writeIndex + k) =
      some (recordNow s .gensetLockedOut (some u) (some (n : Int)) (some detail))

/-- The state in which the availability judgement leaves a gen-set that is STOPPED (R124). -/
def stoppedAs (r : UnitRec) : DispatchState :=
  if r.live.heard = false ∨ r.live.localFlag = true ∨ r.live.values.engine = .faulted then .unavailable else .stopped

/-- The dispatch changes handed to the Sequencer when a gen-set enters states one after the other (R128). -/
def changesHanded (u : UnitNo) : DispatchState → List DispatchState → List Task
  | _, [] => []
  | a, b :: bs => (if a = b then [] else [.dispatchChange u a b]) ++ changesHanded u b bs

/-- The Commitment List when a gen-set has entered a state: it joins the tail, keeps its place, or leaves (R123). -/
def listAfter (l : List UnitNo) (u : UnitNo) (d : DispatchState) : List UnitNo :=
  if d = .stopped ∨ d = .unavailable ∨ d = .lockedOut then l.filter (· != u) else if u ∈ l then l else l ++ [u]

/-- A gen-set has new Dispatcher items, having entered the states of a path, the last of them its own: the Commitment List follows
(R123), and while the plan is RUNNING the changes are handed to the Sequencer (R128). -/
structure GensetBecomes (s t : State) (u : UnitNo) (j : GensetJob) (path : List DispatchState) : Prop where
  unit   : t.unit u = { s.unit u with gensetJob := j }
  others : ∀ v : UnitNo, v ≠ u → t.unit v = s.unit v
  commit : t.dispatcher = { s.dispatcher with commit := listAfter s.dispatcher.commit u j.dispatch }
  frame  : t.shed = s.shed ∧ t.tracker = s.tracker ∧ t.balance = s.balance ∧ t.alloc = s.alloc ∧ t.seqr = s.seqr ∧
    t.service = s.service ∧ t.lastSource = s.lastSource ∧ t.now = s.now ∧ t.orders.counters = s.orders.counters ∧
    ∀ i : SlotNo, (t.slot i).map Order.content = (s.slot i).map Order.content
  handed : t.agenda = s.agenda ++
    if s.planRunning then changesHanded u (s.unit u).gensetJob.dispatch path else []

/-- A failed attempt with its cause code, from given items (R130). -/
def GensetFails (s t : State) (u : UnitNo) (j : GensetJob) (cause : Nat) : Prop :=
  ∀ (n : Nat) (locked : Bool), n = min 3 (j.attempts + 1) → (locked = true ↔ (s.unit u).genset.maxAttempts ≤ n) →
    GensetBecomes s t u {
      j with
      attempts := n
      retryAfter := some (after s.now (s.unit u).genset.retryDelay)
      openOrder := none
      deadline := none
      dispatch := if locked then .lockedOut else stoppedAs (s.unit u) }
      (if locked then [.lockedOut] else [.stopped, stoppedAs (s.unit u)]) ∧
    RecordsFirst s t .gensetStartFailed (some u) (some (n : Int)) (some cause) ∧
    (locked = true → LockoutRecorded s t u n 1)

/-- A start succeeds, from given items (R131). -/
def GensetStarts (s t : State) (u : UnitNo) (j : GensetJob) (path : List DispatchState) : Prop :=
  GensetBecomes s t u {
    j with dispatch := .online, onlineSince := some s.now, attempts := 0, retryAfter := none, deadline := none } path ∧
  RecordsFirst s t .gensetStarted (some u) (some ((j.attempts + 1 : Nat) : Int)) none

/-- A gen-set is STARTING or STOPPING, its dispatch deadline a timeout from now (R129, R132, R133, R136). -/
def GensetWaits (s t : State) (u : UnitNo) (j : GensetJob) (d : DispatchState) (timeout : Nat) : Prop :=
  GensetBecomes s t u { j with dispatch := d, deadline := some (after s.now timeout), settling := none } [d] ∧
  t.events = s.events

/-- A stop ends with the engine read STOPPED, from given items (R137). -/
def GensetStops (s t : State) (u : UnitNo) (j : GensetJob) (path : List DispatchState) : Prop :=
  GensetBecomes s t u {
    j with dispatch := stoppedAs (s.unit u), deadline := none, onlineSince := none, settling := none } path ∧
  RecordsFirst s t .gensetStopped (some u) (some (s.unit u).live.values.output) (some 1)

/-- A trip with the power lost, in the order of R134 (for its three hand-offs: notes/assumptions/15.md). -/
def GensetTrips (s t : State) (u : UnitNo) (lost : Int) : Prop :=
  ∃ (n : Nat) (locked : Bool) (w x : State), n = min 5 ((s.unit u).gensetJob.trips + 1) ∧
    (locked = true ↔ (s.unit u).genset.tripLimit ≤ n) ∧
    GensetBecomes s w u {
      (s.unit u).gensetJob with
      trips := n
      onlineSince := none
      dispatch := if locked then .lockedOut else stoppedAs (s.unit u) }
      (if locked then [.lockedOut] else [.stopped, stoppedAs (s.unit u)]) ∧
    RecordsFirst s w .gensetTripped (some u) (some lost) (some n) ∧ (locked = true → LockoutRecorded s w u n 2) ∧
    RecordWork { w with balance := { w.balance with tripPending := true } } x ∧ x.isLatched .gensetTrip = true ∧
    PredictiveSheds x t u lost

/-- The open STOP of a gen-set is withdrawn from its slot: the slot is freed, the gen-set is ONLINE again, and the slot release is
handed on (R75, R136). -/
structure StopWithdrawn (s t : State) (u : UnitNo) (i : SlotNo) : Prop where
  unit   : t.unit u = { s.unit u with gensetJob := { (s.unit u).gensetJob with openOrder := none, dispatch := .online } }
  others : ∀ v : UnitNo, v ≠ u → t.unit v = s.unit v
  commit : u ∈ s.dispatcher.commit → t.dispatcher = s.dispatcher
  slots  : t.slot i = none ∧ ∀ k : SlotNo, k ≠ i → (t.slot k).map Order.content = (s.slot k).map Order.content
  frame  : t.shed = s.shed ∧ t.tracker = s.tracker ∧ t.balance = s.balance ∧ t.alloc = s.alloc ∧ t.seqr = s.seqr ∧
    t.service = s.service ∧ t.events = s.events ∧ t.now = s.now
  handed : ∃ jobs : List Job, jobs.Perm [.allocator, .dispatcher, .shed, .sequencer] ∧
    t.agenda = s.agenda ++ (if s.planRunning then [.dispatchChange u .stopPending .online] else []) ++
      jobs.map fun k => Task.released k u

/-- A gen-set reads engine RUNNING with its breaker CLOSED. -/
def RunsClosed (r : UnitRec) : Prop := r.live.values.engine = .running ∧ r.live.values.breaker = .closed

/-- What a GENSET reading, already stored, does at the Dispatcher in each dispatch state (R124, R125, R129, R131 to R133, R136,
R137); `lost` is the output that the record held before it (R56). That a START settled by RUNNING with CLOSED has its attempts and
retry-after cleared is the model's choice (notes/assumptions/53.md). -/
structure GensetMoves (s t : State) (u : UnitNo) (lost : Int) : Prop where
  rows : ∀ (r : UnitRec) (j : GensetJob), r = s.unit u → j = r.gensetJob → r.kind = .genset →
    ((j.dispatch = .stopped ∨ j.dispatch = .unavailable) → RunsClosed r →
      GensetBecomes s t u {
        j with dispatch := .online, onlineSince := some s.now, attempts := 0, retryAfter := none } [.online] ∧
      RecordsFirst s t .gensetAdopted (some u) (some r.live.values.output) (some j.dispatch.code)) ∧
    ((j.dispatch = .stopped ∨ j.dispatch = .unavailable) → ¬ RunsClosed r →
      GensetBecomes s t u { j with dispatch := stoppedAs r } [stoppedAs r] ∧ t.events = s.events) ∧
    (j.dispatch = .startPending → j.settling ≠ some .start → t = s) ∧
    (j.dispatch = .startPending → j.settling = some .start →
      (RunsClosed r → GensetStarts s t u { j with settling := none } [.starting, .online]) ∧
      ((r.live.values.engine = .cranking ∨ r.live.values.engine = .running ∧ r.live.values.breaker = .opn) →
        GensetWaits s t u j .starting r.genset.startTimeout) ∧
      ((r.live.values.engine = .stopped ∨ r.live.values.engine = .faulted) →
        GensetBecomes s t u { j with dispatch := stoppedAs r, settling := none } [.stopped, stoppedAs r] ∧
        t.events = s.events)) ∧
    (j.dispatch = .starting →
      (RunsClosed r → GensetStarts s t u j [.online]) ∧ (r.live.values.engine = .faulted → GensetFails s t u j 4) ∧
      (¬ RunsClosed r → r.live.values.engine ≠ .faulted → t = s)) ∧
    (j.dispatch = .online → (r.live.values.breaker = .opn → GensetTrips s t u lost) ∧
      (r.live.values.breaker = .closed → t = s)) ∧
    (j.dispatch = .stopPending → j.settling = some .stop →
      (r.live.values.engine = .stopped → GensetStops s t u j [.stopped, stoppedAs r]) ∧
      (r.live.values.engine ≠ .stopped → GensetWaits s t u j .stopping r.genset.stopTimeout)) ∧
    (j.dispatch = .stopPending → j.settling ≠ some .stop → r.live.values.breaker = .opn →
      ∀ x : OpenOrder, j.openOrder = some x → x.kind = .stop →
        (∀ o : Order, Withdrawable s x.slot .dispatch u .stop o →
          ∃ w : State, StopWithdrawn s w u x.slot ∧ GensetTrips w t u lost) ∧
        ((∀ o : Order, ¬ Withdrawable s x.slot .dispatch u .stop o) →
          GensetWaits s t u j .stopping r.genset.stopTimeout)) ∧
    (j.dispatch = .stopPending → j.settling ≠ some .stop →
      (r.live.values.breaker = .closed ∨ ∀ x : OpenOrder, j.openOrder = some x → x.kind ≠ .stop) → t = s) ∧
    (j.dispatch = .stopping → (r.live.values.engine = .stopped → GensetStops s t u j [.stopped, stoppedAs r]) ∧
      (r.live.values.engine ≠ .stopped → t = s)) ∧
    (j.dispatch = .lockedOut → t = s)

/-! ## The ends of orders at their jobs -/

/-- The blocks that an order's end is handed to, by its owner and its target's kind (R73). The two of a PLAN order come in either
order. -/
structure EndTakers (s : State) (o : Order) (jobs : List Job) : Prop where
  curtail  : o.owner = .curtail → jobs = [.allocator]
  dispatch : o.owner = .dispatch → jobs = [.dispatcher]
  shed     : o.owner = .shed ∨ o.owner = .service → jobs = [.shed]
  plan     : o.owner = .plan →
    ((s.unit o.target).kind = .genset → jobs.Perm [.sequencer, .dispatcher]) ∧
    ((s.unit o.target).kind = .feeder → jobs.Perm [.sequencer, .shed]) ∧
    ((s.unit o.target).kind = .storage ∨ (s.unit o.target).kind = .pv → jobs = [.sequencer])

/-- The end of an order of a gen-set at the Dispatcher (R129, R136, R137). An end of a slot that the gen-set's open order does not
name has no effect (notes/assumptions/37.md). -/
structure DispatcherEnds (s t : State) (i : SlotNo) (u : UnitNo) (e : OrderEnd) : Prop where
  stray : (∀ x : OpenOrder, (s.unit u).gensetJob.openOrder = some x → x.slot ≠ i) → t = s
  late  : ∀ x : OpenOrder, (s.unit u).gensetJob.openOrder = some x → x.slot = i →
    (x.kind = .start ∧ (s.unit u).gensetJob.dispatch ≠ .startPending ∨
      x.kind ≠ .start ∧ (s.unit u).gensetJob.dispatch ≠ .stopPending) →
    t = s.setUnit u { s.unit u with gensetJob := { (s.unit u).gensetJob with openOrder := none } }
  start : ∀ (x : OpenOrder) (r : UnitRec) (j : GensetJob), (s.unit u).gensetJob.openOrder = some x → x.slot = i →
    x.kind = .start → (s.unit u).gensetJob.dispatch = .startPending → r = s.unit u → r.kind = .genset →
    j = { r.gensetJob with openOrder := none } →
    (e = .accept → RunsClosed r → GensetStarts s t u { j with settling := none } [.starting, .online]) ∧
    (e = .accept → ¬ RunsClosed r → GensetWaits s t u j .starting r.genset.startTimeout) ∧
    (∀ why : RefuseReason, e = .refuse why → GensetFails s t u j 1) ∧ (e = .timedOut → GensetFails s t u j 2) ∧
    (∀ why : UnsentCause, e = .unsent why →
      GensetBecomes s t u { j with dispatch := stoppedAs r } [.stopped, stoppedAs r] ∧ t.events = s.events) ∧
    (e = .outcomeUnknown → t = s.setUnit u { r with gensetJob := { j with settling := some .start } })
  stop  : ∀ (x : OpenOrder) (r : UnitRec) (j : GensetJob), (s.unit u).gensetJob.openOrder = some x → x.slot = i →
    x.kind ≠ .start → (s.unit u).gensetJob.dispatch = .stopPending → r = s.unit u → r.kind = .genset →
    j = { r.gensetJob with openOrder := none } →
    (e = .accept → r.live.values.engine = .stopped → GensetStops s t u j [.stopping, .stopped, stoppedAs r]) ∧
    (e = .accept → r.live.values.engine ≠ .stopped → GensetWaits s t u j .stopping r.genset.stopTimeout) ∧
    ((e = .timedOut ∨ (∃ why : RefuseReason, e = .refuse why) ∨ ∃ why : UnsentCause, e = .unsent why) →
      GensetBecomes s t u { j with dispatch := .online } [.online] ∧ t.events = s.events) ∧
    (e = .outcomeUnknown → t = s.setUnit u { r with gensetJob := { j with settling := some .stop } })

/-- A feeder's order end touches no other unit and, outside the shed lists, no other block but the bus and the records. -/
def FeederAlone (s t : State) (u : UnitNo) : Prop :=
  (∀ v : UnitNo, v ≠ u → t.unit v = s.unit v) ∧ t.dispatcher = s.dispatcher ∧ t.tracker = s.tracker ∧
  t.balance = s.balance ∧ t.alloc = s.alloc ∧ t.seqr = s.seqr ∧ t.service = s.service ∧ t.agenda = s.agenda ∧
  ∀ i : SlotNo, (t.slot i).map Order.content = (s.slot i).map Order.content

/-- A restore failure of a feeder, from given items (R155): a stacked one returns to SHED at its first failure and is given up at
its second, one off the stack returns to OPEN_OTHER. A count that stands at 2 is held there (notes/assumptions/41.md). -/
def RestoreFails (s t : State) (u : UnitNo) (j : FeederJob) : Prop :=
  (u ∉ s.shed.stack.map StackEntry.feeder → FeederBecomes s t u { j with shed := .openOther } ∧ t.events = s.events) ∧
  (∀ e : StackEntry, s.shed.stack.find? (fun x => x.feeder == u) = some e →
    (j.restoreFail = 0 → FeederBecomes s t u { j with shed := .shed, restoreFail := 1 } ∧ t.events = s.events) ∧
    (1 ≤ j.restoreFail → FeederBecomes s t u { j with shed := .openOther, restoreFail := 2 } ∧
      RecordsFirst s t .shedFailed (some u) (some (e.load : Int)) (some 3)))

/-- The end of an order of a feeder at the Shed Controller (R145, R155). The end of another slot's order, or of a plan order,
has no effect (R145, R157). A chosen feeder whose OPEN fails is replaced (`ChosenFails`). -/
structure ShedEnds (s t : State) (i : SlotNo) (o : Order) (u : UnitNo) (e : OrderEnd) : Prop where
  stray : (o.owner = .plan ∨ ∀ x : OpenOrder, (s.unit u).feederJob.openOrder = some x → x.slot ≠ i) → t = s
  late  : ∀ x : OpenOrder, (s.unit u).feederJob.openOrder = some x → x.slot = i → o.owner ≠ .plan →
    (s.unit u).feederJob.shed ≠ .opening → (s.unit u).feederJob.shed ≠ .restoring →
    t = s.setUnit u { s.unit u with feederJob := { (s.unit u).feederJob with openOrder := none } }
  opn   : ∀ (x : OpenOrder) (r : UnitRec) (j : FeederJob) (b : ShedState), (s.unit u).feederJob.openOrder = some x →
    x.slot = i → o.owner ≠ .plan → (s.unit u).feederJob.shed = .opening → r = s.unit u →
    j = { r.feederJob with openOrder := none } → b = (if r.live.values.breaker = .closed then .closed else .openOther) →
    (e = .accept → FeederBecomes s t u { j with shed := .shed } ∧ t.events = s.events ∧ FeederAlone s t u) ∧
    (∀ detail : Nat, ((∃ why : RefuseReason, e = .refuse why) ∧ detail = 1 ∨ e = .timedOut ∧ detail = 2) →
      (∀ p : Predictive, s.shed.predictive = some p → u ∉ p.chosen) →
      FeederBecomes s t u { j with shed := b, restoreFail := if b = .closed then 0 else j.restoreFail } ∧
      RecordsFirst s t .shedFailed (some u)
        (some (((s.shed.stack.find? fun y => y.feeder == u).map StackEntry.load).getD r.live.values.load : Int))
        (some detail) ∧ FeederAlone s t u) ∧
    (∀ why : UnsentCause, e = .unsent why →
      FeederBecomes s t u { j with shed := b, restoreFail := if b = .closed then 0 else j.restoreFail } ∧
      t.events = s.events ∧ FeederAlone s t u) ∧
    (e = .outcomeUnknown → t = s.setUnit u { r with feederJob := { j with settling := some .opn } })
  close : ∀ (x : OpenOrder) (r : UnitRec) (j k : FeederJob), (s.unit u).feederJob.openOrder = some x →
    x.slot = i → o.owner ≠ .plan → (s.unit u).feederJob.shed = .restoring → r = s.unit u →
    j = { r.feederJob with openOrder := none } → k = { j with deadline := none, settling := none } →
    (e = .accept → r.live.values.breaker = .closed → FeederRestored s t u k 1 ∧ FeederAlone s t u) ∧
    (e = .accept → r.live.values.breaker = .opn →
      t = s.setUnit u { r with feederJob := { j with deadline := some (after s.now r.feeder.restoreTimeout) } }) ∧
    ((e = .timedOut ∨ ∃ why : RefuseReason, e = .refuse why) → RestoreFails s t u k ∧ FeederAlone s t u) ∧
    (∀ why : UnsentCause, e = .unsent why →
      FeederBecomes s t u {
        k with shed := if u ∈ s.shed.stack.map StackEntry.feeder then .shed else .openOther } ∧
      t.events = s.events ∧ FeederAlone s t u) ∧
    (e = .outcomeUnknown → t = s.setUnit u { r with feederJob := { j with settling := some .close } })

/-- The plan progress after the end of one of the step's orders (R166, R168, R170). -/
def progressAfterEnd (p : Progress) (x : PlanOrder) (e : OrderEnd) : Progress :=
  { p with
    orders := p.orders.erase x
    cancelPending := if e = .unsent .cancelled ∨ e = .outcomeUnknown then true else p.cancelPending
    startEnd := if x.kind = .start then some e else p.startEnd
    closeSeen := if x.kind = .close ∧ e = .accept then some false else p.closeSeen }

/-- The step state that follows the lists while the step is ISSUED or WAITING (R165). -/
def listsFollowed (p : Progress) : Progress :=
  if p.stepState = .issued ∨ p.stepState = .waiting
  then { p with stepState := if p.orders = [] ∧ p.toIssue = [] then .waiting else .issued }
  else p

/-- A plan order of a failed step is withdrawn: taken back where it can be, its end handed on and then its slot release, and
standing otherwise, TOO_LATE (R75, R172). -/
structure PlanOrderWithdrawn (s t : State) (x : PlanOrder) : Prop where
  late  : (∀ o : Order, ¬ Withdrawable s x.slot .plan x.target x.kind o) → t = s
  taken : ∀ o : Order, Withdrawable s x.slot .plan x.target x.kind o →
    SameOutsidePorts { s with agenda := t.agenda } t ∧ t.slot x.slot = none ∧
    (∀ k : SlotNo, k ≠ x.slot → (t.slot k).map Order.content = (s.slot k).map Order.content) ∧
    t.orders.counters = s.orders.counters ∧
    ∃ takers jobs : List Job, EndTakers s o takers ∧ jobs.Perm [.allocator, .dispatcher, .shed, .sequencer] ∧
      t.agenda = s.agenda ++ takers.map (fun j => Task.ended j x.slot o (.unsent .withdrawn)) ++
        jobs.map fun j => Task.released j x.target

/-- An ISSUED or WAITING step fails for a cause (R172): its orders are withdrawn one after the other (their order and that of the
hand-offs: notes/assumptions/44.md), STEP_FAILED is recorded, and the plan moves on once the hand-offs are taken. -/
structure StepFails (s t : State) (cause : Nat) (unit : Option UnitNo) : Prop where
  progress : t.progress = { s.progress with stepState := .failed, failCause := some cause, deadline := none, toIssue := [] }
  orders   : ∃ (turn : Nat → State) (w : State), turn 0 = s.setProgress t.progress ∧
    (∀ (k : Nat) (x : PlanOrder), s.progress.orders[k]? = some x → PlanOrderWithdrawn (turn k) (turn (k + 1)) x) ∧
    RecordWork (turn s.progress.orders.length) w ∧ t = { w with agenda := w.agenda ++ [.planAdvance] }
  recorded : RecordsFirst s t .stepFailed unit (some (s.progress.current.val : Int)) (some cause)

/-- The end of a plan order at the Sequencer (R166, R172). An end that makes neither the cancellation nor a failure is taken by
the step as an event. -/
structure SequencerEnds (s t : State) (i : SlotNo) (o : Order) (e : OrderEnd) : Prop where
  stray : (s.progress.planState ≠ .running ∨ (⟨i, o.target, o.kind⟩ : PlanOrder) ∉ s.progress.orders) → t = s
  taken : ∀ (x : PlanOrder) (p : Progress) (w : State), x = ⟨i, o.target, o.kind⟩ → s.progress.planState = .running →
    x ∈ s.progress.orders → p = progressAfterEnd s.progress x e →
    w = { s with seqr := { s.seqr with progress := p } } →
    ((p.cancelPending = true ∨ p.stepState = .done ∨ p.stepState = .failed) →
      t = { s with seqr := { s.seqr with progress := listsFollowed p }, agenda := s.agenda ++ [.planAdvance] }) ∧
    (∀ cause : Nat, p.cancelPending = false → (p.stepState = .issued ∨ p.stepState = .waiting) → o.kind ≠ .start →
      ((∃ why : RefuseReason, e = .refuse why) ∧ cause = 2 ∨ e = .timedOut ∧ cause = 3) →
      t.progress = { p with stepState := .failed, failCause := some cause, deadline := none, toIssue := [] } ∧
      t.units = s.units ∧ t.shed = s.shed ∧ t.dispatcher = s.dispatcher ∧
      ∃ v : State, StepFails w v cause (some o.target) ∧ t = { v with agenda := v.agenda ++ [.planAdvance] }) ∧
    (p.cancelPending = false → (p.stepState = .issued ∨ p.stepState = .waiting) →
      (o.kind = .start ∨ e = .accept ∨ ∃ why : UnsentCause, e = .unsent why) →
      ∃ v : State, v = stepEvent w .orderEnd ∧
        t = { v with
          seqr := { v.seqr with progress := listsFollowed v.progress }
          agenda := v.agenda ++ [.planAdvance] })

/-! ## The plan moves on (chapter 9) -/

/-- A feeder as a plan claim leaves it (R157); one that the plan holds already is not claimed again (R167). -/
def feederClaimed (r : UnitRec) : UnitRec :=
  if r.kind = .feeder ∧ r.feederJob.shed ≠ .openPlan then
    { r with feederJob := { r.feederJob with shed := .openPlan, openOrder := none, deadline := none, settling := none } }
  else r

/-- A feeder as the end of a COMPLETED plan leaves it (R158). One that is ABSENT is settled from the initial OPEN
(notes/assumptions/32.md), and a restore-fail count is kept but in CLOSED. -/
def feederAfterCompletion (r : UnitRec) : UnitRec :=
  if r.kind = .feeder ∧ r.feederJob.shed = .openPlan then
    { r with feederJob := {
      r.feederJob with
      shed := if r.live.values.breaker = .closed then .closed else if r.feeder.essential then .openOther else .shed
      restoreFail := if r.live.values.breaker = .closed then 0 else r.feederJob.restoreFail } }
  else r

/-- A feeder that the plan holds and whose breaker is OPEN. -/
def HeldOpen (r : UnitRec) : Prop :=
  r.kind = .feeder ∧ r.feederJob.shed = .openPlan ∧ r.live.values.breaker = .opn

/-- What END does in RESTORE (R174), from a state whose step has begun: PLAN_ENDED, the feeders released in ascending priority
value with the non-essential ones pushed (R158), SHED_FAILED for each essential one left open (their order: 42.md), and ACTIVE. -/
structure PlanCompletes (s v : State) : Prop where
  mode       : v.mode = .active
  plan       : v.progress = { s.progress with planState := .completed, endCause := some 0, deadline := none } ∧
    v.seqr.plan = s.seqr.plan ∧ v.seqr.asserted = s.seqr.asserted ∧ v.seqr.lowSince = s.seqr.lowSince
  feeders    : ∀ u : UnitNo, (s.unit u).kind ≠ .genset → v.unit u = feederAfterCompletion (s.unit u)
  stack      : (∀ e ∈ s.shed.stack, (s.unit e.feeder).feederJob.shed ≠ .openPlan) → ∃ us : List UnitNo, InShedOrder s us ∧
    (∀ u : UnitNo, u ∈ us ↔ HeldOpen (s.unit u) ∧ (s.unit u).feeder.essential = false) ∧
    v.shed.stack = s.shed.stack ++ us.map fun u =>
      { feeder := u, cause := .plan, load := loadCounted (s.unit u), epoch := s.tracker.epoch }
  shed       : v.shed.timers = s.shed.timers ∧ v.shed.rocof = s.shed.rocof ∧ v.shed.stages = s.shed.stages ∧
    v.shed.lastRestore = s.shed.lastRestore ∧
    ((∀ e ∈ s.shed.pending, (s.unit e.feeder).feederJob.shed ≠ .openPlan) → v.shed.pending = s.shed.pending)
  jobs       : v.tracker = s.tracker ∧ v.balance = s.balance ∧ v.alloc = { s.alloc with planLimit := none } ∧
    v.lastSource = s.lastSource ∧ v.settings = s.settings ∧ v.access = s.access
  gensets    : (∃ u : UnitNo, HeldOpen (s.unit u) ∧ (s.unit u).feeder.essential = false) → Busy s → StopsWithdrawn s v
  quiet      : (∀ g : UnitNo, (s.unit g).kind = .genset → (s.unit g).gensetJob.dispatch ≠ .stopPending) →
    (∀ u : UnitNo, (s.unit u).kind = .genset → v.unit u = s.unit u) ∧ v.dispatcher = s.dispatcher ∧ v.agenda = s.agenda ∧
    ∀ i : SlotNo, (v.slot i).map Order.content = (s.slot i).map fun o => { o with planStep := none }.content
  recorded   : logOpen s → v.events.log.get s.events.writeIndex =
    some (recordNow s .planEnded none (some (s.progress.current.val : Int)) (some 0))
  leftOpen   : s.events.overflow = false → (∀ k : LogNo, s.events.log.get k = none) → ∀ us : List UnitNo,
    us = (List.finRange 64).filter (fun u => (s.unit u).kind = .feeder ∧ (s.unit u).feederJob.shed = .openPlan ∧
      (s.unit u).live.values.breaker = .opn ∧ (s.unit u).feeder.essential = true) → us.length ≤ 16 →
    ∀ u ∈ us, ∃ k : LogNo, v.events.log.get k =
      some (recordNow s .shedFailed (some u) (some ((s.unit u).live.values.load : Int)) (some 4))

/-- The progress record with a step begun at an attempt (R165; the last three items are notes/assumptions/19.md). -/
def stepBegun (s : State) (k : Fin 32) (n : Nat) : Progress :=
  { s.progress with
    current := k
    attempt := n
    stepState := .issued
    startTime := s.now
    deadline := some (after s.now (s.seqr.plan.get k).timeout)
    orders := []
    toIssue := []
    members := []
    stableSince := none
    failCause := none
    cancelPending := false
    startEnd := none
    foundStarted := false
    closeSeen := none }

/-- The step is DONE at its beginning, from given progress items: STEP_DONE is recorded, and the plan moves on (R165). -/
def StepIsDone (s t : State) (p : Progress) (unit : Option UnitNo) : Prop :=
  t.progress = { p with stepState := .done, deadline := none, toIssue := [] } ∧ t.agenda = s.agenda ++ [.planAdvance] ∧
  RecordsFirst s t .stepDone unit (some (p.current.val : Int)) (some p.attempt)

/-- The step cannot issue an order at its beginning and fails with cause 4 (R172). -/
def StepCannotIssue (s t : State) (p : Progress) (unit : Option UnitNo) : Prop :=
  t.progress = { p with stepState := .failed, failCause := some 4, deadline := none, toIssue := [] } ∧
  t.agenda = s.agenda ++ [.planAdvance] ∧ RecordsFirst s t .stepFailed unit (some (p.current.val : Int)) (some 4)

/-- A step asks for the CLOSE of a unit at its beginning (R166). -/
structure CloseAsked (s t : State) (p : Progress) (u : UnitNo) : Prop where
  made    : ∀ i : SlotNo, judgeRequest s u .close .plan = .created i →
    OrderMade s t i u .close .plan (some p.current) ∧ t.progress = { p with orders := [⟨i, u, .close⟩] } ∧ t.agenda = s.agenda
  waits   : (judgeRequest s u .close .plan = .refused .noCredit ∨ judgeRequest s u .close .plan = .refused .noSlot) →
    t.progress = { p with toIssue := [(u, .close)] } ∧ t.agenda = s.agenda ∧
    ∀ i : SlotNo, (t.slot i).map Order.content = (s.slot i).map Order.content
  refused : (judgeRequest s u .close .plan = .refused .held ∨ judgeRequest s u .close .plan = .refused .notPermitted) →
    StepCannotIssue s t p (some u)

/-- A unit reads OPEN, or reads CLOSED (R167). -/
def Reads (r : UnitRec) (b : Breaker) : Prop :=
  (r.live.freshness = .fresh ∨ r.live.freshness = .held) ∧ r.live.values.breaker = b

/-- A step of the running plan begins at an attempt in RESTORE, for each action (R165 to R171). -/
structure StepBegins (s t : State) (k : Fin 32) (n : Nat) : Prop where
  empty      : (s.seqr.plan.get k).action = .noAction → PlanAborts s t .observe 3
  endPlan    : (s.seqr.plan.get k).action = .endPlan → ∀ w : State,
    w = s.setProgress { stepBegun s k n with stepState := .done, deadline := none } → PlanCompletes w t
  goesOn     : (s.seqr.plan.get k).action ≠ .noAction → (s.seqr.plan.get k).action ≠ .endPlan →
    t.progress.current = k ∧ t.progress.attempt = n ∧ t.progress.startTime = s.now ∧ t.progress.planState = .running ∧
    t.progress.restarts = s.progress.restarts ∧ t.mode = s.mode ∧ t.tracker = s.tracker ∧ t.balance = s.balance ∧
    t.service = s.service ∧ t.lastSource = s.lastSource ∧ t.seqr.plan = s.seqr.plan ∧
    ((s.seqr.plan.get k).action ≠ .releasePv → t.alloc = s.alloc) ∧
    ((s.seqr.plan.get k).action ≠ .startGenset → t.dispatcher = s.dispatcher)
  waitStable : (s.seqr.plan.get k).action = .waitStable → t = s.setProgress { stepBegun s k n with stepState := .waiting }
  releasePv  : (s.seqr.plan.get k).action = .releasePv → ∀ w : State,
    w = limitSweep (s.setProgress (stepBegun s k n)) (s.seqr.plan.get k).argument →
    StepIsDone w t (stepBegun s k n) none ∧ t.alloc.planLimit = some (s.seqr.plan.get k).argument ∧ t.units = w.units
  closeUnit  : (s.seqr.plan.get k).action = .closeUnit → ∀ u : UnitNo, (s.seqr.plan.get k).argument = u.val →
    ((s.unit u).kind ≠ .feeder → (s.unit u).kind ≠ .storage → (s.unit u).kind ≠ .pv →
      StepCannotIssue s t (stepBegun s k n) (some u) ∧ t.units = s.units ∧
        ∀ i : SlotNo, (t.slot i).map Order.content = (s.slot i).map Order.content) ∧
    (((s.unit u).kind = .feeder ∨ (s.unit u).kind = .storage ∨ (s.unit u).kind = .pv) →
      (∀ v : UnitNo, v ≠ u → t.unit v = s.unit v) ∧
      ((s.unit u).feederJob.shed ≠ .openPlan → t.unit u = feederClaimed (s.unit u)) ∧
      ((s.unit u).kind = .feeder → t.shed.stack = (s.shed.stack.filter fun e => e.feeder != u) ∧
        t.shed.pending = s.shed.pending.filter fun e => e.feeder != u) ∧
      (Reads (s.unit u) .closed → StepIsDone s t (stepBegun s k n) (some u)) ∧
      (¬ Reads (s.unit u) .closed → CloseAsked s t (stepBegun s k n) u))
  closeZone  : (s.seqr.plan.get k).action = .closeZone → ∀ us : List UnitNo,
    us = (List.finRange 64).filter (fun u => (s.unit u).kind = .feeder ∧ (s.unit u).feederJob.shed = .openPlan ∧
      (s.unit u).zone = (s.seqr.plan.get k).argument ∧
      ¬ (((s.unit u).live.freshness = .fresh ∨ (s.unit u).live.freshness = .held) ∧ (s.unit u).live.values.breaker = .closed)) →
    t.units = s.units ∧ t.shed = s.shed ∧ (us = [] → StepIsDone s t (stepBegun s k n) none) ∧
    ∀ (u : UnitNo) (rest : List UnitNo), us = u :: rest → CloseAsked s t { stepBegun s k n with members := us } u
  startsOne  : (s.seqr.plan.get k).action = .startGenset → ∀ u : UnitNo, (s.seqr.plan.get k).argument = u.val →
    ((s.unit u).kind ≠ .genset → StepCannotIssue s t (stepBegun s k n) (some u) ∧ t.units = s.units) ∧
    ((s.unit u).kind = .genset →
      ((s.unit u).gensetJob.dispatch = .online →
        StepIsDone s t { stepBegun s k n with foundStarted := true } (some u) ∧ t.units = s.units) ∧
      (((s.unit u).gensetJob.dispatch = .startPending ∨ (s.unit u).gensetJob.dispatch = .starting) →
        t = s.setProgress { stepBegun s k n with foundStarted := true, stepState := .waiting }) ∧
      ((s.unit u).gensetJob.dispatch = .lockedOut → StepCannotIssue s t (stepBegun s k n) (some u) ∧ t.units = s.units) ∧
      (((s.unit u).gensetJob.dispatch = .unavailable ∨ (s.unit u).gensetJob.dispatch = .stopPending ∨
          (s.unit u).gensetJob.dispatch = .stopping ∨ (s.unit u).gensetJob.dispatch = .stopped ∧ 2 ≤ underWay s) →
        t = s.setProgress { stepBegun s k n with toIssue := [(u, .start)] }) ∧
      ((s.unit u).gensetJob.dispatch = .stopped → underWay s < 2 →
        (∀ i : SlotNo, judgeRequest s u .start .plan = .created i →
          OrderMade s t i u .start .plan (some k) ∧ t.progress = { stepBegun s k n with orders := [⟨i, u, .start⟩] } ∧
          (∀ v : UnitNo, v ≠ u → t.unit v = s.unit v) ∧
          t.unit u = { s.unit u with gensetJob := {
            (s.unit u).gensetJob with openOrder := some ⟨.start, i, .plan⟩, dispatch := .startPending } }) ∧
        ((judgeRequest s u .start .plan = .refused .noCredit ∨ judgeRequest s u .start .plan = .refused .noSlot) →
          t.progress = { stepBegun s k n with toIssue := [(u, .start)] } ∧ t.units = s.units) ∧
        ((judgeRequest s u .start .plan = .refused .held ∨ judgeRequest s u .start .plan = .refused .notPermitted) →
          StepCannotIssue s t (stepBegun s k n) (some u) ∧ t.units = s.units)))
  openAll    : (s.seqr.plan.get k).action = .openAllFeeders →
    (∀ u : UnitNo, t.unit u = feederClaimed (s.unit u)) ∧
    t.shed.stack = s.shed.stack.filter (fun e =>
      !decide ((s.unit e.feeder).kind = .feeder ∧ (s.unit e.feeder).feederJob.shed ≠ .openPlan)) ∧
    t.shed.pending = s.shed.pending.filter (fun e =>
      !decide ((s.unit e.feeder).kind = .feeder ∧ (s.unit e.feeder).feederJob.shed ≠ .openPlan)) ∧
    ((∀ u : UnitNo, (s.unit u).kind = .feeder → Reads (s.unit u) .opn) → StepIsDone s t (stepBegun s k n) none) ∧
    ((∃ u : UnitNo, (s.unit u).kind = .feeder ∧ ¬ Reads (s.unit u) .opn ∧ mayOpen s u = false) →
      t.progress.stepState = .failed ∧ t.progress.failCause = some 4 ∧ t.progress.toIssue = [] ∧
        t.progress.deadline = none ∧ t.agenda.getLast? = some .planAdvance) ∧
    ((∃ u : UnitNo, (s.unit u).kind = .feeder ∧ ¬ Reads (s.unit u) .opn) →
      (∀ u : UnitNo, (s.unit u).kind = .feeder → ¬ Reads (s.unit u) .opn → mayOpen s u = true) →
      ∃ (orders : List PlanOrder) (waiting : List (UnitNo × OrderKind)),
        t.progress = { stepBegun s k n with orders := orders, toIssue := waiting } ∧ t.agenda = s.agenda ∧
        (∀ x ∈ orders, x.kind = .opn ∧ (s.unit x.target).kind = .feeder ∧ ¬ Reads (s.unit x.target) .opn ∧
          OrderMade s t x.slot x.target .opn .plan (some k)) ∧
        (∀ x ∈ waiting, x.2 = .opn ∧ (s.unit x.1).kind = .feeder ∧ ¬ Reads (s.unit x.1) .opn) ∧
        ∀ u : UnitNo, (s.unit u).kind = .feeder → ¬ Reads (s.unit u) .opn →
          ((∃ x ∈ orders, x.target = u) ↔ (u, .opn) ∉ waiting) ∧
          ((s.unit u).credit ≤ s.inFlight u → (u, .opn) ∈ waiting) ∧
          (s.inFlight u < (s.unit u).credit →
            occupied s + ((List.finRange 64).filter fun v => (s.unit v).kind = .feeder).length ≤ 12 →
            ∃ x ∈ orders, x.target = u))

/-! ## An event reaches a step (R165 to R172) -/

/-- An entry joins a to-issue list, which stays in ascending unit number (R166). -/
def Added (old new : List (UnitNo × OrderKind)) (x : UnitNo × OrderKind) : Prop :=
  new.Perm (x :: old) ∧ (old.Pairwise (fun a b => a.1 ≤ b.1) → new.Pairwise fun a b => a.1 ≤ b.1)

/-- The order list or the to-issue list holds an order of the step for a unit. -/
def StepHolds (p : Progress) (u : UnitNo) (k : OrderKind) : Prop :=
  (∃ x ∈ p.orders, x.target = u ∧ x.kind = k) ∨ (u, k) ∈ p.toIssue

/-- Stable-since after an arrival, by its table (R169). -/
structure StableSince (s : State) (a : Arrival) (since : Option Time) : Prop where
  outside : (s.settings.stableBand < ((a.frequency : Int) - s.settings.fNom).natAbs ∨ a.voltage < s.settings.liveVoltage) →
    since = none
  starts  : ((a.frequency : Int) - s.settings.fNom).natAbs ≤ s.settings.stableBand → s.settings.liveVoltage ≤ a.voltage →
    (a.sourceChanged = true ∨ a.gap = none ∨ s.progress.stableSince = none) → since = some a.time
  kept    : ((a.frequency : Int) - s.settings.fNom).natAbs ≤ s.settings.stableBand → s.settings.liveVoltage ≤ a.voltage →
    a.sourceChanged = false → a.gap ≠ none → s.progress.stableSince ≠ none → since = s.progress.stableSince

/-- What the action of the current step, `p`, does at an event before the tests (R167 to R171): OPEN_ALL claims every feeder and
adds those that do not read OPEN; START notes a gen-set found starting or ONLINE; WAIT_STABLE judges an arrival; CLOSE_UNIT adds
a unit that reads OPEN again after its CLOSE was accepted; CLOSE_ZONE strikes off the members that read CLOSED and adds the
first left. -/
structure StepPrepares (s w : State) (e : Trigger) (p : PlanStep) : Prop where
  openAll    : p.action = .openAllFeeders →
    (∀ u : UnitNo, w.unit u = feederClaimed (s.unit u)) ∧
    w.shed.stack = s.shed.stack.filter (fun e =>
      !decide ((s.unit e.feeder).kind = .feeder ∧ (s.unit e.feeder).feederJob.shed ≠ .openPlan)) ∧
    w.shed.pending = s.shed.pending.filter (fun e =>
      !decide ((s.unit e.feeder).kind = .feeder ∧ (s.unit e.feeder).feederJob.shed ≠ .openPlan)) ∧
    w.progress = { s.progress with toIssue := w.progress.toIssue } ∧
    (∃ us : List UnitNo, us.Pairwise (· < ·) ∧
      (∀ u : UnitNo, u ∈ us ↔ (s.unit u).kind = .feeder ∧ ¬ Reads (s.unit u) .opn ∧ ¬ StepHolds s.progress u .opn) ∧
      w.progress.toIssue.Perm (s.progress.toIssue ++ us.map fun u => (u, .opn))) ∧
    (s.progress.toIssue.Pairwise (fun a b => a.1 ≤ b.1) → w.progress.toIssue.Pairwise fun a b => a.1 ≤ b.1) ∧
    w = { s with units := w.units, shed := w.shed, seqr := { s.seqr with progress := w.progress } }
  start      : p.action = .startGenset → ∀ u : UnitNo, p.argument = u.val →
    w = if (s.unit u).kind = .genset ∧ ((s.unit u).gensetJob.dispatch = .startPending ∨
        (s.unit u).gensetJob.dispatch = .starting ∨ (s.unit u).gensetJob.dispatch = .online)
      then s.setProgress { s.progress with foundStarted := true } else s
  waitStable : p.action = .waitStable →
    (∀ a : Arrival, e = .arrival a →
      ∃ since : Option Time, StableSince s a since ∧ w = s.setProgress { s.progress with stableSince := since }) ∧
    ((∀ a : Arrival, e ≠ .arrival a) → w = s)
  closeUnit  : p.action = .closeUnit → ∀ u : UnitNo, p.argument = u.val →
    (s.progress.closeSeen = none → w = s) ∧
    (s.progress.closeSeen ≠ none → ¬ Reads (s.unit u) .opn → w = s.setProgress { s.progress with closeSeen := some true }) ∧
    (Reads (s.unit u) .opn → (s.progress.closeSeen = some false ∨ StepHolds s.progress u .close) → w = s) ∧
    (Reads (s.unit u) .opn → s.progress.closeSeen = some true → ¬ StepHolds s.progress u .close →
      ∃ l : List (UnitNo × OrderKind), Added s.progress.toIssue l (u, .close) ∧
        w = s.setProgress { s.progress with closeSeen := none, toIssue := l })
  closeZone  : p.action = .closeZone → ∃ (us : List UnitNo) (l : List (UnitNo × OrderKind)), us.Sublist s.progress.members ∧
    (∀ u : UnitNo, u ∈ us ↔ u ∈ s.progress.members ∧ ¬ Reads (s.unit u) .closed) ∧
    w = s.setProgress { s.progress with members := us, toIssue := l } ∧
    ((us = [] ∨ (∃ x ∈ s.progress.orders, x.kind = .close) ∨ ∃ x ∈ s.progress.toIssue, x.2 = .close) → l = s.progress.toIssue) ∧
    ∀ (u : UnitNo) (rest : List UnitNo), us = u :: rest → (∀ x ∈ s.progress.orders, x.kind ≠ .close) →
      (∀ x ∈ s.progress.toIssue, x.2 ≠ .close) → Added s.progress.toIssue l (u, .close)
  others     : (p.action = .noAction ∨ p.action = .releasePv ∨ p.action = .endPlan) → w = s

/-- The done test of the current step, `p`, at an event (R167 to R171). -/
def StepDoneNow (w : State) (e : Trigger) (p : PlanStep) : Prop :=
  match p.action with
  | .openAllFeeders => ∀ u : UnitNo, (w.unit u).kind = .feeder → Reads (w.unit u) .opn
  | .startGenset => ∃ u : UnitNo, p.argument = u.val ∧ (w.unit u).kind = .genset ∧ (w.unit u).gensetJob.dispatch = .online
  | .waitStable => ∃ (a : Arrival) (since : Time), e = .arrival a ∧ w.progress.stableSince = some since ∧
      p.hold ≤ elapsed a.time since
  | .closeUnit => ∃ u : UnitNo, p.argument = u.val ∧ Reads (w.unit u) .closed
  | .closeZone => w.progress.members = []
  | .releasePv => True
  | .noAction => False
  | .endPlan => False

/-- The loss test of a START_GENSET step, with the cause that the last end of its START gives (R168). -/
structure GensetLost (w : State) (p : PlanStep) (u : UnitNo) (cause : Nat) : Prop where
  step  : p.action = .startGenset ∧ p.argument = u.val ∧ ∀ x ∈ w.progress.orders, x.kind ≠ .start
  lost  : (w.unit u).kind = .genset ∧ ((w.unit u).gensetJob.dispatch = .stopped ∨
    (w.unit u).gensetJob.dispatch = .unavailable ∨ (w.unit u).gensetJob.dispatch = .lockedOut)
  since : w.progress.startEnd ≠ none ∨ w.progress.foundStarted = true
  cause : cause = match w.progress.startEnd with
    | some (.refuse _) => 2
    | some .timedOut => 3
    | _ => 6

/-- The step is DONE at an event (R165): STEP_DONE is recorded, and the plan moves on once the hand-offs are taken. -/
def StepCompletes (w t : State) (unit : Option UnitNo) : Prop :=
  ∃ v : State, RecordWork (w.setProgress { w.progress with stepState := .done, deadline := none, toIssue := [] }) v ∧
    t = { v with agenda := v.agenda ++ [.planAdvance] } ∧
    RecordsFirst w t .stepDone unit (some (w.progress.current.val : Int)) (some w.progress.attempt)

/-- The entries of the to-issue list are asked for in order (R166): a slot filled joins the order list, an entry without credit or
slot stays, and HELD or NOT_PERMITTED fails the step with cause 4. -/
def ListIssued (w v : State) : List (UnitNo × OrderKind) → Prop
  | [] => v = w
  | (u, k) :: rest =>
    (∀ i : SlotNo, judgeRequest w u k .plan = .created i →
      ∃ x : State, x = (requestOrder w u k none .plan (some w.progress.current)).1 ∧
        OrderMade w x i u k .plan (some w.progress.current) ∧
        ListIssued (x.setProgress { w.progress with
          toIssue := w.progress.toIssue.erase (u, k), orders := w.progress.orders ++ [⟨i, u, k⟩] }) v rest) ∧
    (judgeRequest w u k .plan = .refused .noCredit → ListIssued w v rest) ∧
    (judgeRequest w u k .plan = .refused .noSlot →
      ∃ x : State, RecordWork w x ∧ x.isLatched .slotsExhausted = true ∧ ListIssued x v rest) ∧
    ((judgeRequest w u k .plan = .refused .held ∨ judgeRequest w u k .plan = .refused .notPermitted) →
      StepFails w v 4 (some u))

/-- A plan start request is made and answered (R128, R168). While it is to be asked again, the gen-set stands in the to-issue
list. -/
structure StartRequested (w v : State) (u : UnitNo) : Prop where
  unable  : ((w.unit u).kind ≠ .genset ∨ (w.unit u).gensetJob.dispatch = .lockedOut) → StepFails w v 4 (some u)
  waits   : (w.unit u).kind = .genset → ((w.unit u).gensetJob.dispatch = .online ∨
      (w.unit u).gensetJob.dispatch = .startPending ∨ (w.unit u).gensetJob.dispatch = .starting) →
    v = w.setProgress { w.progress with toIssue := [] }
  again   : (w.unit u).kind = .genset → ((w.unit u).gensetJob.dispatch = .unavailable ∨
      (w.unit u).gensetJob.dispatch = .stopPending ∨ (w.unit u).gensetJob.dispatch = .stopping ∨
      (w.unit u).gensetJob.dispatch = .stopped ∧ 2 ≤ underWay w) →
    ((u, .start) ∈ w.progress.toIssue → v = w) ∧
    ((u, .start) ∉ w.progress.toIssue → ∃ l : List (UnitNo × OrderKind), Added w.progress.toIssue l (u, .start) ∧
      v = w.setProgress { w.progress with toIssue := l })
  asked   : (w.unit u).kind = .genset → (w.unit u).gensetJob.dispatch = .stopped → underWay w < 2 →
    (∀ i : SlotNo, judgeRequest w u .start .plan = .created i →
      OrderMade w v i u .start .plan (some w.progress.current) ∧
      v.progress = { w.progress with toIssue := [], orders := w.progress.orders ++ [⟨i, u, .start⟩] } ∧
      (∀ x : UnitNo, x ≠ u → v.unit x = w.unit x) ∧
      v.unit u = { w.unit u with gensetJob := {
        (w.unit u).gensetJob with openOrder := some ⟨.start, i, .plan⟩, dispatch := .startPending } } ∧
      v.dispatcher.commit = listAfter w.dispatcher.commit u .startPending ∧
      (w.progress.planState = .running → v.agenda = w.agenda ++ [.dispatchChange u .stopped .startPending])) ∧
    ((judgeRequest w u .start .plan = .refused .noCredit ∨ judgeRequest w u .start .plan = .refused .noSlot) →
      v.units = w.units ∧ ∃ l : List (UnitNo × OrderKind), v.progress = { w.progress with toIssue := l } ∧
        ((u, .start) ∈ w.progress.toIssue → l = w.progress.toIssue) ∧
        ((u, .start) ∉ w.progress.toIssue → Added w.progress.toIssue l (u, .start))) ∧
    ((judgeRequest w u .start .plan = .refused .held ∨ judgeRequest w u .start .plan = .refused .notPermitted) →
      StepFails w v 4 (some u))

/-- An event reaches the step of a running plan (R165 to R172): unless it is closed or a cancellation is pending, the action
does its part, the done test and then the loss test are made, and with neither the requests are made, at an event that serves
the list or when an entry was added; the step state then follows the lists. -/
structure StepTakes (s t : State) (e : Trigger) : Prop where
  closed : (s.progress.planState ≠ .running ∨ s.progress.cancelPending = true ∨
    s.progress.stepState ≠ .issued ∧ s.progress.stepState ≠ .waiting) → t = s
  taken  : ∀ p : PlanStep, p = s.seqr.plan.get s.progress.current → s.progress.planState = .running →
    (s.progress.stepState = .issued ∨ s.progress.stepState = .waiting) → s.progress.cancelPending = false →
    ((p.action = .startGenset ∨ p.action = .closeUnit) → p.argument < 64) →
    ∃ w : State, StepPrepares s w e p ∧
      (StepDoneNow w e p → StepCompletes w t p.unit) ∧
      (∀ (u : UnitNo) (cause : Nat), ¬ StepDoneNow w e p → GensetLost w p u cause → StepFails w t cause (some u)) ∧
      (¬ StepDoneNow w e p → (∀ (u : UnitNo) (cause : Nat), ¬ GensetLost w p u cause) →
        ∃ v : State, t = v.setProgress (listsFollowed v.progress) ∧
          ∀ asks : Bool, (asks = true ↔ e = .began ∨ e = .dispatch ∨ e = .release ∨ e = .completion) →
            (p.action ≠ .startGenset → (asks = true ∨ s.progress.toIssue.length < w.progress.toIssue.length) →
              ListIssued w v w.progress.toIssue) ∧
            (p.action ≠ .startGenset → asks = false → w.progress.toIssue.length ≤ s.progress.toIssue.length → v = w) ∧
            (∀ u : UnitNo, p.action = .startGenset → p.argument = u.val →
              (asks = true → (∀ x ∈ w.progress.orders, x.kind ≠ .start) → StartRequested w v u) ∧
              ((asks = false ∨ ∃ x ∈ w.progress.orders, x.kind = .start) → v = w)))

/-- The plan moves on from its current step: to the next at attempt 1, or to its end without END past step 31 (R165). -/
structure PlanMovesOn (s t : State) : Prop where
  last : s.progress.current = 31 → PlanAborts s t .observe 3
  next : ∀ k : Fin 32, k.val = s.progress.current.val + 1 → StepBegins s t k 1

/-- The plan moves on once no order of a DONE or FAILED step is left (R165, R173): the restart of a renewed dead bus, the next
step, or the policy of a FAILED step. -/
structure PlanAdvances (s t : State) : Prop where
  stays   : (s.progress.planState ≠ .running ∨ s.progress.stepState = .issued ∨ s.progress.stepState = .waiting ∨
    s.progress.cancelPending = true ∨ s.progress.orders ≠ []) → t = s
  moves   : s.mode = .restore → s.progress.planState = .running → s.progress.cancelPending = false → s.progress.orders = [] →
    s.agenda = [] → (s.progress.stepState = .done ∨ s.progress.stepState = .failed) →
    (s.progress.restartPending = true → ∀ w : State,
      w = limitSweep (s.setProgress { s.progress with restartPending := false }) 0 →
      ((s.seqr.plan.get 0).action = .noAction → PlanAborts (w.setProgress (stepBegun w 0 1)) t .observe 3) ∧
      ((s.seqr.plan.get 0).action ≠ .noAction → StepBegins w t 0 1)) ∧
    (s.progress.restartPending = false → s.progress.stepState = .done → PlanMovesOn s t) ∧
    (s.progress.restartPending = false → s.progress.stepState = .failed → ∀ p : PlanStep,
      p = s.seqr.plan.get s.progress.current →
      (p.policy = .retry → s.progress.attempt < 3 → StepBegins s t s.progress.current (s.progress.attempt + 1)) ∧
      (p.policy = .retry → 3 ≤ s.progress.attempt → PlanAborts s t .observe 2) ∧
      (p.policy = .skip → PlanMovesOn s t) ∧
      (p.policy = .abort → PlanAborts s t .observe 1))

end Sys2Proof.Machine
end

