-- ==== Sys2Proof/Certificates/Slice0/Obligations.lean ====
section
/-! DEFINITION. The statements about the part, each named for what it says. They are listed in OBLIGATIONS.json. -/

open Sys2Proof Sys2Proof.Machine

/-! ## Steps, the queue of commands, and what no command changes -/

/-- A step takes the command at the front of the queue and is its `exec` on the state with the queue's rest; on an empty queue
the part idles. The queue is the model's own (notes/assumptions/6.md). -/
def Obligations.StepTakesTheFrontCommand : Prop :=
  (∀ (c : Instr) (s : State), step { s with pending := c :: s.pending } = exec c s) ∧
  (∀ (s : State) (c : Instr) (rest : List Instr), s.pending = c :: rest → step s = exec c { s with pending := rest }) ∧
  ∀ s : State, s.pending = [] → step s = .next s

/-- Every command keeps the commands that wait and the schedule (notes/assumptions/4.md and 6.md), and every command but
power-on reset and its end keeps the station address (R1). -/
def Obligations.CommandsKeepQueueAndStation : Prop :=
  ∀ (i : Instr) (s t : State), exec i s = .next t →
    t.pending = s.pending ∧ t.schedule = s.schedule ∧ (notPowerReset i = true → t.frame.station = s.frame.station)

/-- No command but WRITE RECORD and power-on reset changes any configuration: Settings, Access, Stages, Routing, Phases, the
plan, and every unit record's configuration fields (R189, R192). -/
def Obligations.ConfigurationChangesByWriteAlone : Prop :=
  ∀ (i : Instr) (s t : State), notPowerReset i = true → i ≠ .writeRecord → exec i s = .next t → SameConfig s t

/-- A latched condition stays latched until CLEAR CONDITIONS, an engine reset or a power-on reset (R177, R178). -/
def Obligations.LatchedConditionsStay : Prop :=
  ∀ (i : Instr) (s t : State) (c : Condition), notPowerReset i = true → i ≠ .clearConditions → i ≠ .engineReset →
    exec i s = .next t → s.isLatched c = true → t.isLatched c = true

/-- A record of the Event Log stays in its slot until ACK EVENTS or a power-on reset (R181, R182, R192). -/
def Obligations.LogRecordsStayUntilAcknowledged : Prop :=
  ∀ (i : Instr) (s t : State) (k : LogNo) (e : EventRec), notPowerReset i = true → i ≠ .ackEvents → exec i s = .next t →
    s.events.log.get k = some e → t.events.log.get k = some e

/-! ## Invariants that every step keeps -/

/-- The plan is RUNNING exactly when the engine mode is RESTORE (R164). -/
def Obligations.PlanRunsExactlyInRestore : Prop :=
  ∀ s t : State, PlanMode s → step s = .next t → PlanMode t

/-- The bounds on occupied Order Slots hold after every step (R64). -/
def Obligations.SlotBoundsKept : Prop :=
  ∀ s t : State, SlotBounds s → step s = .next t → SlotBounds t

/-- No occupied slot holds an order whose kind is absent from its target's permitted-order set (R67). -/
def Obligations.SlotsHoldPermittedOrders : Prop :=
  ∀ s t : State, Permitted s → step s = .next t → Permitted t

/-- The Commitment List holds exactly the committed gen-sets, each once (R123). It holds of every state: a queued WRITE RECORD
whose field mask does not rise is BAD_REQUEST (notes/assumptions/2.md). -/
def Obligations.CommitmentListExact : Prop :=
  ∀ s t : State, CommitExact s → step s = .next t → CommitExact t

/-- The Shed Stack holds exactly the non-essential feeders in OPENING, SHED or RESTORING, each once (R142). It holds of every
state: a queued WRITE RECORD whose field mask does not rise is BAD_REQUEST (notes/assumptions/2.md). -/
def Obligations.ShedStackExact : Prop :=
  ∀ s t : State, StackExact s → step s = .next t → StackExact t

/-- The five invariants hold right after reset. -/
def Obligations.InvariantsHoldAtReset : Prop :=
  PlanMode State.reset ∧ SlotBounds State.reset ∧ Permitted State.reset ∧ CommitExact State.reset ∧ StackExact State.reset

/-! ## Reset -/

/-- What power-on reset leaves, block by block (R17 to R19, R33, R35, R36, R40, R53, R55, R60, R63, R65, R69, R71, R74, R80 to R82,
R84, R101, R103 to R105, R122, R123, R141, R142, R146, R151, R154, R160, R163, R164, R169, R177, R179, R180, R184 to R187, R191,
R192): only values that the spec states. The straps and the link states of `State.reset` are the model's choice and are not
stated (notes/assumptions/1.md). -/
def Obligations.ResetLeavesTheStatedValues : Prop :=
  (State.reset.inReset = false ∧ State.reset.now = 0 ∧ State.reset.service.mode = .halted ∧ State.reset.service.queue = [] ∧
    State.reset.lastSource = none) ∧
  State.reset.tracker = {
    epoch := 0, state := .unset, period := 1000, primaryRec := none, secondaryRec := none, lossDeadline := none
    unsetDeadline := none, freeDeadline := none, primaryReturn := 0, secondaryReturn := 0, passInProgress := false
    overruns := 0 } ∧
  (∀ u : UnitNo, State.reset.unit u = {} ∧ State.reset.inFlight u = 0 ∧ State.reset.orders.counters.get u = 0 ∧
    ∀ r : UnitRec, r = State.reset.unit u → r.kind = .noUnit ∧ r.linkAddr = 0 ∧ r.zone = 0 ∧ r.rating = 0 ∧ r.interval = 100 ∧
      r.stale = 5 ∧ r.credit = 1 ∧ (∀ k : OrderKind, r.permits.has k = false) ∧ r.winLow = 0 ∧ r.winHigh = 65535 ∧
      r.live.freshness = .absent) ∧
  ((∀ i : SlotNo, State.reset.slot i = none) ∧ (∀ c : QClass, State.reset.fill c = 0) ∧ State.reset.orders.waiting = []) ∧
  (State.reset.frame.seqOrder = 0 ∧ State.reset.frame.seqResponse = 0 ∧ State.reset.frame.seqNotice = 0 ∧
    (∀ p : Port, State.reset.phase p = 0 ∧ (State.reset.port p).tx = .free ∧ (State.reset.port p).buffer = []) ∧
    ∀ k : Fin 16, State.reset.egress.phases.get k =
      if k.val % 2 = 0 then .dispatch else if k.val % 4 = 1 then .setpoint else .report) ∧
  State.reset.balance.published = {
    epoch := 0, passTime := 0, pg := 0, ppv := 0, ps := 0, pl := 0, gen := 0, sr := 0, rr := 0, rm := 0, rmProspect := 0
    cd := 0, f := 0, fValid := false, meterUsed := none, deltaF := 0, rocof := none, condition := .normal
    startWanted := false, startCount := 0, stopCandidate := none, rmAfter := none, stopCount := 0, restoreNeed := none
    restoreCount := 0, restoreAllowed := false } ∧
  (State.reset.balance.working = none ∧ State.reset.balance.startCount = 0 ∧ State.reset.balance.stopCount = 0 ∧
    State.reset.balance.stopUnit = none ∧ State.reset.balance.restoreCount = 0 ∧ State.reset.balance.restoreFeeder = none ∧
    State.reset.balance.tripPending = false) ∧
  (State.reset.alloc.planLimit = none ∧ State.reset.alloc.lastShortfall = 0) ∧
  (State.reset.dispatcher.commit = [] ∧ State.reset.dispatcher.startRetry = false) ∧
  (State.reset.shed.stack = [] ∧ State.reset.shed.pending = [] ∧ State.reset.shed.predictive = none ∧
    (∀ n : Fin 6, State.reset.shed.timers.get n = { state := .idle, since := none }) ∧
    State.reset.shed.rocof =
      { prevFrequency := none, prevMeter := none, latest := none, valueMeter := none, lowCount := 0 } ∧
    State.reset.shed.lastRestore = none) ∧
  (State.reset.shed.stages.toList.map fun g => (g.threshold, g.delay, g.hysteresis, g.enabled)) =
    [(49500, 200, 100, true), (49300, 200, 100, true), (49100, 150, 100, true), (48900, 100, 100, true),
     (48700, 100, 100, true), (48500, 0, 100, true)] ∧
  (State.reset.seqr.asserted = false ∧ State.reset.seqr.lowSince = none ∧
    ∀ k : Fin 32, State.reset.seqr.plan.get k =
      { action := .noAction, argument := 0, timeout := 60000, policy := .abort, hold := 0 }) ∧
  (∀ g : Progress, g = State.reset.progress → g.planState = .notRunning ∧ g.current = 0 ∧ g.stepState = .issued ∧ g.attempt = 1 ∧
    g.startTime = 0 ∧ g.restarts = 0 ∧ g.endCause = none ∧ g.deadline = none ∧ g.orders = [] ∧ g.toIssue = [] ∧
    g.members = [] ∧ g.stableSince = none ∧ g.cancelPending = false ∧ g.failCause = none ∧ g.restartPending = false) ∧
  ((∀ c : Condition, State.reset.isLatched c = false) ∧ (∀ k : LogNo, State.reset.events.log.get k = none) ∧
    State.reset.events.writeIndex = 0 ∧ State.reset.events.overflow = false ∧
    (∀ g : Fin 8, State.reset.events.groups.get g = false) ∧
    State.reset.events.primarySide = none ∧ State.reset.events.backupSide = none) ∧
  (State.reset.events.routing.toList.map fun x => (x.dest, x.group.val)) =
    [0, 0, 1, 2, 2, 3, 3, 3, 4, 4, 4, 5, 5, 5, 5, 5, 5, 6, 6, 6, 6, 6, 7, 7, 7, 7].map (fun g => (.both, g)) ∧
  (State.reset.access.primaryController = none ∧ State.reset.access.backupController = none ∧
    State.reset.access.primaryTimeMaster = none ∧ State.reset.access.secondaryTimeMaster = none) ∧
  ∀ x : Settings, x = State.reset.settings →
    (x.epochMode = .single ∧ x.lossCount = 3 ∧ x.returnCount = 3 ∧ x.holdTime = 60000 ∧ x.reference = none ∧ x.backup = none ∧
      x.replyTime = 200 ∧ x.retryLimit = 2) ∧
    (x.fNom = 50000 ∧ x.fHigh = 50100 ∧ x.kCurt = 2000 ∧ x.rrMin = 0 ∧ x.pvRisk = 50 ∧ x.pvCredit = 0 ∧ x.rocofLimit = 1000 ∧
      x.startConfirm = 2 ∧ x.startForRestore = false ∧ x.stopMargin = 200 ∧ x.stopConfirm = 30 ∧ x.restoreMargin = 20 ∧
      x.restoreFrequency = 49900 ∧ x.restoreHold = 10) ∧
    (x.curtailEnable = true ∧ x.releaseStep = 50 ∧ x.releaseMargin = 100) ∧
    (x.pickup = 60 ∧ x.restoreEnable = true ∧ x.restoreInterval = 10000) ∧
    (x.blackStart = false ∧ x.deadVoltage = 50 ∧ x.liveVoltage = 360 ∧ x.deadConfirm = 2000 ∧ x.restartLimit = 1 ∧
      x.stableBand = 200) ∧
    ∀ c : Condition, x.freezeMask.getLsbD c.code = true ↔
      c = .referenceStale ∨ c = .epochFreeRun ∨ c = .gensetTrip ∨ c = .shedInsufficient

/-- POWER_ON_RESET puts the part into reset with both buffers and every queue empty, and POWER_ON_RESET_END samples the straps
into the station address 02-1B-40-00-00-NN, takes the two link states, and sets the timebase to 0 (R1, R18, R33, R192). With
no reset under way POWER_ON_RESET_END changes nothing: the model's choice (notes/assumptions/7.md). -/
def Obligations.PowerOnResetAndItsEnd : Prop :=
  (∀ s : State, ∃ t : State, exec .powerOnReset s = .next t ∧ t.inReset = true ∧ t.service.mode = .halted ∧
    (∀ p : Port, (t.port p).buffer = [] ∧ (t.port p).tx = .free ∧ (t.port p).up = (s.port p).up) ∧
    (∀ i : SlotNo, t.slot i = none) ∧ (∀ c : QClass, t.fill c = 0) ∧ t.service.queue = [] ∧ t.events.latched = 0 ∧
    (∀ u : UnitNo, t.unit u = {})) ∧
  (∀ (s : State) (straps : Byte) (paUp pbUp : Bool), s.inReset = true →
    ∃ t : State, exec (.powerOnResetEnd straps paUp pbUp) s = .next t ∧ t.inReset = false ∧ t.now = 0 ∧
      t.frame.station = (0x021B400000#40 ++ straps : BitVec 48) ∧ (t.port .pa).up = paUp ∧ (t.port .pb).up = pbUp ∧
      (∀ p : Port, (t.port p).buffer = [] ∧ (t.port p).tx = .free ∧ (t.port p).rx = .idle) ∧
      t.frame.seqOrder = 0 ∧ t.frame.seqResponse = 0 ∧ t.frame.seqNotice = 0 ∧ t.service.mode = .halted) ∧
  (∀ (s : State) (straps : Byte) (paUp pbUp : Bool), s.inReset = false →
    exec (.powerOnResetEnd straps paUp pbUp) s = .next s)

/-! ## The Frame Path -/

/-- A port that goes DOWN receives and transmits nothing and no received frame waits for it; a port that goes UP receives from
the next frame, and the oldest frame that waits for it is transmitted from its place when no URGENT item is eligible (R2, R14).
Nothing outside the bus changes. That the frames fully received and waiting for a port are removed as it goes DOWN, and the
reception there ends, is notes/assumptions/10.md; that a waiting frame still being received starts at its turn is 29.md. -/
def Obligations.LinkChangesStopAndStartAPort : Prop :=
  (∀ (s : State) (p : Port), Ready s → (s.port p).up = true →
    ∃ t : State, exec (.linkDown p) s = .next t ∧ SameOutsidePorts s t ∧
      (t.port p).up = false ∧ (t.port p).rx = .idle ∧ (t.port p).tx = .free ∧
      (∀ x ∈ (t.port p.other).buffer, x.receiving = true) ∧ (t.port p.other).up = (s.port p.other).up ∧
      t.frame.delivered = s.frame.delivered ∧ (∀ i : SlotNo, (t.slot i).map Order.content = (s.slot i).map Order.content)) ∧
  (∀ (s : State) (p : Port), Ready s → (s.port p).up = false →
    ∃ t : State, exec (.linkUp p) s = .next t ∧ SameOutsidePorts s t ∧
      (t.port p).up = true ∧ (t.port p).rx = .idle ∧ (t.port p.other).up = (s.port p.other).up ∧
      t.frame.delivered = s.frame.delivered ∧ (∀ i : SlotNo, (t.slot i).map Order.content = (s.slot i).map Order.content) ∧
      ((s.port p.other).buffer.any Place.waiting = true → NoUrgent s p →
        OldestSent (s.port p.other).buffer t p ∧ t.phase p = s.phase p ∧
        (PortQuiet s p.other → t.egress = s.egress ∧ sequences t = sequences s)))

/-- The timebase advances by one and nothing else changes (R33); a deadline set `ms` after a time is reached exactly when `ms`
have passed, for every duration below 2^31 ms, whatever the wrap. -/
def Obligations.TimebaseTicksAndDeadlinesFollowIt : Prop :=
  (∀ s : State, Ready s → exec .timebaseTick s = .next { s with now := s.now + 1 }) ∧
  ∀ (t : Time) (ms k : Nat), ms < 2 ^ 31 → k < 2 ^ 31 → (reached (after t k) (after t ms) = true ↔ ms ≤ k)

/-- A frame that begins to arrive takes a place at the end of its direction's buffer, or, with all four places taken, is lost
and raises FORWARD_DROP (R3, R4). -/
def Obligations.ArrivingFrameTakesAPlaceOrIsLost : Prop :=
  ∀ (s : State) (p : Port), Ready s → (s.port p).up = true → (s.port p).rx = .idle →
    ((s.port p).buffer.length < 4 →
      exec (.frameArrivalStart p) s =
        .next (s.setPort p { s.port p with rx := .head, buffer := (s.port p).buffer ++ [{}] })) ∧
    (4 ≤ (s.port p).buffer.length →
      ∃ t : State, exec (.frameArrivalStart p) s = .next t ∧ RecordWork (s.setRx p .lost) t ∧
        t.isLatched .forwardDrop = true ∧ (t.port p).rx = .lost ∧ (t.port p).buffer = (s.port p).buffer ∧
        (s.isLatched .forwardDrop = true → t = s.setRx p .lost) ∧
        (s.isLatched .forwardDrop = false → logOpen s →
          t.events.log.get s.events.writeIndex = some (recordNow s .conditionLatched none none (some 4))))

/-- What the first twelve bytes of a frame decide (R5 to R7): a frame of the part's own is a ring return and one addressed to
the part is consumed, and both give up their place; every other frame is forwarded, at once when the far port is UP and
free and no earlier frame waits for it. -/
def Obligations.AddressesDecideForwarding : Prop :=
  ∀ (s : State) (p : Port) (dst src : Addr), Ready s → (s.port p).rx = .head →
    ∃ t : State, exec (.frameAddressesReceived p dst src) s = .next t ∧ t = { s with frame := t.frame } ∧
      t.frame.delivered = s.frame.delivered ∧
      if src = s.frame.station then
        (t.port p).rx = .ringReturn ∧ (t.port p).buffer = (s.port p).buffer.filter (fun x => !x.receiving) ∧
          t.port p.other = s.port p.other
      else if dst = s.frame.station then
        (t.port p).rx = .consumed src ∧ (t.port p).buffer = (s.port p).buffer.filter (fun x => !x.receiving) ∧
          t.port p.other = s.port p.other
      else
        ∃ go : Bool, (go = true ↔ (s.port p.other).up = true ∧ (s.port p.other).tx = .free ∧
            (s.port p).buffer.any Place.waiting = false) ∧
          (t.port p).rx = .forwarded dst src ∧
          (go = true → t.port p.other = { s.port p.other with tx := .forwarding }) ∧
          (go = false → t.port p.other = s.port p.other) ∧
          ∀ (before : List Place) (x : Place), (s.port p).buffer = before ++ [x] → (∀ y ∈ before, y.receiving = false) →
            x.receiving = true →
            (t.port p).buffer = before ++ [{ x with addrs := some (dst, src), sending := go }]

/-- The end of a reception (R8, R13): a frame with an error is delivered to no block; one without is delivered, as it was
addressed to the part or not. A forwarded frame with an error, or with a DOWN far port, that has not begun to be sent is
removed; any other stays in its place, cut to 1,522 bytes and marked when it had an error. A ring return, a frame lost and a
frame already cut off at 1,522 bytes end with nothing delivered, and one too short for its addresses gives up its place. The
lengths count the addresses and the check sequence (notes/assumptions/9.md), and a delivery joins the list of those not yet
taken (3.md). -/
def Obligations.ReceptionEndDelivers : Prop :=
  ∀ (s : State) (p : Port) (rest : List Byte) (badCheck partialByte : Bool) (dst src : Addr), Ready s →
    ∀ error : Bool, (error = true ↔
      badCheck = true ∨ partialByte = true ∨ 12 + rest.length < 64 ∨ 1522 < 12 + rest.length) →
    ((s.port p).rx = .consumed src →
      ∃ t : State, exec (.frameReceptionEnd p rest badCheck partialByte) s = .next t ∧ t = { s with frame := t.frame } ∧
        (t.port p).rx = .idle ∧ (t.port p).buffer = (s.port p).buffer ∧ t.port p.other = s.port p.other ∧
        t.frame.delivered = s.frame.delivered ++ if error then [] else (deliveryOf p src true rest).toList) ∧
    (((s.port p).rx = .ringReturn ∨ (s.port p).rx = .lost ∨ (s.port p).rx = .overlong) →
      exec (.frameReceptionEnd p rest badCheck partialByte) s = .next (s.setPort p { s.port p with rx := .idle })) ∧
    ((s.port p).rx = .head →
      exec (.frameReceptionEnd p rest badCheck partialByte) s = .next (s.setPort p {
        s.port p with rx := .idle, buffer := (s.port p).buffer.filter fun x => !x.receiving })) ∧
    ((s.port p).rx = .forwarded dst src →
      ∃ t : State, exec (.frameReceptionEnd p rest badCheck partialByte) s = .next t ∧ t = { s with frame := t.frame } ∧
        (t.port p).rx = .idle ∧ t.port p.other = s.port p.other ∧
        t.frame.delivered = (s.frame.delivered ++ if error then [] else (deliveryOf p src false rest).toList) ∧
        ∀ (before : List Place) (x : Place), (s.port p).buffer = before ++ [x] → (∀ y ∈ before, y.receiving = false) →
          x.receiving = true →
          (t.port p).buffer =
            if x.sending = false ∧ (error = true ∨ (s.port p.other).up = false) then before
            else before ++ [{ x with receiving := false, rest := rest.take 1510, badEnd := error }])

/-- An ORDER frame as the part builds it (R15), received by a station it is not addressed to, is delivered as the observed
order it carries: no field of its header or payload is dropped or read in another place (section 1.7, R10 to R12). The frame
and its four check bytes are 64 bytes, the length counted as in notes/assumptions/9.md; the check bytes are any four, as the
model computes none (21.md). And what a received frame of any class delivers, tagged or not, by its bytes: READING, EPOCH MARK,
ORDER, ORDER REPLY and SERVICE REQUEST as section 1.7 lays them out, and nothing for a payload that is malformed, a class that is
not delivered, another version, a payload length beyond the frame's end, or a protocol type that is not the station's, a second
tag among them (R9 to R11). The arguments of a request that takes any are a free value (2.md). -/
def Obligations.OrderFrameReadsBackAsObserved : Prop :=
  (∀ (p : Port) (src : Addr) (toPart : Bool) (tag : List Byte) (version cls unit kind : Byte) (seq epoch len : Num16)
      (payload tail : List Byte) (d : Option Delivery), IsTag tag → 4 ≤ tail.length →
    d = deliveryOf p src toPart (wireBytes tag version cls unit kind seq epoch len payload tail) →
    (version = 1 → len.toNat = payload.length → Delivers p src toPart cls unit kind seq epoch payload d) ∧
    ((version ≠ 1 ∨ payload.length + (tail.length - 4) < len.toNat) → d = none)) ∧
  (∀ (p : Port) (src : Addr) (toPart : Bool) (tag rest : List Byte) (a b : Byte), IsTag tag → (a, b) ≠ (0x89, 0xA2) →
    (tag = [] → (a, b) ≠ (0x81, 0x00)) → deliveryOf p src toPart (tag ++ a :: b :: rest) = none) ∧
  ∀ (f : OutFrame) (number : Byte) (kind : OrderKind) (value : Nat) (check : List Byte) (p : Port) (u : UnitNo),
    f.payload = .order number kind value → f.unit = u.val → f.kind ≠ .noUnit → value < 2 ^ 32 → check.length = 4 →
    (f.bytes ++ check).length = 64 ∧
    deliveryOf p f.src false ((f.bytes ++ check).drop 12) =
      some (.observed { src := f.src, unit := u, kind := f.kind, seq := f.seq, epoch := f.epoch, number := number,
                        order := kind, value := BitVec.ofNat 32 value })

/-- TRANSMIT_END of a frame that the part inserted, and the Egress Scheduler's choice at the end of any frame (R14, R15, R17,
R70, R71, R81). The end of an order's copy makes the order SENT with its reply deadline. The end of a REPORT frame changes no
order, and leaves the port to the oldest frame that waits, or free when there is nothing for it. At the end of any frame the
oldest eligible URGENT order goes first, before a waiting frame and every other item, and moves no phase pointer; with none, and
no frame waiting, the first position of the Phase Table from the port's pointer whose class has an item is served, with that
class's oldest eligible entry, and the pointer becomes the position after it. The frame takes the next sequence of its class and
E, or repeats those of the first copy, and no other counter and not the other port's pointer moves, while the other port takes
nothing at once. A waiting frame still being received starts at its turn: notes/assumptions/29.md. -/
def Obligations.CopyEndMakesTheOrderSent : Prop :=
  ∀ (s : State) (p : Port), Ready s → (s.port p).up = true →
    (∀ (i : SlotNo) (f : OutFrame) (o : Order), (s.port p).tx = .order i f → s.slot i = some o → o.inTx.has p = true →
      o.state = .queued → i ∉ s.orders.waiting →
      ∃ (t : State) (o' : Order), exec (.transmitEnd p) s = .next t ∧ SameOutsidePorts s t ∧ t.slot i = some o' ∧
        o'.content = o.content ∧ o'.state = .sent ∧ o'.deadline = some (s.later s.settings.replyTime) ∧
        (∀ j : SlotNo, (t.slot j).map Order.content = (s.slot j).map Order.content) ∧
        t.frame.delivered = s.frame.delivered) ∧
    (∀ f : OutFrame, (s.port p).tx = .report f →
      ∃ t : State, exec (.transmitEnd p) s = .next t ∧ SameOutsidePorts s t ∧ t.frame.delivered = s.frame.delivered ∧
        (∀ j : SlotNo, (t.slot j).map Order.content = (s.slot j).map Order.content) ∧
        ((s.port p.other).buffer.any Place.waiting = true → NoUrgent s p →
          OldestSent (s.port p.other).buffer t p ∧ t.phase p = s.phase p ∧
          (PortQuiet s p.other → t.egress = s.egress ∧ sequences t = sequences s)) ∧
        ((s.port p.other).buffer.any Place.waiting = false → (∀ (c : QClass) (x : Item), ¬ ClassServes s p c x) →
          PortStill s p.other → (t.port p).tx = .free ∧ t.egress = s.egress ∧ sequences t = sequences s)) ∧
    (∀ (j : SlotNo) (o : Order), (s.port p).tx ≠ .free → ClassServes s p .urgent (.order j) → s.slot j = some o →
      ((s.port p.other).buffer.any Place.waiting = true ∨ PortQuiet s p.other) →
      ∃ (t : State) (f : OutFrame), exec (.transmitEnd p) s = .next t ∧ SameOutsidePorts s t ∧
        (t.port p).tx = .order j f ∧ f.dst = (s.unit o.target).linkAddr ∧ f.src = s.frame.station ∧ f.unit = o.target.val ∧
        f.payload = .order o.number o.kind (o.value.getD 0) ∧ t.phase p = s.phase p ∧
        (PortStill s p.other → t.phase p.other = s.phase p.other ∧ OrderLeaves s t p j o)) ∧
    (∀ (k : Fin 16) (x : Item), (s.port p).tx ≠ .free → (s.port p.other).buffer.any Place.waiting = false → NoUrgent s p →
      PhaseServes s p k x → PortQuiet s p.other →
      ∃ t : State, exec (.transmitEnd p) s = .next t ∧ SameOutsidePorts s t ∧ t.phase p = k + 1 ∧
        (match x with
          | .order i => ∃ f : OutFrame, (t.port p).tx = .order i f
          | .report _ => ∃ f : OutFrame, (t.port p).tx = .report f) ∧
        (PortStill s p.other → t.phase p.other = s.phase p.other ∧ ItemLeaves s t p x))

/-- The end of a forwarded frame gives up its place, and the transmitter's opportunity is restricted while another frame waits:
the oldest one is sent next, from its place, when no URGENT item is eligible, and neither the phase pointers nor the sequence
counters move (R3, R14, R81). What an open opportunity or an URGENT item does here is in CopyEndMakesTheOrderSent. An end that
comes while the frame is still being received is the cut at 1,522 bytes, and its reception goes on and delivers nothing (R8,
notes/assumptions/9.md); a waiting frame still being received starts at its turn (29.md). -/
def Obligations.ForwardedEndSendsTheNextFrame : Prop :=
  ∀ (s : State) (p : Port), Ready s → (s.port p).up = true → (s.port p).tx = .forwarding →
    ∃ t : State, exec (.transmitEnd p) s = .next t ∧ SameOutsidePorts s t ∧
      (∀ left : List Place, left = ((s.port p.other).buffer.filter fun x => !x.sending) →
        (t.port p.other).buffer.length = left.length ∧
        ((left.any Place.waiting = false ∨ ∃ x : Item, ClassServes s p .urgent x) → (t.port p.other).buffer = left) ∧
        (left.any Place.waiting = true → NoUrgent s p →
          OldestSent left t p ∧ t.phase p = s.phase p ∧
          (PortQuiet s p.other → t.egress = s.egress ∧ sequences t = sequences s))) ∧
      (t.port p.other).rx = (if (s.port p.other).buffer.any (fun x => x.sending && x.receiving) then .overlong
        else (s.port p.other).rx) ∧
      t.frame.delivered = s.frame.delivered ∧
      (∀ j : SlotNo, (t.slot j).map Order.content = (s.slot j).map Order.content) ∧
      ((s.port p.other).buffer.any Place.waiting = false → (∀ (c : QClass) (x : Item), ¬ ClassServes s p c x) →
        PortStill s p.other → (t.port p).tx = .free ∧ t.egress = s.egress ∧ sequences t = sequences s)

/-! ## The Epoch Tracker -/

/-- A governing mark, the primary's in PRIMARY or the secondary's in SECONDARY (R20, R21): a copy is ignored; any other moves E,
adopts the period, sets that master's record and the loss deadline and starts a pass or counts an overrun (R30), and a number
other than E + 1 first records EPOCH_JUMP. The other master's record is kept. -/
def Obligations.GoverningMarkMovesTheEpoch : Prop :=
  ∀ (s : State) (m : MarkMsg) (g : Master), Ready s → s.mode ≠ .halted → MarkOf s g m.src →
    (g = .primary ∧ s.tracker.state = .primary ∨ g = .secondary ∧ s.tracker.state = .secondary) →
    (m.number = s.tracker.epoch → exec (.epochMark m) s = .next (takeDelivery s (.mark m))) ∧
    (m.number ≠ s.tracker.epoch →
      ∃ t : State, exec (.epochMark m) s = .next t ∧ t.tracker.epoch = m.number ∧ t.tracker.state = s.tracker.state ∧
        t.tracker.period = max 10 (min 1000 m.period.toNat) ∧
        t.tracker.primaryRec = (if g = .primary then some ⟨m.number, s.now⟩ else s.tracker.primaryRec) ∧
        t.tracker.secondaryRec = (if g = .secondary then some ⟨m.number, s.now⟩ else s.tracker.secondaryRec) ∧
        t.tracker.lossDeadline = some (after s.now (s.settings.lossCount * t.tracker.period)) ∧
        t.tracker.primaryReturn = s.tracker.primaryReturn ∧ t.tracker.secondaryReturn = s.tracker.secondaryReturn ∧
        t.tracker.passInProgress = true ∧ t.now = s.now ∧
        t.service = s.service ∧ t.dispatcher = s.dispatcher ∧ t.shed = s.shed ∧ t.seqr = s.seqr ∧
        (s.tracker.passInProgress = false →
          ∃ sn : Snapshot, t.balance = { s.balance with working := some sn, tripPending := false } ∧
            sn.epoch = m.number ∧ sn.passTime = s.now ∧ sn.units = t.units ∧ sn.commit = s.dispatcher.commit ∧
            sn.settings = s.settings ∧ sn.trip = s.balance.tripPending ∧ sn.dead = s.seqr.asserted ∧
            t.units = (evaluateFreshness s).units ∧
            t.tracker.overruns = s.tracker.overruns) ∧
        (s.tracker.passInProgress = true →
          t.balance = s.balance ∧ t.units = s.units ∧ t.tracker.overruns = min 255 (s.tracker.overruns + 1) ∧
            t.isLatched .passOverrun = true) ∧
        (m.number ≠ s.tracker.epoch + 1 → logOpen s →
          t.events.log.get s.events.writeIndex =
            some (recordNow s .epochJump none (some (m.number.toNat : Int)) (some s.tracker.epoch.toNat))))

/-- A primary mark in UNSET ends UNSET and starts a pass, or counts an overrun (R22, R30). A secondary mark in UNSET or PRIMARY,
which DUAL alone has, only sets the secondary record, and a copy leaves it (R22, R26). A mark from a source that matches no
master, or from the secondary in SINGLE, and any mark in HALTED, changes nothing but the delivery taken (R20). -/
def Obligations.PrimaryMarkEndsUnset : Prop :=
  (∀ (s : State) (m : MarkMsg), Ready s → s.mode ≠ .halted → MarkOf s .secondary m.src →
    (s.tracker.state = .unset ∨ s.tracker.state = .primary) →
    (∀ r : MarkRec, s.tracker.secondaryRec = some r → m.number = r.number →
      exec (.epochMark m) s = .next (takeDelivery s (.mark m))) ∧
    ((∀ r : MarkRec, s.tracker.secondaryRec = some r → m.number ≠ r.number) →
      exec (.epochMark m) s = .next ((takeDelivery s (.mark m)).setTracker {
        s.tracker with secondaryRec := some ⟨m.number, s.now⟩ }))) ∧
  (∀ (s : State) (m : MarkMsg), Ready s → (s.mode = .halted ∨ ∀ g : Master, ¬ MarkOf s g m.src) →
    exec (.epochMark m) s = .next (takeDelivery s (.mark m))) ∧
  ∀ (s : State) (m : MarkMsg), Ready s → s.mode ≠ .halted → s.tracker.state = .unset →
    s.access.primaryTimeMaster = some m.src →
    ∃ t : State, exec (.epochMark m) s = .next t ∧
      t.tracker = { s.tracker with
        state := .primary
        epoch := m.number
        period := max 10 (min 1000 m.period.toNat)
        primaryRec := some ⟨m.number, s.now⟩
        unsetDeadline := none
        lossDeadline := some (after s.now (s.settings.lossCount * max 10 (min 1000 m.period.toNat)))
        passInProgress := true
        overruns := if s.tracker.passInProgress = true then min 255 (s.tracker.overruns + 1) else s.tracker.overruns } ∧
      (s.tracker.passInProgress = false →
        ∃ sn : Snapshot, t.balance = { s.balance with working := some sn, tripPending := false } ∧ sn.epoch = m.number ∧
          sn.passTime = s.now ∧ sn.units = t.units ∧ t.units = (evaluateFreshness s).units ∧ sn.trip = s.balance.tripPending) ∧
      (s.tracker.passInProgress = true → t.balance = s.balance ∧ t.units = s.units ∧ t.isLatched .passOverrun = true) ∧
      t.service = s.service ∧ t.dispatcher = s.dispatcher ∧ t.shed = s.shed ∧ t.seqr = s.seqr ∧
      (logOpen s → t.events.log.get s.events.writeIndex =
        some (recordNow t .epochSourceChanged none (some 0) (some 1)))

/-- A returning master's mark, the primary's in SECONDARY and FREE_RUN or the secondary's in FREE_RUN under DUAL (R27): a copy is
ignored; any other counts toward that master's return, from 1 when its record is absent, and at the count setting the master
takes over, with EPOCH_SOURCE_CHANGED recorded (R31) and, when the mark is not E, a pass started or an overrun counted (R30).
"Within the loss time" takes in the loss time itself: notes/assumptions/26.md. -/
def Obligations.ReturningPrimaryCountsAndTakesOver : Prop :=
  ∀ (s : State) (m : MarkMsg) (g : Master), Ready s → s.mode ≠ .halted → MarkOf s g m.src →
    (g = .primary ∧ (s.tracker.state = .secondary ∨ s.tracker.state = .freeRun) ∨
      g = .secondary ∧ s.tracker.state = .freeRun) →
    (∀ r : MarkRec, s.tracker.recOf g = some r → m.number = r.number →
      exec (.epochMark m) s = .next (takeDelivery s (.mark m))) ∧
    ∀ n : Nat, (∀ r : MarkRec, s.tracker.recOf g = some r → m.number ≠ r.number ∧
        n = if m.number = r.number + 1 ∧ elapsed s.now r.arrival ≤ s.settings.lossCount * s.tracker.period then
          min 8 (s.tracker.returnOf g + 1) else 1) →
      (s.tracker.recOf g = none → n = 1) →
      (n < s.settings.returnCount →
        exec (.epochMark m) s = .next ((takeDelivery s (.mark m)).setTracker
          ((s.tracker.setRec g ⟨m.number, s.now⟩).setReturn g n))) ∧
      (s.settings.returnCount ≤ n →
        ∃ t : State, exec (.epochMark m) s = .next t ∧ t.tracker.state = g.state ∧ t.tracker.epoch = m.number ∧
          t.tracker.period = max 10 (min 1000 m.period.toNat) ∧ t.tracker.recOf g = some ⟨m.number, s.now⟩ ∧
          (∀ h : Master, h ≠ g → t.tracker.recOf h = s.tracker.recOf h) ∧
          t.tracker.lossDeadline = some (after s.now (s.settings.lossCount * t.tracker.period)) ∧
          t.tracker.freeDeadline = none ∧ t.tracker.secondaryReturn = 0 ∧
          t.tracker.primaryReturn = (if g = .primary then 0 else s.tracker.primaryReturn) ∧
          (logOpen s → t.events.log.get s.events.writeIndex =
            some (recordNow s .epochSourceChanged none (some (s.tracker.state.code : Int)) (some g.state.code))) ∧
          (g = .secondary → t.isLatched .epochPrimaryLost = true) ∧
          (m.number = s.tracker.epoch → t.balance = s.balance ∧ t.units = s.units ∧
            t.tracker.passInProgress = s.tracker.passInProgress ∧ t.tracker.overruns = s.tracker.overruns) ∧
          (m.number ≠ s.tracker.epoch → s.tracker.passInProgress = false →
            t.tracker.passInProgress = true ∧ t.tracker.overruns = s.tracker.overruns ∧
            ∃ sn : Snapshot, t.balance = { s.balance with working := some sn, tripPending := false } ∧
              sn.epoch = m.number ∧ sn.passTime = s.now ∧ sn.units = t.units ∧ t.units = (evaluateFreshness s).units ∧
              sn.trip = s.balance.tripPending) ∧
          (m.number ≠ s.tracker.epoch → s.tracker.passInProgress = true →
            t.balance = s.balance ∧ t.units = s.units ∧ t.tracker.overruns = min 255 (s.tracker.overruns + 1) ∧
            t.isLatched .passOverrun = true))

/-- The unset deadline runs out (R23): to SECONDARY under DUAL when a secondary mark arrived within the last 3,000 ms, else to
FREE_RUN, with EPOCH_SOURCE_CHANGED recorded and the condition of the state entered latched (R31). "Within the last 3,000 ms"
takes in 3,000 itself: notes/assumptions/26.md. -/
def Obligations.UnsetDeadlineChoosesTheSource : Prop :=
  ∀ (s : State) (d : Time), Ready s → s.tracker.state = .unset → s.mode ≠ .halted → s.tracker.unsetDeadline = some d →
    reached s.now d = true →
    ∃ t : State, exec .unsetDeadlineExpiry s = .next t ∧ t.balance = s.balance ∧ t.units = s.units ∧
      (∀ r : MarkRec, s.settings.epochMode = .dual → s.tracker.secondaryRec = some r → elapsed s.now r.arrival ≤ 3000 →
        t.tracker = { s.tracker with
          state := .secondary
          epoch := r.number
          unsetDeadline := none
          lossDeadline := some (after r.arrival (s.settings.lossCount * s.tracker.period)) } ∧
        t.isLatched .epochPrimaryLost = true) ∧
      ((s.settings.epochMode = .single ∨ ∀ r : MarkRec, s.tracker.secondaryRec = some r → 3000 < elapsed s.now r.arrival) →
        t.tracker = { s.tracker with
          state := .freeRun
          unsetDeadline := none
          lossDeadline := none
          freeDeadline := some (after s.now s.tracker.period) } ∧
        t.isLatched .epochFreeRun = true) ∧
      (logOpen s → t.events.log.get s.events.writeIndex =
        some (recordNow t .epochSourceChanged none (some 0) (some t.tracker.state.code)))

/-- The loss deadline runs out in PRIMARY (R24): to SECONDARY under DUAL when a secondary mark arrived within the last loss
time, else to FREE_RUN; E, the primary record and the rest of the tracker stay. "Within the loss time" takes in the loss time
itself: notes/assumptions/26.md. -/
def Obligations.PrimaryLossChoosesTheSource : Prop :=
  ∀ (s : State) (d : Time), Ready s → s.tracker.state = .primary → s.tracker.lossDeadline = some d →
    reached s.now d = true →
    ∃ t : State, exec .primaryLoss s = .next t ∧ t.balance = s.balance ∧ t.units = s.units ∧
      (∀ r : MarkRec, s.settings.epochMode = .dual → s.tracker.secondaryRec = some r →
        elapsed s.now r.arrival ≤ s.settings.lossCount * s.tracker.period →
        t.tracker = { s.tracker with
          state := .secondary
          lossDeadline := some (after r.arrival (s.settings.lossCount * s.tracker.period))
          primaryReturn := 0 } ∧
        t.isLatched .epochPrimaryLost = true) ∧
      ((s.settings.epochMode = .single ∨ ∀ r : MarkRec, s.tracker.secondaryRec = some r →
          s.settings.lossCount * s.tracker.period < elapsed s.now r.arrival) →
        t.tracker = { s.tracker with
          state := .freeRun
          lossDeadline := none
          unsetDeadline := none
          freeDeadline := some (after s.now s.tracker.period)
          primaryReturn := 0 } ∧
        t.isLatched .epochFreeRun = true) ∧
      (logOpen s → t.events.log.get s.events.writeIndex =
        some (recordNow t .epochSourceChanged none (some 1) (some t.tracker.state.code)))

/-- The loss deadline runs out in SECONDARY (R25). -/
def Obligations.SecondaryLossEntersFreeRun : Prop :=
  ∀ (s : State) (d : Time), Ready s → s.tracker.state = .secondary → s.tracker.lossDeadline = some d →
    reached s.now d = true →
    ∃ t : State, exec .secondaryLoss s = .next t ∧ t.balance = s.balance ∧ t.units = s.units ∧
      t.tracker = { s.tracker with
        state := .freeRun
        lossDeadline := none
        unsetDeadline := none
        freeDeadline := some (after s.now s.tracker.period)
        secondaryReturn := 0 } ∧
      t.isLatched .epochFreeRun = true ∧
      (logOpen s → t.events.log.get s.events.writeIndex =
        some (recordNow t .epochSourceChanged none (some 2) (some 3)))

/-- The free-run deadline runs out (R28): E advances, wrapping, the next deadline is one period after the one run out, and a
pass is started or an overrun counted (R30). -/
def Obligations.FreeRunAdvancesTheEpoch : Prop :=
  ∀ (s : State) (d : Time), Ready s → s.tracker.state = .freeRun → s.tracker.freeDeadline = some d →
    reached s.now d = true →
    ∃ t : State, exec .freeRunExpiry s = .next t ∧
      (s.tracker.passInProgress = false →
        t.tracker = { s.tracker with
          epoch := s.tracker.epoch + 1
          freeDeadline := some (after d s.tracker.period)
          passInProgress := true } ∧
        ∃ sn : Snapshot, t.balance = { s.balance with working := some sn, tripPending := false } ∧
          sn.epoch = s.tracker.epoch + 1 ∧ sn.passTime = s.now ∧ sn.units = t.units ∧
          t.units = (evaluateFreshness s).units ∧ sn.trip = s.balance.tripPending) ∧
      (s.tracker.passInProgress = true →
        t.tracker = { s.tracker with
          epoch := s.tracker.epoch + 1
          freeDeadline := some (after d s.tracker.period)
          overruns := min 255 (s.tracker.overruns + 1) } ∧
        t.balance = s.balance ∧ t.units = s.units ∧ t.isLatched .passOverrun = true) ∧
      t.service = s.service ∧ t.dispatcher = s.dispatcher ∧ t.shed = s.shed ∧ t.seqr = s.seqr

/-- The epoch window (R29). -/
def Obligations.EpochWindowHoldsTwoNumbers : Prop :=
  ∀ (t : Tracker) (e : Num16),
    ((t.state = .primary ∨ t.state = .secondary) → (inWindow t e = true ↔ e = t.epoch ∨ e = t.epoch - 1)) ∧
    ((t.state = .freeRun ∨ t.state = .unset) → inWindow t e = true)

/-! ## The balance pass -/

/-- The freshness evaluation of a pass start only ages (R51): by the age of the last accepted reading a FRESH unit stays
FRESH, becomes HELD or becomes STALE, a HELD unit stays HELD or becomes STALE, and nothing else of any record changes. The first
unit that becomes STALE is recorded first, as UNIT_STALE with its age and its kind, and a reference meter that becomes STALE
latches REFERENCE_STALE (R54). -/
def Obligations.FreshnessEvaluationAges : Prop :=
  (∀ s : State, RecordWork { s with units := (evaluateFreshness s).units } (evaluateFreshness s) ∧
    (∀ turns : UnitNo → Bool, (∀ u : UnitNo, turns u = true ↔ (s.unit u).live.freshness ≠ .stale ∧
        ((evaluateFreshness s).unit u).live.freshness = .stale) →
      ((∀ u : UnitNo, turns u = false) → (evaluateFreshness s).events = s.events) ∧
      (∀ (u : UnitNo) (t : Time), turns u = true → (∀ v : UnitNo, v < u → turns v = false) →
        (s.unit u).live.lastArrival = some t →
        RecordsFirst s (evaluateFreshness s) .unitStale (some u) (some (elapsed s.now t : Int))
          (some (kindCode (s.unit u).kind))) ∧
      (∀ u : UnitNo, turns u = true → s.settings.reference = some u → (s.unit u).kind = .meter →
        (evaluateFreshness s).isLatched .referenceStale = true))) ∧
  ∀ (s : State) (u : UnitNo),
    (∀ t : Time, (s.unit u).kind ≠ .noUnit → (s.unit u).live.lastArrival = some t →
      ∃ f : Freshness, (evaluateFreshness s).unit u = { s.unit u with live := { (s.unit u).live with freshness := f } } ∧
        ((s.unit u).live.freshness = .absent → f = .absent) ∧
        ((s.unit u).live.freshness = .stale → f = .stale) ∧
        ((s.unit u).live.freshness = .fresh → elapsed s.now t ≤ 2 * (s.unit u).interval → f = .fresh) ∧
        ((s.unit u).live.freshness = .fresh → 2 * (s.unit u).interval < elapsed s.now t →
          elapsed s.now t ≤ (s.unit u).stale * (s.unit u).interval → f = .held) ∧
        ((s.unit u).live.freshness = .held → elapsed s.now t ≤ (s.unit u).stale * (s.unit u).interval → f = .held) ∧
        ((s.unit u).live.freshness = .fresh → 2 * (s.unit u).interval < elapsed s.now t →
          (s.unit u).stale * (s.unit u).interval < elapsed s.now t → f = .stale) ∧
        ((s.unit u).live.freshness = .held → (s.unit u).stale * (s.unit u).interval < elapsed s.now t → f = .stale)) ∧
    ((s.unit u).kind = .noUnit ∨ (s.unit u).live.lastArrival = none → (evaluateFreshness s).unit u = s.unit u)

/-- A pass completes (R101): its record is published and its counts are carried, the pass in progress ends, and the completion
goes to the four jobs, whose decisions leave the published record and the carried counts as they are. What three of the jobs
decide then: the Dispatcher judges availability and in ACTIVE makes the start and then the stop decision (R126, R135; the
order is notes/assumptions/36.md, the stop confirm read is the one that stands then, 47.md), the start decision asking the
candidates in their order and passing over those answered NO_CREDIT or HELD until one answers otherwise or none is left; the
Shed Controller serves its pending list and in ACTIVE then makes the restore decision (R154; the order is 38.md), and the
Sequencer serves its to-issue list (R166), stated of a CLOSE_UNIT step that waits to ask for its CLOSE. The Allocator's decision
is in CutsTotalTheDemand. -/
def Obligations.PassCompletionPublishesAndHandsOn : Prop :=
  (∀ (s : State) (sn : Snapshot), Ready s → s.balance.working = some sn →
    (∃ jobs : List Job, jobs.Perm [.allocator, .dispatcher, .shed, .sequencer] ∧
      Hands .passCompletion s { s with
        balance := passResult s.balance sn
        tracker := { s.tracker with passInProgress := false }
        agenda := jobs.map Task.completion }) ∧
    ∃ t : State, exec .passCompletion s = .next t ∧ t.balance = passResult s.balance sn ∧
      t.tracker.passInProgress = false ∧ t.tracker.epoch = s.tracker.epoch ∧ t.now = s.now) ∧
  (∀ s : State, handleTask s (.completion .dispatcher) =
    if s.mode = .active then stopDecision (startDecision (allUnits.foldl judgeAvailability s))
    else allUnits.foldl judgeAvailability s) ∧
  (∀ s : State, handleTask s (.completion .shed) =
    if s.mode = .active then restoreDecision (servePending s) else servePending s) ∧
  (∀ s t : State, t = startDecision s →
    ((s.balance.published.startWanted = false ∨ 2 ≤ underWay s) →
      t = s.setDispatcher { s.dispatcher with startRetry := false }) ∧
    (s.balance.published.startWanted = true → underWay s < 2 → (∀ u : UnitNo, ¬ MayStart s u) →
      t.isLatched .reserveShort = true ∧ RecordWork (s.setDispatcher { s.dispatcher with startRetry := false }) t ∧
        t.dispatcher = { s.dispatcher with startRetry := false }) ∧
    (∀ u : UnitNo, s.balance.published.startWanted = true → underWay s < 2 → StartReaches s u →
      (∀ i : SlotNo, judgeRequest s u .start .dispatch = .created i →
        OrderMade s t i u .start .dispatch none ∧ (∀ w : UnitNo, w ≠ u → t.unit w = s.unit w) ∧
        t.unit u = { s.unit u with gensetJob := {
          (s.unit u).gensetJob with openOrder := some ⟨.start, i, .dispatch⟩, dispatch := .startPending } } ∧
        t.dispatcher.startRetry = false ∧
        (u ∉ s.dispatcher.commit → t.dispatcher.commit = s.dispatcher.commit ++ [u])) ∧
      (judgeRequest s u .start .dispatch = .refused .noSlot →
        t = s.setDispatcher { s.dispatcher with startRetry := true }) ∧
      ((judgeRequest s u .start .dispatch = .refused .wrongMode ∨ judgeRequest s u .start .dispatch = .refused .notPermitted) →
        t = s.setDispatcher { s.dispatcher with startRetry := false })) ∧
    ∀ credit : Bool, s.balance.published.startWanted = true → underWay s < 2 → (∃ u : UnitNo, MayStart s u) →
      (∀ v : UnitNo, MayStart s v → PassedOver s v) →
      (credit = true ↔ ∃ v : UnitNo, MayStart s v ∧ judgeRequest s v .start .dispatch = .refused .noCredit) →
      t = s.setDispatcher { s.dispatcher with startRetry := credit }) ∧
  (∀ s t : State, t = stopDecision s →
    ((∀ c : UnitNo, s.balance.published.stopCandidate = some c → ¬ StopGates s c) → t = s) ∧
    ∀ c : UnitNo, s.balance.published.stopCandidate = some c → StopGates s c →
      (∀ i : SlotNo, judgeRequest s c .stop .dispatch = .created i →
        OrderMade s t i c .stop .dispatch none ∧ (∀ w : UnitNo, w ≠ c → t.unit w = s.unit w) ∧
        t.unit c = { s.unit c with gensetJob := {
          (s.unit c).gensetJob with openOrder := some ⟨.stop, i, .dispatch⟩, dispatch := .stopPending } } ∧
        (c ∈ s.dispatcher.commit → t.dispatcher = s.dispatcher)) ∧
      (∀ why : Refuse, judgeRequest s c .stop .dispatch = .refused why → t = s)) ∧
  (∀ s t : State, t = restoreDecision s →
    ((∀ e : StackEntry, ¬ RestoreGates s e) → t = s) ∧
    ∀ e : StackEntry, RestoreGates s e →
      (∀ i : SlotNo, judgeRequest s e.feeder .close .shed = .created i →
        OrderMade s t i e.feeder .close .shed none ∧ (∀ w : UnitNo, w ≠ e.feeder → t.unit w = s.unit w) ∧
        t.unit e.feeder = { s.unit e.feeder with feederJob := {
          (s.unit e.feeder).feederJob with
          shed := .restoring
          openOrder := some ⟨.close, i, .shed⟩
          deadline := none
          settling := none } } ∧
        t.shed.stack = s.shed.stack ∧ t.shed.lastRestore = some s.now) ∧
      (∀ why : Refuse, judgeRequest s e.feeder .close .shed = .refused why → t = s)) ∧
  ∀ (s t : State) (u : UnitNo), t = handleTask s (.completion .sequencer) → s.progress.planState = .running →
    (s.progress.stepState = .issued ∨ s.progress.stepState = .waiting) → s.progress.cancelPending = false →
    (s.seqr.plan.get s.progress.current).action = .closeUnit → (s.seqr.plan.get s.progress.current).argument = u.val →
    s.progress.closeSeen = none → s.progress.orders = [] → s.progress.toIssue = [(u, .close)] →
    ((s.unit u).live.values.breaker = .opn ∨ (s.unit u).live.freshness = .absent ∨ (s.unit u).live.freshness = .stale) →
    (∀ i : SlotNo, judgeRequest s u .close .plan = .created i →
      OrderMade s t i u .close .plan (some s.progress.current) ∧ t.units = s.units ∧
      t.progress = { s.progress with stepState := .issued, toIssue := [], orders := [⟨i, u, .close⟩] }) ∧
    ((judgeRequest s u .close .plan = .refused .held ∨ judgeRequest s u .close .plan = .refused .notPermitted) →
      t.progress = { s.progress with stepState := .failed, failCause := some 4, deadline := none, toIssue := [] }) ∧
    ((judgeRequest s u .close .plan = .refused .noCredit ∨ judgeRequest s u .close .plan = .refused .noSlot) →
      t.progress = { s.progress with stepState := .issued })

/-- What the published record says (R87 to R101): every quantity by its formula from the snapshot. The sums of power; the
spinning reserve and the required reserve; RM as SR less RR, and RM_prospect with the limits of the starts under way; the
curtailment demand; the condition, the first that holds; start wanted from the start condition, its count and the trip-pending
flag; the stop candidate, the margin after it and its count; the restore need, its count and whether restoring is allowed. -/
def Obligations.PublishedRecordIsConsistent : Prop :=
  ∀ (b : Balance) (sn : Snapshot), ∀ p : BalanceRec, p = (passResult b sn).published →
    (p.epoch = sn.epoch ∧ p.passTime = sn.passTime ∧ p.rocof = sn.rocof ∧ p.meterUsed = sn.meter) ∧
    (p.pg = clampPass (sumUnits sn.units fun r =>
        if r.kind = .genset ∧ r.live.values.breaker = .closed then r.live.values.output else 0) ∧
      p.ppv = clampPass (sumUnits sn.units fun r => if r.kind = .pv then r.live.values.output else 0) ∧
      p.ps = clampPass (sumUnits sn.units fun r => if r.kind = .storage then r.live.values.output else 0) ∧
      p.pl = clampPass (sumUnits sn.units fun r =>
        if r.kind = .feeder ∧ r.live.values.breaker = .closed then (r.live.values.load : Int) else 0) ∧
      p.gen = clampPass (p.pg + p.ppv + p.ps)) ∧
    (p.sr = clampPass (
        (sumUnits sn.units fun r =>
          if r.kind = .genset ∧ r.gensetJob.dispatch = .online then onlineHeadroom r else 0) +
        (sumUnits sn.units fun r =>
          if r.kind = .storage ∧ (r.live.freshness = .fresh ∨ r.live.freshness = .held) ∧ r.live.values.breaker = .closed
          then max 0 ((r.live.values.discharge : Int) - max 0 r.live.values.output) else 0) +
        ((sn.settings.pvCredit * (sumUnits sn.units fun r =>
          if r.kind = .pv ∧ (r.live.freshness = .fresh ∨ r.live.freshness = .held) ∧ r.pvJob.commanded ≠ none
          then max 0 ((r.live.values.available : Int) - r.live.values.output) else 0).toNat / 100 : Nat) : Int))) ∧
    (∃ top : Int, LargestOnline sn.units none top ∧
      p.rr = clampPass (max (max (sn.settings.rrMin : Int) top) ((p.ppv.toNat * sn.settings.pvRisk + 99) / 100 : Nat))) ∧
    (p.rm = clampPass (p.sr - p.rr) ∧
      p.rmProspect = clampPass (p.rm + sumUnits sn.units fun r =>
        if r.kind = .genset ∧ (r.gensetJob.dispatch = .startPending ∨ r.gensetJob.dispatch = .starting)
        then ((r.rating * r.genset.loadLimit / 100 : Nat) : Int) else 0)) ∧
    (∀ x ∈ [p.pg, p.ppv, p.ps, p.pl, p.gen, p.sr, p.rr, p.rm, p.rmProspect], -4194240 ≤ x ∧ x ≤ 4194240) ∧
    (p.fValid = sn.meter.isSome ∧ (∀ m : UnitNo, sn.meter = some m → p.f = (sn.units.get m).live.values.frequency) ∧
      (sn.meter = none → p.f = b.published.f) ∧ p.deltaF = (p.f : Int) - sn.settings.fNom) ∧
    p.cd = min 4194240 ((sumUnits sn.units fun r =>
        if r.kind = .genset ∧ r.gensetJob.dispatch = .online
        then max 0 (((r.rating * r.genset.minLoad + 99) / 100 : Nat) - r.live.values.output) else 0).toNat +
      if p.fValid = true then (p.f - sn.settings.fHigh) * sn.settings.kCurt / 1000 else 0) ∧
    ((sn.dead = true → p.condition = .dead) ∧
      (sn.dead = false → p.fValid = true → p.f < sn.stage1 → p.condition = .short) ∧
      (sn.dead = false → (∃ x : Int, p.rocof = some x ∧ x ≤ -(sn.settings.rocofLimit : Int)) → p.condition = .short) ∧
      (sn.dead = false → (p.fValid = true → sn.stage1 ≤ p.f) →
        (∀ x : Int, p.rocof = some x → -(sn.settings.rocofLimit : Int) < x) →
        p.condition = if p.rm < 0 then .lean else if 0 < p.cd then .surplus else .normal)) ∧
    (∀ holds : Bool, (holds = true ↔ p.rmProspect < 0 ∨
        (sn.settings.startForRestore = true ∧ ∃ n : Nat, p.restoreNeed = some n ∧ p.rmProspect < n)) →
      p.startCount = (if holds then min 255 (b.startCount + 1) else 0) ∧
      (p.startWanted = true ↔ holds = true ∧ (sn.settings.startConfirm ≤ p.startCount ∨ sn.trip = true))) ∧
    ((p.stopCandidate = none ↔ ∀ u ∈ sn.commit, ¬ MayStop (sn.units.get u) sn.passTime) ∧
      (∀ c : UnitNo, p.stopCandidate = some c → MayStop (sn.units.get c) sn.passTime ∧
        (∃ before later : List UnitNo, sn.commit = before ++ c :: later ∧
          ∀ u ∈ later, ¬ MayStop (sn.units.get u) sn.passTime) ∧
        ∃ top : Int, LargestOnline sn.units (some c) top ∧
          p.rmAfter = some (clampPass (p.sr - onlineHeadroom (sn.units.get c) -
            max 0 (sn.units.get c).live.values.output -
            clampPass (max (max (sn.settings.rrMin : Int) top)
              ((p.ppv.toNat * sn.settings.pvRisk + 99) / 100 : Nat))))) ∧
      (p.stopCandidate = none → p.rmAfter = none)) ∧
    (∀ holds : Bool, (holds = true ↔ ∃ x : Int, p.rmAfter = some x ∧ (sn.settings.stopMargin : Int) ≤ x) →
      (p.stopCount, (passResult b sn).stopUnit) =
        if holds then (if p.stopCandidate = b.stopUnit then min 255 (b.stopCount + 1) else 1, p.stopCandidate)
        else (0, none)) ∧
    p.restoreNeed = sn.stackTop.map (fun x => (x.2 * (100 + sn.settings.restoreMargin) + 99) / 100) ∧
    (∀ holds : Bool, (holds = true ↔ p.condition = .normal ∧ p.fValid = true ∧ sn.settings.restoreFrequency ≤ p.f ∧
        ∃ n : Nat, p.restoreNeed = some n ∧ (n : Int) ≤ p.rm) →
      (p.restoreCount, (passResult b sn).restoreFeeder) =
        if holds then (if sn.stackTop.map Prod.fst = b.restoreFeeder then min 255 (b.restoreCount + 1) else 1,
          sn.stackTop.map Prod.fst)
        else (0, none)) ∧
    (p.restoreAllowed = true ↔ sn.settings.restoreHold ≤ p.restoreCount)

/-! ## Curtailment -/

/-- The Allocator's decision at a completion (R106 to R108, R110 to R118), by mode and curtailment enable: the requests it makes
and the last shortfall, with CURTAIL_SHORTFALL at its onset (R113; recorded after the requests: notes/assumptions/16.md). The
limit sweep (R116, R117) and its moments in a change of mode. Who is reachable and who eligible (R107), the headrooms and their
sum H (R110), and each eligible unit's cut: its whole headroom with CD at or above H, and else the floor of its proportional
share, with 1 kW of the remainder to the first eligible units with headroom (R111). The cuts total H in the first case and
exactly CD in the second, and no unit's cut exceeds its headroom. The caps proposed by a cut and by a release, the release test,
the bounds they keep, and what the Transactor's answer to the request leaves. A disabled window makes a unit uncurtailable
(notes/assumptions/33.md), a curtailable unit without SET_CAP permission is left unchanged by a release (34.md), and the release
test reads f_high as the Settings hold it (35.md). -/
def Obligations.CutsTotalTheDemand : Prop :=
  (∀ s : State, AllocatorDecides s (handleTask s (.completion .allocator))) ∧
  (∀ (s w : State) (pct : Nat), w = { s with alloc := { s.alloc with planLimit := some pct } } →
    limitSweep s pct = requestsMade w (fun u => applyBound w u .unchanged)) ∧
  (∀ (s : State) (left : Mode), (s.mode = .restore → limitModeChanged s left = limitSweep s 0) ∧
    (s.mode ≠ .restore → left = .restore → limitModeChanged s left = { s with alloc := { s.alloc with planLimit := none } }) ∧
    (s.mode ≠ .restore → left ≠ .restore → limitModeChanged s left = s)) ∧
  (∀ (s : State) (u : UnitNo) (p : Proposal), eligible s u = false → applyBound s u p = p) ∧
  (∀ (s : State) (cd : Nat), CutShares s cd) ∧
  (∀ (s : State) (cd : Nat),
    (∀ u : UnitNo, u ∈ eligibleUnits s → allocatedCut s cd u ≤ cutHeadroom s u) ∧
    (totalHeadroom s ≤ cd → ((eligibleUnits s).map (allocatedCut s cd)).sum = totalHeadroom s) ∧
    (cd < totalHeadroom s → ((eligibleUnits s).map (allocatedCut s cd)).sum = cd)) ∧
  (∀ (s : State) (cd : Nat) (u : UnitNo) (floor : Nat), floor = (s.unit u).effFloor s.mode →
    (eligible s u = false → cutProposal s cd u = .unchanged) ∧
    (eligible s u = true → ∀ cap : Nat,
      (totalHeadroom s ≤ cd ∧ cap = floor ∨ cd < totalHeadroom s ∧ 0 < allocatedCut s cd u ∧
        cap = min ((s.unit u).live.values.output.toNat - allocatedCut s cd u) (s.unit u).ceiling) →
      floor ≤ cap ∧ cap ≤ (s.unit u).ceiling ∧
      ((∀ c : Nat, (s.unit u).pvJob.commanded = some c → cap < c) → cutProposal s cd u = .value cap) ∧
      ((∃ c : Nat, (s.unit u).pvJob.commanded = some c ∧ c ≤ cap) → cutProposal s cd u = .unchanged)) ∧
    (eligible s u = true → cd < totalHeadroom s → allocatedCut s cd u = 0 → cutProposal s cd u = .unchanged)) ∧
  (∀ (r : UnitRec) (m : Mode),
    (r.winLow ≤ r.winHigh → r.ceiling = min r.rating r.winHigh ∧
      (m ≠ .restore → r.effFloor m = max r.pv.floor r.winLow) ∧ r.effFloor .restore = r.winLow ∧
      (r.curtailable m = true ↔ r.effFloor m ≤ r.ceiling)) ∧
    (r.winHigh < r.winLow → r.curtailable m = false ∧ r.ceiling = r.rating ∧
      (m ≠ .restore → r.effFloor m = r.pv.floor) ∧ r.effFloor .restore = 0)) ∧
  (∀ s : State, (releaseTest s = true ↔
    (s.settings.releaseMargin : Int) ≤ (sumUnits s.units fun r =>
      if r.kind = .genset ∧ r.gensetJob.dispatch = .online
      then max 0 r.live.values.output - (((r.rating * r.genset.minLoad + 99) / 100 : Nat) : Int) else 0) ∧
    s.balance.published.fValid = true ∧ s.balance.published.f < s.settings.fHigh ∧ frozen s = false)) ∧
  (∀ (s : State) (u : UnitNo) (cap t : Nat) (l : Option Nat) (top : Bool), (s.unit u).pvJob.commanded = some cap →
    t = cap + s.settings.releaseStep →
    l = (if s.mode = .restore then s.alloc.planLimit.map (fun pct => (s.unit u).rating * pct / 100) else none) →
    (top = true ↔ (s.unit u).rating ≤ t ∧ (s.unit u).ceiling = (s.unit u).rating ∧
      ∀ x : Nat, l = some x → (s.unit u).rating ≤ x) →
    (reachable s u = false → releaseProposal s u = .unchanged) ∧
    (eligible s u = true → top = true → releaseProposal s u =
      if (s.unit u).permits.clearCap then .clear else .value (s.unit u).rating) ∧
    (eligible s u = true → top = false → ∃ x : Nat, releaseProposal s u = .value x ∧
      x = max ((s.unit u).effFloor s.mode) (min (min t (s.unit u).ceiling) (l.getD (min t (s.unit u).ceiling)))) ∧
    (reachable s u = true → (s.unit u).curtailable s.mode = false → s.mode = .active →
      releaseProposal s u = if (s.unit u).permits.clearCap then .clear else .unchanged) ∧
    (reachable s u = true → (s.unit u).curtailable s.mode = false → s.mode = .restore →
      releaseProposal s u = .unchanged) ∧
    (reachable s u = true → (s.unit u).curtailable s.mode = true → (s.unit u).permits.setCap = false →
      releaseProposal s u = .unchanged)) ∧
  (∀ (s : State) (u : UnitNo), (s.unit u).pvJob.commanded = none → releaseProposal s u = .unchanged) ∧
  (∀ (s : State) (u : UnitNo) (t : Nat) (l : Option Nat), eligible s u = true →
    l = (if s.mode = .restore then s.alloc.planLimit.map (fun pct => (s.unit u).rating * pct / 100) else none) →
    t = max ((s.unit u).effFloor s.mode) (min (s.unit u).ceiling (l.getD (s.unit u).ceiling)) →
    (∀ c : Nat, applyBound s u (.value c) = .value (min c t)) ∧ applyBound s u .clear = .value t ∧
    ((∀ c : Nat, (s.unit u).pvJob.commanded = some c → t < c) → applyBound s u .unchanged = .value t) ∧
    ((∃ c : Nat, (s.unit u).pvJob.commanded = some c ∧ c ≤ t) → applyBound s u .unchanged = .unchanged)) ∧
  (∀ (s t : State) (u : UnitNo) (cap : Option Nat) (k : OrderKind), t = askCap s u cap →
    k = (if cap.isSome then .setCap else .clearCap) →
    ((s.unit u).pvJob.commanded = cap → t = s) ∧
    ((s.unit u).pvJob.commanded ≠ cap →
      (∀ why : Refuse, judgeRequest s u k .curtail = .refused why → t = s) ∧
      (∀ i : SlotNo, (judgeRequest s u k .curtail = .created i ∨ judgeRequest s u k .curtail = .coalesced i) →
        t.unit u = { s.unit u with pvJob := {
          (s.unit u).pvJob with commanded := cap, setpoint := .ordered, slot := some i } } ∧
        (∀ w : UnitNo, w ≠ u → t.unit w = s.unit w) ∧
        (t.slot i).map (fun o => (o.target, o.kind, o.value)) = some (u, k, cap))))

/-- The end of an Allocator order (R119). -/
def Obligations.AllocatorOrderEnd : Prop :=
  ∀ (s : State) (o : Order) (e : OrderEnd),
    allocatorEnd s o e = { s with units := (allocatorEnd s o e).units } ∧
    (∀ v : UnitNo, v ≠ o.target → (allocatorEnd s o e).unit v = s.unit v) ∧
    ∃ j : PvJob, (allocatorEnd s o e).unit o.target = { s.unit o.target with pvJob := j } ∧ j.slot = none ∧
      match e with
      | .accept =>
        j.commanded = (s.unit o.target).pvJob.commanded ∧ (o.kind = .clearCap → j.heldCap = none) ∧
          (o.kind ≠ .clearCap → j.heldCap = o.value) ∧ j.setpoint = .idle
      | .refuse _ =>
        j.commanded = (s.unit o.target).pvJob.heldCap ∧ j.heldCap = (s.unit o.target).pvJob.heldCap ∧ j.setpoint = .idle
      | .timedOut =>
        j.commanded = (s.unit o.target).pvJob.heldCap ∧ j.heldCap = (s.unit o.target).pvJob.heldCap ∧ j.setpoint = .idle
      | .unsent _ =>
        j.commanded = (s.unit o.target).pvJob.heldCap ∧ j.heldCap = (s.unit o.target).pvJob.heldCap ∧ j.setpoint = .idle
      | .outcomeUnknown =>
        j.commanded = (s.unit o.target).pvJob.commanded ∧ j.heldCap = (s.unit o.target).pvJob.heldCap ∧
          j.setpoint = .unsettled

/-! ## Reading Intake -/

/-- A reading that passes the mode test and the four checks is stored (R43 to R50): its unit is FRESH, with the reading's
sequence, epoch, arrival time and port, its values clamped, and its clamp count raised exactly when a value stored differs from
the one carried (R48); no other unit's live fields change, whatever the hand-offs that follow do, and no configuration changes.
The address check passes for a link address that has been written and equals the source (R45; when it counts as written:
notes/assumptions/30.md). The hand-offs (R55 to R58): what a FEEDER reading does in each shed state (R143, R145, R155), how a PV
reading settles its unit (R120), and what a METER reading does at the Shed Controller and at the dead-bus detector when its
meter is in use (R147 to R150, R161, R162). The order of the two is the schedule's (4.md), the detector comes before the step
(18.md), the stages in ascending number (39.md), and the rocof limit is the one that stands then (47.md). What a GENSET reading
does is in OpenBreakerTripsAnOnlineGenset. -/
def Obligations.AcceptedReadingIsStored : Prop :=
  ∀ (s : State) (m : ReadingMsg), Ready s → s.mode ≠ .halted → (s.unit m.unit).kind = bodyKind m.body →
    (s.unit m.unit).link = some m.src →
    (s.tracker.state = .unset ∨ s.tracker.state = .freeRun ∨ m.epoch = s.tracker.epoch ∨ m.epoch = s.tracker.epoch - 1) →
    ((s.unit m.unit).live.heard = false ∨
      (∀ t : Time, (s.unit m.unit).live.lastArrival = some t →
        (s.unit m.unit).stale * (s.unit m.unit).interval < elapsed s.now t) ∨
      (1 ≤ (m.seq - (s.unit m.unit).live.lastSeq).toNat ∧ (m.seq - (s.unit m.unit).live.lastSeq).toNat ≤ 32767)) →
    ∃ (t w v : State) (l : Live), exec (.reading m) s = .next t ∧ (t.unit m.unit).live = l ∧
      ReadingStored s w m l ∧ ReadingHanded w v (s.unit m.unit) m ∧ t = settle v ∧
      (bodyKind m.body = .meter → ¬ MeterTaken s m.unit → v = w) ∧
      (∀ a : Arrival, bodyKind m.body = .meter → MeterTaken s m.unit → ArrivalMade s m l.values.frequency l.values.voltage a →
        ArrivalTaken w v a) ∧
      (∀ v : UnitNo, v ≠ m.unit → (t.unit v).live = (s.unit v).live) ∧ SameConfig s t ∧
      l.freshness = .fresh ∧ l.lastSeq = m.seq ∧ l.lastEpoch = m.epoch ∧ l.lastArrival = some s.now ∧
      l.side = some m.port ∧ l.hold = (s.unit m.unit).live.hold ∧
      (ReadingClamped l m.body → l.clampCount = min 255 ((s.unit m.unit).live.clampCount + 1)) ∧
      (¬ ReadingClamped l m.body → l.clampCount = (s.unit m.unit).live.clampCount) ∧
      match m.body with
      | .genset output breaker engine selector =>
        l.values.output = max 0 (min 65535 output.toInt) ∧ l.values.breaker = breaker ∧ l.values.engine = engine ∧
          l.values.selector = selector ∧ (l.localFlag = true ↔ selector = .localPanel)
      | .pv output available cap breaker =>
        l.values.output = max 0 (min 65535 output.toInt) ∧
          (l.values.available : Int) = max 0 (min 65535 available.toInt) ∧ l.values.breaker = breaker ∧
          (cap = none → l.values.cap = none) ∧
          ∀ c : BitVec 32, cap = some c → ∃ n : Nat, l.values.cap = some n ∧ (n : Int) = max 0 (min 65535 c.toInt)
      | .storage output discharge charge soc breaker =>
        l.values.output = max (-32768) (min 32767 output.toInt) ∧
          (l.values.discharge : Int) = max 0 (min 65535 discharge.toInt) ∧
          (l.values.charge : Int) = max 0 (min 65535 charge.toInt) ∧ l.values.soc = min 100 soc.toNat ∧
          l.values.breaker = breaker
      | .feeder load breaker => (l.values.load : Int) = max 0 (min 65535 load.toInt) ∧ l.values.breaker = breaker
      | .meter frequency voltage =>
        l.values.frequency = min 65535 frequency.toNat ∧ l.values.voltage = min 65535 voltage.toNat

/-- A reading that fails a check is dropped (R43 to R47): nothing changes but the delivery taken, and a wrong source address
alone raises ADDRESS_MISMATCH. For a record whose link address was never written every reading has a wrong source (R45; when it
counts as written: notes/assumptions/30.md). -/
def Obligations.FailedReadingIsDropped : Prop :=
  ∀ (s : State) (m : ReadingMsg), Ready s →
    ((s.mode = .halted ∨ (s.unit m.unit).kind ≠ bodyKind m.body) →
      exec (.reading m) s = .next (takeDelivery s (.reading m))) ∧
    (s.mode ≠ .halted → (s.unit m.unit).kind = bodyKind m.body → (s.unit m.unit).link ≠ some m.src →
      ∃ t : State, exec (.reading m) s = .next t ∧ RecordWork (takeDelivery s (.reading m)) t ∧
        t.isLatched .addressMismatch = true ∧
        (s.isLatched .addressMismatch = true → t = takeDelivery s (.reading m))) ∧
    ((s.unit m.unit).link = some m.src → (s.tracker.state = .primary ∨ s.tracker.state = .secondary) →
      m.epoch ≠ s.tracker.epoch → m.epoch ≠ s.tracker.epoch - 1 →
      exec (.reading m) s = .next (takeDelivery s (.reading m))) ∧
    ((s.unit m.unit).link = some m.src → (s.unit m.unit).live.heard = true →
      (∃ t : Time, (s.unit m.unit).live.lastArrival = some t ∧
        elapsed s.now t ≤ (s.unit m.unit).stale * (s.unit m.unit).interval) →
      ((m.seq - (s.unit m.unit).live.lastSeq).toNat = 0 ∨ 32768 ≤ (m.seq - (s.unit m.unit).live.lastSeq).toNat) →
      exec (.reading m) s = .next (takeDelivery s (.reading m)))

/-- What a GENSET reading does in each dispatch state (R56, R124, R125, R129, R131 to R133, R136, R137): adoption and judgement,
the settling of a START or STOP of unknown outcome, a start's success or failure, the end of a stop, and the trip. One that
shows an ONLINE gen-set's breaker OPEN is a trip (R134): it leaves the Commitment List, its trips rise, it is locked out at the
trip limit and else STOPPED, judged for availability; the trip is reported to the Balance Engine, GENSET_TRIP is latched, and a
predictive shed is requested for the output it held (R151 to R153; the order of the three is notes/assumptions/15.md). The steps
are stated while no plan runs. And in any state: the predictive shed of a request, its record made after the list is served
(16.md), and the replacement of a chosen feeder that fails (R145, R153; the load taken off is 23.md, an ABSENT feeder's state
32.md, SHED_INSUFFICIENT raised before the replacements are served 50.md). The pushes withdraw the open STOPs (R138). A STOP
queued for a retry counts as unsent (11.md). A START settled by RUNNING with CLOSED is taken under R131 in full, its attempts and
retry-after cleared (53.md). -/
def Obligations.OpenBreakerTripsAnOnlineGenset : Prop :=
  (∀ (s : State) (g : UnitNo) (lost : Int), PredictiveSheds s (predictiveShed s g lost) g lost) ∧
  (∀ (s : State) (p : Predictive) (u : UnitNo) (i : SlotNo) (o : Order) (x : OpenOrder) (e : OrderEnd) (why : RefuseReason)
      (detail : Nat), s.shed.predictive = some p → u ∈ p.chosen → (s.unit u).feederJob.shed = .opening →
    (s.unit u).feederJob.openOrder = some x → x.slot = i → o.target = u → o.owner ≠ .plan →
    (e = .refuse why ∧ detail = 1 ∨ e = .timedOut ∧ detail = 2) →
    ChosenFails s (handleTask s (.ended .shed i o e)) p u detail) ∧
  (∀ (s : State) (u : UnitNo) (lost : Int), GensetMoves s (gensetReading s u lost) u lost) ∧
  (∀ (s : State) (m : ReadingMsg) (output : BitVec 32) (breaker : Breaker) (engine : Engine) (selector : Selector),
    Ready s → checkReading s m = .accepted → m.body = .genset output breaker engine selector → s.planRunning = false →
    ∃ (l : Live) (w v : State), ReadingStored s w m l ∧ l.heard = true ∧ l.values.output = max 0 (min 65535 output.toInt) ∧
      l.values.breaker = breaker ∧ l.values.engine = engine ∧ (l.localFlag = true ↔ selector = .localPanel) ∧
      Hands (.reading m) s v ∧ GensetMoves w v m.unit (s.unit m.unit).live.values.output) ∧
  ∀ (s : State) (m : ReadingMsg) (output : BitVec 32) (engine : Engine) (selector : Selector),
    Ready s → checkReading s m = .accepted → m.body = .genset output .opn engine selector →
    (s.unit m.unit).gensetJob.dispatch = .online → s.planRunning = false →
    ∃ (v : State) (n : Nat), Hands (.reading m) s v ∧ n = min 5 ((s.unit m.unit).gensetJob.trips + 1) ∧
      (v.unit m.unit).gensetJob = {
        (s.unit m.unit).gensetJob with
        trips := n
        onlineSince := none
        dispatch := if (s.unit m.unit).genset.tripLimit ≤ n then .lockedOut
          else if selector = .localPanel ∨ engine = .faulted then .unavailable else .stopped } ∧
      m.unit ∉ v.dispatcher.commit ∧ v.balance = { s.balance with tripPending := true } ∧
      v.isLatched .gensetTrip = true ∧
      ((s.unit m.unit).live.freshness ≠ .stale → logOpen s →
        v.events.log.get s.events.writeIndex =
          some (recordNow s .gensetTripped (some m.unit) (some (s.unit m.unit).live.values.output) (some n))) ∧
      ∃ (l : Live) (w : State), (∀ u : UnitNo, u ≠ m.unit → w.unit u = s.unit u) ∧
        w.unit m.unit = { s.unit m.unit with live := l, gensetJob := (v.unit m.unit).gensetJob } ∧
        w.shed = s.shed ∧ w.settings = s.settings ∧ w.mode = s.mode ∧ w.now = s.now ∧ w.tracker = s.tracker ∧
        w.orders.counters = s.orders.counters ∧ (∀ i : SlotNo, (w.slot i).map Order.content = (s.slot i).map Order.content) ∧
        PredictiveSheds w v m.unit (s.unit m.unit).live.values.output

/-- A foreign order starts or stretches its unit's manual hold, and only a start is recorded (R60); in HALTED and for an empty
record nothing changes (R43, R59). -/
def Obligations.ForeignOrderHoldsTheUnit : Prop :=
  ∀ (s : State) (o : ObservedMsg), Ready s →
    (s.mode ≠ .halted → (s.unit o.unit).kind ≠ .noUnit →
      ∃ t : State, exec (.observedOrder o) s = .next t ∧
        t.unit o.unit = { s.unit o.unit with live := {
          (s.unit o.unit).live with
          hold := if s.settings.holdTime = 0 then none else some (after s.now s.settings.holdTime) } } ∧
        (∀ v : UnitNo, v ≠ o.unit → t.unit v = s.unit v) ∧ t.service = s.service ∧ t.tracker = s.tracker ∧
        t.shed = s.shed ∧ t.seqr = s.seqr ∧ t.dispatcher = s.dispatcher ∧ t.balance = s.balance ∧
        ((s.unit o.unit).holdCurrent s.now = true → t.events = s.events ∧ t.orders = s.orders ∧ t.egress = s.egress) ∧
        ((s.unit o.unit).holdCurrent s.now = false → logOpen s →
          t.events.log.get s.events.writeIndex =
            some (recordNow s .manualHold (some o.unit) (some (s.settings.holdTime : Int)) (some (orderCode o.order))))) ∧
    ((s.mode = .halted ∨ (s.unit o.unit).kind = .noUnit) →
      exec (.observedOrder o) s = .next (takeDelivery s (.observed o)))

/-- A manual-hold deadline that is reached becomes absent, and nothing else changes (R61), in HALTED too
(notes/assumptions/31.md). One that is not reached leaves the state as it is (7.md). -/
def Obligations.ManualHoldEndsAtItsDeadline : Prop :=
  ∀ (s : State) (u : UnitNo) (d : Time), Ready s → (s.unit u).live.hold = some d →
    (reached s.now d = true →
      exec (.manualHoldEnd u) s = .next (s.setUnit u { s.unit u with live := { (s.unit u).live with hold := none } })) ∧
    (reached s.now d = false → exec (.manualHoldEnd u) s = .next s)

/-! ## The Order Transactor -/

/-- An order request is judged by the checks of R66 in their order, each refusing with its own reason. A setpoint request with
an order to coalesce with is COALESCED before credit and slots are looked at (R68); every other that passes the checks is
CREATED in the first free slot, and no class but URGENT takes one of the last four (R64). The class is that of owner and kind
(R67). And what the request leaves: the slot filled with the unit's next number (R63, R65), the order at the tail of the queue of
its class, or in the waiting line when that queue is full (R69), the order it coalesces with rewritten in its slot (R68),
SLOTS_EXHAUSTED latched when an URGENT request finds no slot (R66), and nothing else but what a new entry brings at once, a
rise of QUEUE_PRESSURE and a handover to a free port (in that order: notes/assumptions/52.md). -/
def Obligations.RequestsAreJudgedInOrder : Prop :=
  (∀ k : OrderKind, orderClass .plan k = .urgent ∧ orderClass .dispatch k = .dispatch ∧ orderClass .service k = .dispatch ∧
    orderClass .curtail k = .setpoint ∧ orderClass .shed k = if k = .opn then .urgent else .dispatch) ∧
  (∀ (s t : State) (u : UnitNo) (k : OrderKind) (v : Option Nat) (w : Owner) (step : Option (Fin 32)),
    t = (requestOrder s u k v w step).1 → (requestOrder s u k v w step).2 = judgeRequest s u k w ∧
    (∀ i : SlotNo, judgeRequest s u k w = .created i →
      (t.slot i).map Order.content = some (u, k, v, s.orders.counters.get u + 1, w, orderClass w k, step, 1) ∧
      (∀ j : SlotNo, j ≠ i → (t.slot j).map Order.content = (s.slot j).map Order.content) ∧
      t.orders.counters = s.orders.counters.set u (s.orders.counters.get u + 1) ∧
      OrderJoins { s with orders := { s.orders with counters := s.orders.counters.set u (s.orders.counters.get u + 1) } } t i {
        target := u, kind := k, value := v, number := s.orders.counters.get u + 1, owner := w, cls := orderClass w k,
        planStep := step, attempt := 1, inTx := {}, pendingPort := none, stamp := none }) ∧
    (∀ (i : SlotNo) (o : Order), judgeRequest s u k w = .coalesced i → s.slot i = some o →
      t = s.setSlot i (some { o with kind := k, value := v })) ∧
    (judgeRequest s u k w = .refused .noSlot → orderClass w k = .urgent → RecordWork s t ∧ t.isLatched .slotsExhausted = true) ∧
    (∀ why : Refuse, judgeRequest s u k w = .refused why → (why ≠ .noSlot ∨ orderClass w k ≠ .urgent) → t = s)) ∧
  ∀ (s : State) (u : UnitNo) (k : OrderKind) (w : Owner),
    ((s.mode = .halted ∨ s.mode = .observe) → judgeRequest s u k w = .refused .wrongMode) ∧
    ((s.mode = .active ∨ s.mode = .restore) → (s.unit u).permits.has k = false →
      judgeRequest s u k w = .refused .notPermitted) ∧
    ((s.mode = .active ∨ s.mode = .restore) → (s.unit u).permits.has k = true → (s.unit u).holdCurrent s.now = true →
      judgeRequest s u k w = .refused .held) ∧
    ((s.mode = .active ∨ s.mode = .restore) → (s.unit u).permits.has k = true → (s.unit u).holdCurrent s.now = false →
      ∀ can : SlotNo → Prop, (∀ i : SlotNo, can i ↔ (k = .setCap ∨ k = .clearCap) ∧ Rewritable s u i) →
        ((∃ i : SlotNo, can i) → ∃ i : SlotNo, judgeRequest s u k w = .coalesced i ∧ can i) ∧
        ((∀ i : SlotNo, ¬ can i) → (s.unit u).credit ≤ s.inFlight u → judgeRequest s u k w = .refused .noCredit) ∧
        ((∀ i : SlotNo, ¬ can i) → s.inFlight u < (s.unit u).credit →
          ((orderClass w k ≠ .urgent ∧ 8 ≤ s.nonUrgent) ∨ ∀ i : SlotNo, s.slot i ≠ none) →
          judgeRequest s u k w = .refused .noSlot) ∧
        ((∀ i : SlotNo, ¬ can i) → s.inFlight u < (s.unit u).credit → (orderClass w k = .urgent ∨ s.nonUrgent < 8) →
          ∀ i : SlotNo, s.slot i = none → (∀ j : SlotNo, j < i → s.slot j ≠ none) →
          judgeRequest s u k w = .created i))

/-- A reply that matches a SENT order ends it (R72, R73): its slot is freed, every other slot keeps its order, ORDER_REFUSED is
recorded for a REFUSE, and the end is handed to its receivers, by the table of R73, before the slot release goes to the four
jobs. That the slot is free before the end is handed is notes/assumptions/13.md. A stray reply changes nothing. And what any end
does at its jobs, in any state: a START's and a STOP's at the Dispatcher (R129, R136, R137; of another slot: 37.md), an OPEN's
and a CLOSE's at the Shed Controller (R145, R155; an ABSENT feeder's state: 32.md, a restore-fail count at 2: 41.md, a feeder
chosen by a record since replaced: 48.md), and a plan order's at the Sequencer (R166, R172; the step's own items: 19.md; while
cancel pending is yes the step takes no event, as 14.md reads R166; what the event does at the step is in
StepTimeoutFailsTheStep). A dispatch change is handed after the handler that made it (15.md). -/
def Obligations.ReplyEndsItsOrder : Prop :=
  (∀ (s : State) (i : SlotNo) (o : Order) (e : OrderEnd), EndTakers s o (endReceivers s o) ∧
    DispatcherEnds s (handleTask s (.ended .dispatcher i o e)) i o.target e ∧
    ShedEnds s (handleTask s (.ended .shed i o e)) i o o.target e ∧
    SequencerEnds s (handleTask s (.ended .sequencer i o e)) i o e) ∧
  ∀ (s : State) (r : ReplyMsg), Ready s →
    (∀ (i : SlotNo) (o : Order), s.slot i = some o → o.state = .sent → o.target = r.unit → o.number = r.number →
      (s.unit r.unit).linkAddr = r.src →
      (∀ (j : SlotNo) (x : Order), s.slot j = some x → x.state = .sent → x.target = r.unit → x.number = r.number → j = i) →
      ∃ (v : State) (jobs : List Job) (e : OrderEnd), Hands (.orderReply r) s v ∧
        jobs.Perm [.allocator, .dispatcher, .shed, .sequencer] ∧
        e = (match r.verdict with
          | .accept => OrderEnd.accept
          | .refuse why => OrderEnd.refuse why) ∧
        v.slot i = none ∧
        (∀ j : SlotNo, j ≠ i → (v.slot j).map Order.content = (s.slot j).map Order.content) ∧
        v.units = s.units ∧ v.service = s.service ∧ v.shed = s.shed ∧ v.seqr = s.seqr ∧ v.tracker = s.tracker ∧
        v.agenda = (endReceivers s o).map (fun j => Task.ended j i o e) ++ jobs.map (fun j => Task.released j o.target) ∧
        (r.verdict = .accept → v.events = s.events) ∧
        ∀ why : RefuseReason, r.verdict = .refuse why → logOpen s →
          v.events.log.get s.events.writeIndex = some (recordNow s .orderRefused (some o.target)
            (some (orderCode o.kind : Int)) (some (reasonCode why)))) ∧
    ((∀ (i : SlotNo) (o : Order), s.slot i = some o → o.state = .sent → o.target = r.unit → o.number = r.number →
        (s.unit r.unit).linkAddr ≠ r.src) →
      exec (.orderReply r) s = .next (takeDelivery s (.reply r)))

/-- The reply deadline of a SENT order is reached (R74): within the retry limit in ACTIVE or RESTORE the order is retried with
its number kept: it leaves SENT without its deadline and rejoins its queue or the waiting line, from where a free port may begin
its copy at once (R14), and it is SENT again at once only by way of a DOWN port (R2). Otherwise it is freed, ORDER_TIMED_OUT is
recorded, UNIT_UNREACHABLE is latched and the verdict TIMED_OUT handed on. That the slot is free before the end is handed is
notes/assumptions/13.md, and that the record and the condition come before it is 16.md. -/
def Obligations.ReplyTimeoutRetriesOrEnds : Prop :=
  ∀ (s : State) (i : SlotNo) (o : Order) (d : Time), Ready s → s.slot i = some o → o.state = .sent →
    o.deadline = some d → reached s.now d = true →
    ((o.attempt ≤ s.settings.retryLimit ∧ (s.mode = .active ∨ s.mode = .restore)) →
      ∃ (t : State) (o' : Order), exec (.replyTimeout i) s = .next t ∧ t.slot i = some o' ∧
        o'.content = { o with attempt := o.attempt + 1 }.content ∧
        (o'.state ≠ .sent → o'.deadline = none) ∧
        (o'.state = .sent → o'.deadline = some (s.later s.settings.replyTime) ∧ ∃ p : Port, (s.port p).up = false) ∧
        (o.cls ≠ .report → o'.stamp = none → i ∈ t.orders.waiting ∨ i ∈ t.queue o.cls) ∧
        (o'.stamp ≠ none → o'.state = .sent ∨ ∃ (p : Port) (f : OutFrame), (s.port p).tx = .free ∧
          (t.port p).tx = .order i f ∧ f.payload = .order o.number o.kind (o.value.getD 0)) ∧
        (∀ j : SlotNo, j ≠ i → (t.slot j).map Order.content = (s.slot j).map Order.content) ∧
        t.units = s.units ∧ t.service = s.service ∧ t.shed = s.shed ∧ t.seqr = s.seqr ∧ t.tracker = s.tracker ∧
        t.orders.counters = s.orders.counters) ∧
    ((s.settings.retryLimit < o.attempt ∨ s.mode = .halted ∨ s.mode = .observe) →
      ∃ (v : State) (jobs : List Job), Hands (.replyTimeout i) s v ∧
        jobs.Perm [.allocator, .dispatcher, .shed, .sequencer] ∧ v.slot i = none ∧
        (∀ j : SlotNo, j ≠ i → (v.slot j).map Order.content = (s.slot j).map Order.content) ∧
        v.units = s.units ∧ v.service = s.service ∧ v.shed = s.shed ∧ v.seqr = s.seqr ∧ v.tracker = s.tracker ∧
        v.isLatched .unitUnreachable = true ∧
        EndTakers s o (endReceivers s o) ∧
        v.agenda = (endReceivers s o).map (fun j => Task.ended j i o .timedOut) ++
          jobs.map (fun j => Task.released j o.target) ∧
        (logOpen s → v.events.log.get s.events.writeIndex = some (recordNow s .orderTimedOut (some o.target)
          (some (o.attempt : Int)) (some (orderCode o.kind)))))

/-! ## The deadlines of the jobs -/

/-- The start timeout of a STARTING gen-set is a failed attempt (R130, R131): attempts rise, retry-after is set, the open order
and the deadline become absent, and the gen-set leaves the Commitment List, locked out at the limit and else STOPPED, judged
for availability. -/
def Obligations.StartTimeoutFailsTheAttempt : Prop :=
  ∀ (s : State) (u : UnitNo) (d : Time), Ready s → (s.unit u).kind = .genset →
    (s.unit u).gensetJob.dispatch = .starting → (s.unit u).gensetJob.deadline = some d → reached s.now d = true →
    ∃ (v : State) (n : Nat), Hands (.startTimeout u) s v ∧ n = min 3 ((s.unit u).gensetJob.attempts + 1) ∧
      v.unit u = { s.unit u with gensetJob := {
        (s.unit u).gensetJob with
        attempts := n
        retryAfter := some (after s.now (s.unit u).genset.retryDelay)
        openOrder := none
        deadline := none
        dispatch := if (s.unit u).genset.maxAttempts ≤ n then .lockedOut
          else if (s.unit u).live.heard = false ∨ (s.unit u).live.localFlag = true ∨
            (s.unit u).live.values.engine = .faulted then .unavailable else .stopped } } ∧
      (∀ w : UnitNo, w ≠ u → v.unit w = s.unit w) ∧ u ∉ v.dispatcher.commit ∧
      (∀ w : UnitNo, w ≠ u → (w ∈ v.dispatcher.commit ↔ w ∈ s.dispatcher.commit)) ∧
      v.shed = s.shed ∧ v.tracker = s.tracker ∧ v.service = s.service ∧ (s.planRunning = false → v.agenda = []) ∧
      (logOpen s → v.events.log.get s.events.writeIndex =
        some (recordNow s .gensetStartFailed (some u) (some (n : Int)) (some 3)))

/-- The stop timeout of a STOPPING gen-set ends the stop as its live breaker reads (R137): OPEN to STOPPED, judged for
availability, with code 2; CLOSED back to ONLINE with code 3, keeping its online-since and its place. -/
def Obligations.StopTimeoutEndsTheStop : Prop :=
  ∀ (s : State) (u : UnitNo) (d : Time), Ready s → (s.unit u).kind = .genset →
    (s.unit u).gensetJob.dispatch = .stopping → (s.unit u).gensetJob.deadline = some d → reached s.now d = true →
    u ∈ s.dispatcher.commit →
    ∃ v : State, Hands (.stopTimeout u) s v ∧ (∀ w : UnitNo, w ≠ u → v.unit w = s.unit w) ∧
      v.shed = s.shed ∧ v.tracker = s.tracker ∧ v.service = s.service ∧ (s.planRunning = false → v.agenda = []) ∧
      ((s.unit u).live.values.breaker = .opn →
        v.unit u = { s.unit u with gensetJob := {
          (s.unit u).gensetJob with
          deadline := none
          onlineSince := none
          settling := none
          dispatch := if (s.unit u).live.heard = false ∨ (s.unit u).live.localFlag = true ∨
            (s.unit u).live.values.engine = .faulted then .unavailable else .stopped } } ∧
        u ∉ v.dispatcher.commit ∧
        (logOpen s → v.events.log.get s.events.writeIndex =
          some (recordNow s .gensetStopped (some u) (some (s.unit u).live.values.output) (some 2)))) ∧
      ((s.unit u).live.values.breaker = .closed →
        v.unit u = { s.unit u with gensetJob := {
          (s.unit u).gensetJob with
          deadline := none
          dispatch := .online } } ∧
        v.dispatcher.commit = s.dispatcher.commit ∧
        (logOpen s → v.events.log.get s.events.writeIndex =
          some (recordNow s .gensetStopped (some u) (some (s.unit u).live.values.output) (some 3))))

/-- The restore timeout of a RESTORING feeder is a restore failure (R155): a stacked feeder returns to SHED with its count
raised, or at 2 becomes OPEN_OTHER off the stack with SHED_FAILED recorded; one off the stack returns to OPEN_OTHER. A count that
stands at 2 already, as a plan can leave it, is held there: the model's choice (notes/assumptions/41.md). -/
def Obligations.RestoreTimeoutIsARestoreFailure : Prop :=
  ∀ (s : State) (u : UnitNo) (d : Time), Ready s → (s.unit u).kind = .feeder →
    (s.unit u).feederJob.shed = .restoring → (s.unit u).feederJob.deadline = some d → reached s.now d = true →
    ∃ t : State, exec (.restoreTimeout u) s = .next t ∧ (∀ w : UnitNo, w ≠ u → t.unit w = s.unit w) ∧
      t.dispatcher = s.dispatcher ∧ t.tracker = s.tracker ∧ t.service = s.service ∧ t.seqr = s.seqr ∧
      (∀ e : StackEntry, s.shed.stack.find? (fun x => x.feeder == u) = some e →
        ((s.unit u).feederJob.restoreFail = 0 →
          t.unit u = { s.unit u with feederJob := { shed := .shed, restoreFail := 1 } } ∧ t.shed.stack = s.shed.stack) ∧
        (1 ≤ (s.unit u).feederJob.restoreFail →
          t.unit u = { s.unit u with feederJob := { shed := .openOther, restoreFail := 2 } } ∧
          t.shed.stack = s.shed.stack.filter (fun x => x.feeder != u) ∧
          (logOpen s → t.events.log.get s.events.writeIndex =
            some (recordNow s .shedFailed (some u) (some (e.load : Int)) (some 3))))) ∧
      ((∀ e ∈ s.shed.stack, e.feeder ≠ u) →
        (t.unit u).feederJob = { shed := .openOther, restoreFail := (s.unit u).feederJob.restoreFail } ∧
        t.shed.stack = s.shed.stack ∧ t.events = s.events)

/-- The step deadline is reached while the step is ISSUED or WAITING (R172): the step fails with cause 1, its deadline and its
to-issue list are cleared, its unsent orders are withdrawn (R75; their order: notes/assumptions/44.md), STEP_FAILED is recorded,
and the plan moves on once the hand-offs are taken. What any event does at a step (R165 to R171): the action's part, its done
test, the loss test, and the requests made. And what moving on does, in any state: a FAILED step whose order list is empty is
retried, skipped, or ends the plan ABORTED with end cause 1 or 2 (R173), a DONE one gives way to the next (R165), a renewed dead
bus restarts the plan, past step 31 or at NONE it is ABORTED with end cause 3 (R175), and at END it is COMPLETED, the claimed
feeders settled by their breakers and handed back to the stack (R158, R174). What a step does at its beginning is stated for
each action (R165 to R171). The model's readings: what counts as unsent and when ends are handed is 11.md and 13.md, the step's
own items 19.md, the step state of END 25.md, an ABSENT feeder 32.md, the order of the last SHED_FAILED records 42.md, restart
pending through an abort 43.md. -/
def Obligations.StepTimeoutFailsTheStep : Prop :=
  (∀ s : State, PlanAdvances s (handleTask s .planAdvance)) ∧
  (∀ (s : State) (e : Trigger), StepTakes s (stepEvent s e) e) ∧
  ∀ (s : State) (d : Time), Ready s → s.progress.planState = .running →
    (s.progress.stepState = .issued ∨ s.progress.stepState = .waiting) → s.progress.deadline = some d →
    reached s.now d = true →
    ∃ (v : State) (before : List Task), Hands .stepTimeout s v ∧
      StepFails s v 1 (s.seqr.plan.get s.progress.current).unit ∧
      v.progress = { s.progress with stepState := .failed, failCause := some 1, deadline := none, toIssue := [] } ∧
      v.agenda = before ++ [.planAdvance] ∧ v.units = s.units ∧ v.shed = s.shed ∧ v.dispatcher = s.dispatcher ∧
      v.tracker = s.tracker ∧ v.service = s.service ∧
      (∀ (i : SlotNo) (o : Order), s.slot i = some o → o.owner ≠ .plan →
        (v.slot i).map Order.content = some o.content) ∧
      (logOpen s → v.events.log.get s.events.writeIndex =
        some (recordNow s .stepFailed (s.seqr.plan.get s.progress.current).unit
          (some (s.progress.current.val : Int)) (some 1)))

/-! ## Under-frequency shedding -/

/-- A stage timer at a frequency arrival (R147), every row of its table; what a trip sheds (R148), the ROCOF trigger (R150), and
the dead-bus detector at the same arrival (R161, R162), in any state; and a METER reading that trips one stage. The stages take
the arrival in ascending number (notes/assumptions/39.md), the rocof limit is the one that stands at the arrival (47.md), and an
arrival at which the detector asserts does not reach the step (18.md). At a change of source or an absent gap an IDLE timer of
delay 0 becomes TIMING and does not trip: notes/assumptions/24.md. The pushes of a shed withdraw the open STOPs (R138; what is
unsent in a retry: 11.md). -/
def Obligations.StageTimerFollowsItsTable : Prop :=
  (∀ (s : State) (a : Arrival), ShedTakes s (shedArrival s a) a) ∧
  (∀ (s : State) (a : Arrival), DetectorTakes s (seqArrival s a) a) ∧
  (∀ (s : State) (m : ReadingMsg) (frequency voltage : BitVec 32) (a : Arrival) (n : Fin 6) (f : Nat) (rocof : Rocof)
      (taken : Fin 6 → Timer), Ready s → checkReading s m = .accepted → m.body = .meter frequency voltage →
    MeterTaken s m.unit → f = min 65535 frequency.toNat → ArrivalMade s m f (min 65535 voltage.toNat) a →
    s.planRunning = false → s.settings.deadVoltage ≤ a.voltage →
    rocof = takeRocof s.shed.rocof a s.settings.rocofLimit → rocof.lowCount < 2 →
    (∀ k : Fin 6, taken k = if (s.shed.stages.get k).enabled
      then takeTimer (s.shed.stages.get k) a false (s.shed.timers.get k) else s.shed.timers.get k) →
    (∀ k : Fin 6, (s.shed.timers.get k).state ≠ .tripped → ((taken k).state = .tripped ↔ k = n)) →
    (s.shed.timers.get n).state ≠ .tripped →
    ∃ (l : Live) (w x y v : State), ReadingStored s w m l ∧ Hands (.reading m) s v ∧
      x = { w with lastSource := some m.unit, shed := x.shed, seqr := x.seqr } ∧
      x.shed = { s.shed with rocof := rocof, timers := x.shed.timers } ∧ StageSheds x y n f (n.val + 1) (.stage n) ∧
      v = { y with shed := { y.shed with timers := v.shed.timers }, seqr := v.seqr } ∧
      ∀ k : Fin 6, v.shed.timers.get k = taken k) ∧
  ∀ (g : Stage) (a : Arrival) (lowHeld : Bool) (t : Timer),
    (t.state = .idle → g.threshold ≤ a.frequency → takeTimer g a lowHeld t = t) ∧
    (t.state = .idle → a.frequency < g.threshold → (a.sourceChanged = true ∨ a.gap = none ∨ 0 < g.delay) →
      takeTimer g a lowHeld t = { state := .timing, since := some a.time }) ∧
    (t.state = .idle → a.frequency < g.threshold → a.sourceChanged = false → a.gap ≠ none → g.delay = 0 →
      (takeTimer g a lowHeld t).state = .tripped) ∧
    (t.state = .timing → g.threshold + g.hysteresis ≤ a.frequency → takeTimer g a lowHeld t = {}) ∧
    (t.state = .timing → a.frequency < g.threshold + g.hysteresis → (a.sourceChanged = true ∨ a.gap = none) →
      takeTimer g a lowHeld t = { state := .timing, since := some a.time }) ∧
    (∀ start : Time, t.state = .timing → t.since = some start → a.frequency < g.threshold + g.hysteresis →
      a.sourceChanged = false → a.gap ≠ none →
      (g.delay ≤ elapsed a.time start → (takeTimer g a lowHeld t).state = .tripped) ∧
      (elapsed a.time start < g.delay → takeTimer g a lowHeld t = t)) ∧
    (t.state = .tripped → g.threshold + g.hysteresis ≤ a.frequency → lowHeld = false → takeTimer g a lowHeld t = {}) ∧
    (t.state = .tripped → (a.frequency < g.threshold + g.hysteresis ∨ lowHeld = true) → takeTimer g a lowHeld t = t)

/-- The ROCOF tracker at a frequency arrival, and the value it offers to a pass (R149). The division truncates toward zero:
its product with the divisor lies between 0 and the dividend. -/
def Obligations.RocofTrackerFollowsArrivals : Prop :=
  ∀ (t : Rocof) (a : Arrival) (limit : Nat) (meter : Option UnitNo),
    ((a.sourceChanged = true ∨ a.gap = none ∨ t.prevMeter ≠ some a.meter ∨ t.prevFrequency = none) →
      takeRocof t a limit =
        { t with prevFrequency := some a.frequency, prevMeter := some a.meter, latest := none, lowCount := 0 }) ∧
    (∀ gap prev : Nat, a.sourceChanged = false → a.gap = some gap → t.prevMeter = some a.meter →
      t.prevFrequency = some prev → 0 < gap * a.interval →
      ∃ rate : Int, takeRocof t a limit = { t with
          prevFrequency := some a.frequency
          latest := some rate
          valueMeter := some a.meter
          lowCount := if rate ≤ -(limit : Int) then min 2 (t.lowCount + 1) else 0 } ∧
        (∃ rest : Int, ((a.frequency : Int) - prev) * 1000 = rate * ((gap * a.interval : Nat) : Int) + rest ∧
          rest.natAbs < gap * a.interval ∧ (0 ≤ (a.frequency : Int) - prev → 0 ≤ rest) ∧
          ((a.frequency : Int) - prev ≤ 0 → rest ≤ 0))) ∧
    (offeredRocof t meter = if t.valueMeter ≠ none ∧ t.valueMeter = meter then t.latest else none)

/-! ## The Event Log -/

/-- An event raised is written, lost, or sets the overflow flag (R181). -/
def Obligations.EventsAreWrittenOrLost : Prop :=
  ∀ (s : State) (k : EventKind) (u : Option UnitNo) (x : Option Int) (d : Option Nat) (t : State),
    t = recordEntry s k u x d →
    (s.events.overflow = true → t = s) ∧
    (s.events.overflow = false → s.events.log.get s.events.writeIndex = none →
      t.events.log.get s.events.writeIndex = some (recordNow s k u x d) ∧
      (∀ i : LogNo, i ≠ s.events.writeIndex → t.events.log.get i = s.events.log.get i) ∧
      t.events.writeIndex = s.events.writeIndex + 1 ∧ t.events.overflow = false) ∧
    (∀ e : EventRec, s.events.overflow = false → s.events.log.get s.events.writeIndex = some e →
      t = { s with events := { s.events with overflow := true } })

/-! ## The Service Unit -/

/-- A delivered request is filtered by its source, joins the Service Queue, or is answered BUSY when the queue is full and
REPORT has room, or is dropped (R186, R187); a request from a controller address sets that address's side (R185). -/
def Obligations.RequestsAreTakenOrTurnedAway : Prop :=
  ∀ (s : State) (r : Request), Ready s →
    ((s.access.primaryController ≠ none ∨ s.access.backupController ≠ none) →
      s.access.primaryController ≠ some r.src → s.access.backupController ≠ some r.src →
      exec (.serviceRequest r) s = .next (takeDelivery s (.request r))) ∧
    (((s.access.primaryController = none ∧ s.access.backupController = none) ∨
        s.access.primaryController = some r.src ∨ s.access.backupController = some r.src) →
      ∃ u : State, u = { takeDelivery s (.request r) with events := {
          s.events with
          primarySide := if s.access.primaryController = some r.src then some r.port else s.events.primarySide
          backupSide := if s.access.backupController = some r.src then some r.port else s.events.backupSide } } ∧
        (s.service.queue.length < 16 → exec (.serviceRequest r) s =
          .next { u with service := { s.service with queue := s.service.queue ++ [r] } }) ∧
        (16 ≤ s.service.queue.length → s.egress.held = false → s.egress.report.length < 16 →
          exec (.serviceRequest r) s = .next (joinReport u (responseTo r .busy .nothing))) ∧
        (16 ≤ s.service.queue.length → 16 ≤ s.egress.report.length → exec (.serviceRequest r) s = .next u))

/-- WRITE RECORD (R188, R189) over the seven tables: each field is stored, clamped to its range, and the record is returned; the
refusals BAD_VALUE, LIMIT, IN_USE and, for a field or an index or a table that is not there, BAD_REQUEST, BAD_INDEX and
BAD_TABLE change nothing. A write of several fields stores them together, and changes nothing at all when one of them is
refused: every write is either carried out whole or refused whole. Each table's writes are in the structure named for it. Codes
that the spec does not name are those of notes/assumptions/2.md; the guard of the essential flag and the order of the checks are
20.md. That a write which names a STALE reference raises REFERENCE_STALE at once is 16.md, and what a write of zeros over an
unwritten link address does is 30.md. -/
def Obligations.WriteRecordStoresOrRefuses : Prop :=
  ∀ (s : State) (r : Request) (rest : List Request), HeadIs s r rest → r.kind = 1 →
    (∀ u : UnitNo, UnitWrites s r rest u) ∧ SettingsWrites s r rest ∧ AccessWrites s r rest ∧
    (∀ n : Fin 6, StageWrites s r rest n) ∧ (∀ k : Fin 26, RouteWrites s r rest k) ∧
    (∀ k : Fin 16, PhaseWrites s r rest k) ∧ (∀ k : Fin 32, PlanWrites s r rest k) ∧
    ((∃ why : Status, why ≠ .done ∧ why ≠ .doneClamped ∧ WriteRefused s r rest why) ∨
      ∃ (v : State) (status : Status) (x : RecordView), (status = .done ∨ status = .doneClamped) ∧
        Responds .writeRecord s v r status (.records [x])) ∧
    ∀ (table index : Nat) (mask : List Nat) (values : List FieldVal), r.args = .write table index mask values →
      maskRises mask = true → mask.length = values.length →
      ((table = 0 ∨ 7 < table) → WriteRefused s r rest .badTable) ∧
      ∀ low high : Nat, (table, low, high) ∈ tableIndexes → (index < low ∨ high < index) →
        WriteRefused s r rest .badIndex

/-- The requests that change nothing but the queue and REPORT (R180, R188, R190): READ RECORD returns the records of any of the
seven tables from the first index, shortened at the table's end, and refuses another table or index; READ STATE returns its
parts as they stand; READ EVENTS returns the listed slots; and a request of no kind, or with arguments that do not fit its
kind, is BAD_REQUEST. That a field mask whose numbers do not rise is no mask, and so does not fit, is the model's choice
(notes/assumptions/2.md). -/
def Obligations.ReadsChangeNothing : Prop :=
  ∀ (s : State) (r : Request) (rest : List Request), HeadIs s r rest →
    (∀ table first count : Nat, r.kind = 2 → r.args = .read table first count → 1 ≤ count → count ≤ 8 →
      (∀ low high : Nat, (table, low, high) ∈ tableIndexes →
        (low ≤ first → first ≤ high →
          ∃ views : List RecordView, Answered .readRecord s (popRequest s rest) r .done (.records views) ∧
            views.length = min count (high + 1 - first) ∧
            ∀ (k : Nat) (v : RecordView), views[k]? = some v → Shows s table (first + k) v) ∧
        ((first < low ∨ high < first) → Answered .readRecord s (popRequest s rest) r .badIndex .nothing)) ∧
      ((table = 0 ∨ 7 < table) → Answered .readRecord s (popRequest s rest) r .badTable .nothing)) ∧
    (∀ table first count : Nat, r.kind = 2 → r.args = .read table first count → (count = 0 ∨ 8 < count) →
      Answered .readRecord s (popRequest s rest) r .badRequest .nothing) ∧
    (r.kind = 3 → r.args = .nothing →
      ∃ v : StateView, Answered .readState s (popRequest s rest) r .done (.state v) ∧ StateShown s v) ∧
    (∀ ns : List Nat, r.kind = 4 → r.args = .slots ns → 1 ≤ ns.length → ns.length ≤ 32 →
      ((∀ n ∈ ns, n < 32) →
        Answered .readEvents s (popRequest s rest) r .done
          (.events (ns.map fun n => s.events.log.get (Fin.ofNat 32 n)))) ∧
      ((∃ n ∈ ns, 32 ≤ n) → Answered .readEvents s (popRequest s rest) r .badIndex .nothing)) ∧
    (argsFit r.kind r.args = false →
      Answered .unknownRequestKind s (popRequest s rest) r .badRequest .nothing)

/-- ACK EVENTS empties the listed slots, leaves the write index and the overflow flag, and then clears every outstanding group
for which no pending slot holds a record routed to it (R182, R185). -/
def Obligations.AckEventsEmptiesTheListedSlots : Prop :=
  ∀ (s : State) (r : Request) (rest : List Request) (ns : List Nat), HeadIs s r rest → r.kind = 5 →
    r.args = .slots ns → 1 ≤ ns.length → ns.length ≤ 32 →
    ((∀ n ∈ ns, n < 32) →
      ∃ (v : State) (count : Nat), Answered .ackEvents s v r .done (.pendingCount count) ∧
        v = { popRequest s rest with events := v.events } ∧
        (∀ i : LogNo, v.events.log.get i = if i.val ∈ ns then none else s.events.log.get i) ∧
        v.events.writeIndex = s.events.writeIndex ∧ v.events.overflow = s.events.overflow ∧
        v.events.latched = s.events.latched ∧ v.events.routing = s.events.routing ∧
        (∀ g : Fin 8, v.events.groups.get g = true ↔ s.events.groups.get g = true ∧
          ∃ (i : LogNo) (e : EventRec), v.events.log.get i = some e ∧
            (s.events.routing.get e.kind.index).group = g) ∧
        count = ((List.finRange 32).filter fun i => (v.events.log.get i).isSome).length) ∧
    ((∃ n ∈ ns, 32 ≤ n) → Answered .ackEvents s (popRequest s rest) r .badIndex .nothing)

/-- CLEAR CONDITIONS unlatches every named condition, and latches again those whose held cause is present (R178). Stated of
every condition but QUEUE_PRESSURE, whose cause the notices of the records made here may raise (R80). -/
def Obligations.ClearConditionsUnlatches : Prop :=
  ∀ (s : State) (r : Request) (rest : List Request) (mask : BitVec 14), HeadIs s r rest → r.kind = 6 →
    r.args = .conditions mask →
    ∃ v : State, Responds .clearConditions s v r .done (.latched v.events.latched) ∧ v.agenda = [] ∧
      (∀ (c : Condition) (present : Option Bool), c ≠ .queuePressure → CauseShown s c present →
        (v.isLatched c = true ↔
          if mask.getLsbD c.code = true then present = some true else s.isLatched c = true)) ∧
      (s.isLatched .queuePressure = true → mask.getLsbD 5 = false → v.isLatched .queuePressure = true) ∧
      (∀ (i : LogNo) (e : EventRec), s.events.log.get i = some e → v.events.log.get i = some e) ∧
      v.units = s.units ∧ v.shed = s.shed ∧ v.seqr = s.seqr ∧ v.tracker = s.tracker ∧ v.dispatcher = s.dispatcher ∧
      v.service = { s.service with queue := rest }

/-- CLEAR OVERFLOW acts only while the overflow flag is set: it clears the flag and moves the write index to the first empty
slot from it onward, or leaves it when none is empty (R183). -/
def Obligations.ClearOverflowMovesTheWriteIndex : Prop :=
  ∀ (s : State) (r : Request) (rest : List Request), HeadIs s r rest → r.kind = 7 → r.args = .nothing →
    (s.events.overflow = false → Answered .clearOverflow s (popRequest s rest) r .done (.wasSet false)) ∧
    (s.events.overflow = true →
      ∃ w : LogNo, Answered .clearOverflow s
          { popRequest s rest with events := { s.events with overflow := false, writeIndex := w } } r .done (.wasSet true) ∧
        ((∀ i : LogNo, s.events.log.get i ≠ none) → w = s.events.writeIndex) ∧
        ((∃ i : LogNo, s.events.log.get i = none) →
          s.events.log.get w = none ∧
          ∀ k : Fin 32, k < w - s.events.writeIndex → s.events.log.get (s.events.writeIndex + k) ≠ none))

/-- SET MODE (R191): each allowed change is made and recorded, HALTED from RESTORE aborts the plan with end cause 6 first, the
mode found again changes nothing, and every other request is WRONG_MODE or BAD_VALUE. What a change leaves: the tracker (R32),
the orders, with the unsent ones ended DISCARDED in slot order (R79; their slot releases follow all the ends:
notes/assumptions/13.md; what counts as unsent in a retry: 11.md), the jobs (R116, R127, R140, R159, R175; a feeder that the plan
held and is ABSENT: 32.md; restart pending, which an abort keeps: 43.md), and what joins REPORT while both ports are busy. That
MODE_CHANGED comes before EPOCH_SOURCE_CHANGED at a change to HALTED is the model's choice (51.md). -/
def Obligations.SetModeFollowsItsTable : Prop :=
  ∀ (s : State) (r : Request) (rest : List Request) (code : Nat), HeadIs s r rest → r.kind = 8 → r.args = .mode code →
    (3 < code → Answered .setMode s (popRequest s rest) r .badValue .nothing) ∧
    ∀ m : Mode, code = m.code →
      (s.mode = m → Answered .setMode s (popRequest s rest) r .done (.mode m)) ∧
      (((m = .observe ∧ (s.mode = .halted ∨ s.mode = .active)) ∨ (m = .halted ∧ (s.mode = .observe ∨ s.mode = .active)) ∨
          (m = .active ∧ (s.mode = .halted ∨ s.mode = .observe) ∧
            ∃ u : UnitNo, s.settings.reference = some u ∧ (s.unit u).kind = .meter)) →
        ∃ v : State, Responds .setMode s v r .done (.mode m) ∧ v.mode = m ∧ v.settings = s.settings ∧
          v.access = s.access ∧ v.seqr = s.seqr ∧ ModeChanged s v m ∧
          (logOpen s → v.events.log.get s.events.writeIndex =
            some (recordNow s .modeChanged none (some (s.mode.code : Int)) (some m.code)))) ∧
      (m = .halted → s.mode = .restore →
        ∃ v : State, Responds .setMode s v r .done (.mode .halted) ∧ v.mode = .halted ∧ PlanAborts s v .halted 6 ∧
          v.progress.planState = .aborted ∧ v.progress.endCause = some 6 ∧ v.isLatched .planFailed = true ∧
          (logOpen s → v.events.log.get s.events.writeIndex =
            some (recordNow s .planEnded none (some (s.progress.current.val : Int)) (some 6)))) ∧
      (((s.mode = .restore ∧ (m = .active ∨ m = .observe)) ∨ (m = .restore ∧ s.mode ≠ .restore) ∨
          (m = .active ∧ (s.mode = .halted ∨ s.mode = .observe) ∧
            ∀ u : UnitNo, s.settings.reference = some u → (s.unit u).kind ≠ .meter)) →
        Answered .setMode s (popRequest s rest) r .wrongMode .nothing)

/-- CANCEL ORDERS ends every slot in its scope (ALL every slot, ZONE by the target's zone, UNIT by the target), widened to the
plan steps found in it, and keeps every other order; it records ORDERS_CANCELLED when it ended a slot, with the unit of scope
UNIT, the number ended and the reported scope; it reports STEP_WIDENED when widening added a slot to a scope other than ALL, and
else the scope asked for, with the counts of the slots ended; and a bad scope changes nothing (R77, R78). The ends are handed to
their receivers in ascending slot number, then the notice to the Sequencer when a plan order was among them, then the slot
releases. What was unsent is judged as in notes/assumptions/11.md, that the slots are freed before any end is handed is 13.md,
and that ORDERS_CANCELLED is recorded after all of them is 14.md. -/
def Obligations.CancelOrdersEndsTheWidenedScope : Prop :=
  (∀ (s : State) (i : SlotNo) (o : Order), EndTakers s o (endReceivers s o) ∧
    (unsentYet s i o = true ↔ o.state = .waitingRetry ∨
      o.state = .queued ∧ o.pendingPort = none ∧ i ∈ s.queue o.cls)) ∧
  ∀ (s : State) (r : Request) (rest : List Request) (code arg : Nat), HeadIs s r rest → r.kind = 9 →
    r.args = .scope code arg →
    ((2 < code ∨ (code = 1 ∧ 8 ≤ arg) ∨ (code = 2 ∧ 64 ≤ arg)) →
      Answered .cancelOrders s (popRequest s rest) r .badValue .nothing) ∧
    ((code = 0 ∨ code = 1 ∧ arg < 8 ∨ code = 2 ∧ arg < 64) → ∀ (inside widened : SlotNo → Bool) (u : Option UnitNo),
      (∀ i : SlotNo, inside i = true ↔ ∃ o : Order, s.slot i = some o ∧
        (code = 0 ∨ code = 1 ∧ (s.unit o.target).zone = arg ∨ code = 2 ∧ o.target.val = arg)) →
      (∀ i : SlotNo, widened i = true ↔ inside i = true ∨ ∃ (j : SlotNo) (o x : Order) (k : Fin 32), s.slot i = some o ∧
        o.planStep = some k ∧ inside j = true ∧ s.slot j = some x ∧ x.planStep = some k) →
      (code = 2 → u.map Fin.val = some arg) → (code ≠ 2 → u = none) →
      ∃ (v w : State) (scope : ReportedScope) (unsent unknown : Nat) (ends : List (SlotNo × Order × OrderEnd)) (jobs : List Job),
        Responds .cancelOrders s w r .done (.cancelled scope unsent unknown) ∧
        w = (if unsent + unknown = 0 then settle v else record (settle v) .ordersCancelled u
          (some ((unsent + unknown : Nat) : Int)) (some scope.code)) ∧
        (0 < unsent + unknown → RecordsFirst (settle v) w .ordersCancelled u (some ((unsent + unknown : Nat) : Int))
          (some (if code ≠ 0 ∧ ∃ i : SlotNo, widened i = true ∧ inside i = false then 3 else code))) ∧
        scope = (if code ≠ 0 ∧ ∃ i : SlotNo, widened i = true ∧ inside i = false then .stepWidened
          else if code = 0 then .all else if code = 1 then .zone else .unit) ∧
        ends = allSlots.filterMap (fun i => (s.slot i).bind fun o => if widened i then
          some (i, o, if unsentYet s i o then .unsent .cancelled else .outcomeUnknown) else none) ∧
        jobs.Perm [.allocator, .dispatcher, .shed, .sequencer] ∧
        v.agenda = ends.flatMap (fun x => (endReceivers s x.2.1).map fun j => Task.ended j x.1 x.2.1 x.2.2) ++
          (if ends.any (fun x => x.2.1.planStep.isSome) then [.cancelNotice] else []) ++
          ends.flatMap (fun x => jobs.map fun j => Task.released j x.2.1.target) ∧
        (∀ i : SlotNo, (widened i = true → v.slot i = none) ∧
          (widened i = false → (v.slot i).map Order.content = (s.slot i).map Order.content)) ∧
        unsent = (allSlots.filter fun i => (s.slot i).any (fun o => unsentYet s i o) && widened i).length ∧
        unknown = (allSlots.filter fun i => (s.slot i).any (fun o => !unsentYet s i o) && widened i).length ∧
        v.units = s.units ∧ v.events = s.events ∧ v.seqr = s.seqr ∧ v.shed = s.shed ∧ v.tracker = s.tracker)

/-- START PLAN and ABORT PLAN (R164, R175, R176): a start in OBSERVE or ACTIVE with a METER reference enters RESTORE with the
plan RUNNING at step 0, attempt 1; an abort in RESTORE leaves the plan ABORTED with end cause 5 in OBSERVE, PLAN_FAILED latched,
no feeder held and no slot with a plan step; every other is WRONG_MODE. A start whose step 0 is NONE leaves the plan ABORTED in
OBSERVE with end cause 3, and one whose step 0 is END leaves it COMPLETED in ACTIVE; the step has begun at attempt 1 in each
(R164; for NONE see notes/assumptions/25.md). What the abort leaves is stated whole (R175), by the readings of 11.md, 13.md,
32.md and 43.md. -/
def Obligations.PlanStartsAndAborts : Prop :=
  ∀ (s : State) (r : Request) (rest : List Request), HeadIs s r rest → r.args = .nothing →
    (r.kind = 10 → (s.mode = .observe ∨ s.mode = .active) →
      (∃ u : UnitNo, s.settings.reference = some u ∧ (s.unit u).kind = .meter) →
      (s.seqr.plan.get 0).action ≠ .noAction → (s.seqr.plan.get 0).action ≠ .endPlan →
      ∃ v : State, Responds .startPlan s (settle v) r .done (.planState (settle v).progress.planState) ∧
        v.mode = .restore ∧ v.progress.planState = .running ∧ v.progress.current = 0 ∧ v.progress.attempt = 1 ∧
        v.progress.restarts = 0 ∧ v.progress.endCause = none ∧ v.progress.startTime = s.now ∧
        ((s.seqr.plan.get 0).action ≠ .releasePv → v.alloc.planLimit = some 0) ∧ v.seqr.plan = s.seqr.plan ∧
        (logOpen s → v.events.log.get s.events.writeIndex =
          some (recordNow s .modeChanged none (some (s.mode.code : Int)) (some 3)))) ∧
    (r.kind = 10 → (s.mode = .observe ∨ s.mode = .active) →
      (∃ u : UnitNo, s.settings.reference = some u ∧ (s.unit u).kind = .meter) →
      ((s.seqr.plan.get 0).action = .noAction ∨ (s.seqr.plan.get 0).action = .endPlan) →
      ∃ v : State, Responds .startPlan s (settle v) r .done (.planState (settle v).progress.planState) ∧
        v.progress.current = 0 ∧ v.progress.attempt = 1 ∧ v.progress.restarts = 0 ∧ v.progress.startTime = s.now ∧
        v.progress.failCause = none ∧ v.progress.orders = [] ∧ v.progress.deadline = none ∧ v.alloc.planLimit = none ∧
        ((s.seqr.plan.get 0).action = .noAction → v.mode = .observe ∧ v.progress.planState = .aborted ∧
          v.progress.endCause = some 3 ∧ v.isLatched .planFailed = true) ∧
        ((s.seqr.plan.get 0).action = .endPlan → v.mode = .active ∧ v.progress.planState = .completed ∧
          v.progress.endCause = some 0 ∧ v.progress.stepState = .done)) ∧
    (r.kind = 10 → ((s.mode = .halted ∨ s.mode = .restore) ∨
        ∀ u : UnitNo, s.settings.reference = some u → (s.unit u).kind ≠ .meter) →
      Answered .startPlan s (popRequest s rest) r .wrongMode .nothing) ∧
    (r.kind = 11 → s.mode = .restore →
      ∃ v : State, Responds .abortPlan s (settle v) r .done (.planState (settle v).progress.planState) ∧
        PlanAborts s v .observe 5 ∧ v.mode = .observe ∧ v.progress.planState = .aborted ∧ v.progress.endCause = some 5 ∧
        v.isLatched .planFailed = true ∧ v.alloc.planLimit = none ∧
        (∀ u : UnitNo, (v.unit u).kind = .feeder → (v.unit u).feederJob.shed ≠ .openPlan) ∧
        (∀ (i : SlotNo) (o : Order), v.slot i = some o → o.planStep = none) ∧
        (logOpen s → v.events.log.get s.events.writeIndex =
          some (recordNow s .planEnded none (some (s.progress.current.val : Int)) (some 5)))) ∧
    (r.kind = 11 → s.mode ≠ .restore → Answered .abortPlan s (popRequest s rest) r .wrongMode .nothing)

/-- RELEASE FEEDER and RESET LOCKOUT (R139, R156), every row of their tables: an OPEN_OTHER non-essential feeder goes to the
stack with cause MANUAL, the push withdrawing the open STOPs (R138; what is unsent in a retry: notes/assumptions/11.md), an
essential one is asked a CLOSE in ACTIVE with nothing freezing, and a gen-set in LOCKED_OUT, STOPPED or UNAVAILABLE has its counts
cleared and is judged for availability. -/
def Obligations.ReleasesFollowTheirTables : Prop :=
  ∀ (s : State) (r : Request) (rest : List Request) (n : Nat), HeadIs s r rest → r.args = .unit n →
    (r.kind = 12 → 64 ≤ n → Answered .releaseFeeder s (popRequest s rest) r .badIndex .nothing) ∧
    (r.kind = 13 → 64 ≤ n → Answered .resetLockout s (popRequest s rest) r .badIndex .nothing) ∧
    ∀ u : UnitNo, n = u.val →
      (r.kind = 12 → (s.unit u).kind ≠ .feeder → Answered .releaseFeeder s (popRequest s rest) r .badIndex .nothing) ∧
      (r.kind = 12 → (s.unit u).kind = .feeder → (s.unit u).feederJob.shed ≠ .openOther →
        Answered .releaseFeeder s (popRequest s rest) r .inUse .nothing) ∧
      (r.kind = 12 → (s.unit u).kind = .feeder → (s.unit u).feederJob.shed = .openOther →
        (s.unit u).feeder.essential = false →
        ∃ v : State, Responds .releaseFeeder s v r .done .nothing ∧
          v.unit u = { s.unit u with feederJob := { (s.unit u).feederJob with shed := .shed, restoreFail := 0 } } ∧
          v.shed.stack = s.shed.stack ++
            [{ feeder := u, cause := .manual, load := (s.unit u).shedLoad, epoch := s.tracker.epoch }] ∧
          (Busy s ∨ OneStopAtMost s → StopsWithdrawn s v) ∧
          v.events = s.events ∧ v.service = { s.service with queue := rest } ∧ v.tracker = s.tracker) ∧
      (r.kind = 12 → (s.unit u).kind = .feeder → (s.unit u).feederJob.shed = .openOther →
        (s.unit u).feeder.essential = true → s.mode ≠ .active →
        Answered .releaseFeeder s (popRequest s rest) r .wrongMode .nothing) ∧
      (r.kind = 12 → (s.unit u).kind = .feeder → (s.unit u).feederJob.shed = .openOther →
        (s.unit u).feeder.essential = true → s.mode = .active → frozen s = true →
        Answered .releaseFeeder s (popRequest s rest) r .inUse .nothing) ∧
      (∀ i : SlotNo, r.kind = 12 → (s.unit u).kind = .feeder → (s.unit u).feederJob.shed = .openOther →
        (s.unit u).feeder.essential = true → s.mode = .active → frozen s = false →
        judgeRequest s u .close .service = .created i →
        ∃ (v : State) (o : Order), Responds .releaseFeeder s v r .done .nothing ∧
          v.unit u = { s.unit u with feederJob := {
            (s.unit u).feederJob with
            shed := .restoring
            openOrder := some ⟨.close, i, .service⟩
            deadline := none
            settling := none } } ∧
          v.shed.stack = s.shed.stack ∧ v.slot i = some o ∧ o.target = u ∧ o.kind = .close ∧ o.owner = .service ∧
          o.cls = .dispatch ∧ o.number = s.orders.counters.get u + 1) ∧
      (∀ why : Refuse, r.kind = 12 → (s.unit u).kind = .feeder → (s.unit u).feederJob.shed = .openOther →
        (s.unit u).feeder.essential = true → s.mode = .active → frozen s = false →
        judgeRequest s u .close .service = .refused why →
        Answered .releaseFeeder s (popRequest s rest) r .inUse (.refusal why)) ∧
      (r.kind = 13 → (s.unit u).kind ≠ .genset → Answered .resetLockout s (popRequest s rest) r .badIndex .nothing) ∧
      (r.kind = 13 → (s.unit u).kind = .genset →
        ((s.unit u).gensetJob.dispatch = .lockedOut ∨ (s.unit u).gensetJob.dispatch = .stopped ∨
          (s.unit u).gensetJob.dispatch = .unavailable) →
        ∃ v : State, Responds .resetLockout s v r .done .nothing ∧
          v.unit u = { s.unit u with gensetJob := {
            (s.unit u).gensetJob with
            attempts := 0
            trips := 0
            retryAfter := none
            dispatch := if (s.unit u).live.heard = false ∨ (s.unit u).live.localFlag = true ∨
              (s.unit u).live.values.engine = .faulted then .unavailable else .stopped } } ∧
          (∀ w : UnitNo, w ≠ u → v.unit w = s.unit w) ∧ v.events = s.events ∧ v.shed = s.shed ∧ v.orders = s.orders ∧
          (s.planRunning = false → v.agenda = [])) ∧
      (r.kind = 13 → (s.unit u).kind = .genset → (s.unit u).gensetJob.dispatch.committed = true →
        Answered .resetLockout s (popRequest s rest) r .inUse .nothing)

/-- ENGINE RESET (R192): the mode becomes OBSERVE, the live and job state goes to its start values, configuration, E, period,
timebase, order counters, the published record and the log's records are kept, and the records are made in their order,
ENGINE_RESET, MODE_CHANGED, EPOCH_SOURCE_CHANGED and CONDITION_LATCHED, each when its rule has it, and no other. The only
condition left latched can be QUEUE_PRESSURE, whose cause the records' notices may raise before the later of them
(notes/assumptions/28.md). -/
def Obligations.EngineResetKeepsTheConfiguration : Prop :=
  ∀ (s : State) (r : Request) (rest : List Request), HeadIs s r rest → r.kind = 14 → r.args = .nothing →
    ∃ v : State, Responds .engineReset s v r .done .nothing ∧ v.agenda = [] ∧ v.mode = .observe ∧ v.now = s.now ∧
      v.service = { s.service with queue := rest, mode := .observe } ∧
      v.tracker = { epoch := s.tracker.epoch, period := s.tracker.period, unsetDeadline := some (after s.now 3000) } ∧
      (∀ u : UnitNo, v.unit u = configOf (s.unit u)) ∧ v.lastSource = none ∧
      v.balance = { published := s.balance.published } ∧ v.alloc = {} ∧ v.dispatcher = {} ∧
      v.shed = { stages := s.shed.stages } ∧ v.seqr = { plan := s.seqr.plan } ∧
      (∀ i : SlotNo, v.slot i = none) ∧ v.orders.waiting = [] ∧ v.orders.counters = s.orders.counters ∧
      v.egress.urgent = [] ∧ v.egress.dispatch = [] ∧ v.egress.setpoint = [] ∧ v.egress.phases = s.egress.phases ∧
      v.frame.seqOrder = s.frame.seqOrder ∧
      (Busy s → (∀ p : Port, v.phase p = s.phase p) ∧ sequences v = sequences s) ∧
      v.frame.station = s.frame.station ∧ v.frame.delivered = s.frame.delivered ∧
      (∀ c : Condition, v.isLatched c = true → c = .queuePressure) ∧
      v.events.routing = s.events.routing ∧ v.events.primarySide = s.events.primarySide ∧
      v.events.backupSide = s.events.backupSide ∧
      (∀ (i : LogNo) (e : EventRec), s.events.log.get i = some e → v.events.log.get i = some e) ∧
      (logOpen s → v.events.log.get s.events.writeIndex =
        some (recordNow s .engineReset none (some (s.mode.code : Int)) none)) ∧
      ResetRecorded s v
end

