-- ==== Sys2Proof/Laws/State.lean ====
section
/-! SUPPORT. What each update of the state leaves as it was, and what it puts in its place: one lemma for each field and
update, so that no later proof unfolds a record update. -/

namespace Sys2Proof.Machine

/-! ### `State.setUnit`: a unit record -/

@[simp] theorem State.setUnit_inReset (s : State) (u : UnitNo) (r : UnitRec) : (s.setUnit u r).inReset = s.inReset := rfl
@[simp] theorem State.setUnit_now (s : State) (u : UnitNo) (r : UnitRec) : (s.setUnit u r).now = s.now := rfl
@[simp] theorem State.setUnit_frame (s : State) (u : UnitNo) (r : UnitRec) : (s.setUnit u r).frame = s.frame := rfl
@[simp] theorem State.setUnit_tracker (s : State) (u : UnitNo) (r : UnitRec) : (s.setUnit u r).tracker = s.tracker := rfl
@[simp] theorem State.setUnit_lastSource (s : State) (u : UnitNo) (r : UnitRec) : (s.setUnit u r).lastSource = s.lastSource := rfl
@[simp] theorem State.setUnit_balance (s : State) (u : UnitNo) (r : UnitRec) : (s.setUnit u r).balance = s.balance := rfl
@[simp] theorem State.setUnit_alloc (s : State) (u : UnitNo) (r : UnitRec) : (s.setUnit u r).alloc = s.alloc := rfl
@[simp] theorem State.setUnit_dispatcher (s : State) (u : UnitNo) (r : UnitRec) : (s.setUnit u r).dispatcher = s.dispatcher := rfl
@[simp] theorem State.setUnit_shed (s : State) (u : UnitNo) (r : UnitRec) : (s.setUnit u r).shed = s.shed := rfl
@[simp] theorem State.setUnit_seqr (s : State) (u : UnitNo) (r : UnitRec) : (s.setUnit u r).seqr = s.seqr := rfl
@[simp] theorem State.setUnit_orders (s : State) (u : UnitNo) (r : UnitRec) : (s.setUnit u r).orders = s.orders := rfl
@[simp] theorem State.setUnit_egress (s : State) (u : UnitNo) (r : UnitRec) : (s.setUnit u r).egress = s.egress := rfl
@[simp] theorem State.setUnit_events (s : State) (u : UnitNo) (r : UnitRec) : (s.setUnit u r).events = s.events := rfl
@[simp] theorem State.setUnit_service (s : State) (u : UnitNo) (r : UnitRec) : (s.setUnit u r).service = s.service := rfl
@[simp] theorem State.setUnit_schedule (s : State) (u : UnitNo) (r : UnitRec) : (s.setUnit u r).schedule = s.schedule := rfl
@[simp] theorem State.setUnit_agenda (s : State) (u : UnitNo) (r : UnitRec) : (s.setUnit u r).agenda = s.agenda := rfl
@[simp] theorem State.setUnit_pending (s : State) (u : UnitNo) (r : UnitRec) : (s.setUnit u r).pending = s.pending := rfl

/-! ### `State.setLive`: live fields -/

@[simp] theorem State.setLive_inReset (s : State) (u : UnitNo) (l : Live) : (s.setLive u l).inReset = s.inReset := rfl
@[simp] theorem State.setLive_now (s : State) (u : UnitNo) (l : Live) : (s.setLive u l).now = s.now := rfl
@[simp] theorem State.setLive_frame (s : State) (u : UnitNo) (l : Live) : (s.setLive u l).frame = s.frame := rfl
@[simp] theorem State.setLive_tracker (s : State) (u : UnitNo) (l : Live) : (s.setLive u l).tracker = s.tracker := rfl
@[simp] theorem State.setLive_lastSource (s : State) (u : UnitNo) (l : Live) : (s.setLive u l).lastSource = s.lastSource := rfl
@[simp] theorem State.setLive_balance (s : State) (u : UnitNo) (l : Live) : (s.setLive u l).balance = s.balance := rfl
@[simp] theorem State.setLive_alloc (s : State) (u : UnitNo) (l : Live) : (s.setLive u l).alloc = s.alloc := rfl
@[simp] theorem State.setLive_dispatcher (s : State) (u : UnitNo) (l : Live) : (s.setLive u l).dispatcher = s.dispatcher := rfl
@[simp] theorem State.setLive_shed (s : State) (u : UnitNo) (l : Live) : (s.setLive u l).shed = s.shed := rfl
@[simp] theorem State.setLive_seqr (s : State) (u : UnitNo) (l : Live) : (s.setLive u l).seqr = s.seqr := rfl
@[simp] theorem State.setLive_orders (s : State) (u : UnitNo) (l : Live) : (s.setLive u l).orders = s.orders := rfl
@[simp] theorem State.setLive_egress (s : State) (u : UnitNo) (l : Live) : (s.setLive u l).egress = s.egress := rfl
@[simp] theorem State.setLive_events (s : State) (u : UnitNo) (l : Live) : (s.setLive u l).events = s.events := rfl
@[simp] theorem State.setLive_service (s : State) (u : UnitNo) (l : Live) : (s.setLive u l).service = s.service := rfl
@[simp] theorem State.setLive_schedule (s : State) (u : UnitNo) (l : Live) : (s.setLive u l).schedule = s.schedule := rfl
@[simp] theorem State.setLive_agenda (s : State) (u : UnitNo) (l : Live) : (s.setLive u l).agenda = s.agenda := rfl
@[simp] theorem State.setLive_pending (s : State) (u : UnitNo) (l : Live) : (s.setLive u l).pending = s.pending := rfl

/-! ### `State.setGenset`: a gen-set's items -/

@[simp] theorem State.setGenset_inReset (s : State) (u : UnitNo) (j : GensetJob) : (s.setGenset u j).inReset = s.inReset := rfl
@[simp] theorem State.setGenset_now (s : State) (u : UnitNo) (j : GensetJob) : (s.setGenset u j).now = s.now := rfl
@[simp] theorem State.setGenset_frame (s : State) (u : UnitNo) (j : GensetJob) : (s.setGenset u j).frame = s.frame := rfl
@[simp] theorem State.setGenset_tracker (s : State) (u : UnitNo) (j : GensetJob) : (s.setGenset u j).tracker = s.tracker := rfl
@[simp] theorem State.setGenset_lastSource (s : State) (u : UnitNo) (j : GensetJob) : (s.setGenset u j).lastSource = s.lastSource := rfl
@[simp] theorem State.setGenset_balance (s : State) (u : UnitNo) (j : GensetJob) : (s.setGenset u j).balance = s.balance := rfl
@[simp] theorem State.setGenset_alloc (s : State) (u : UnitNo) (j : GensetJob) : (s.setGenset u j).alloc = s.alloc := rfl
@[simp] theorem State.setGenset_dispatcher (s : State) (u : UnitNo) (j : GensetJob) : (s.setGenset u j).dispatcher = s.dispatcher := rfl
@[simp] theorem State.setGenset_shed (s : State) (u : UnitNo) (j : GensetJob) : (s.setGenset u j).shed = s.shed := rfl
@[simp] theorem State.setGenset_seqr (s : State) (u : UnitNo) (j : GensetJob) : (s.setGenset u j).seqr = s.seqr := rfl
@[simp] theorem State.setGenset_orders (s : State) (u : UnitNo) (j : GensetJob) : (s.setGenset u j).orders = s.orders := rfl
@[simp] theorem State.setGenset_egress (s : State) (u : UnitNo) (j : GensetJob) : (s.setGenset u j).egress = s.egress := rfl
@[simp] theorem State.setGenset_events (s : State) (u : UnitNo) (j : GensetJob) : (s.setGenset u j).events = s.events := rfl
@[simp] theorem State.setGenset_service (s : State) (u : UnitNo) (j : GensetJob) : (s.setGenset u j).service = s.service := rfl
@[simp] theorem State.setGenset_schedule (s : State) (u : UnitNo) (j : GensetJob) : (s.setGenset u j).schedule = s.schedule := rfl
@[simp] theorem State.setGenset_agenda (s : State) (u : UnitNo) (j : GensetJob) : (s.setGenset u j).agenda = s.agenda := rfl
@[simp] theorem State.setGenset_pending (s : State) (u : UnitNo) (j : GensetJob) : (s.setGenset u j).pending = s.pending := rfl

/-! ### `State.setPv`: a PV unit's items -/

@[simp] theorem State.setPv_inReset (s : State) (u : UnitNo) (j : PvJob) : (s.setPv u j).inReset = s.inReset := rfl
@[simp] theorem State.setPv_now (s : State) (u : UnitNo) (j : PvJob) : (s.setPv u j).now = s.now := rfl
@[simp] theorem State.setPv_frame (s : State) (u : UnitNo) (j : PvJob) : (s.setPv u j).frame = s.frame := rfl
@[simp] theorem State.setPv_tracker (s : State) (u : UnitNo) (j : PvJob) : (s.setPv u j).tracker = s.tracker := rfl
@[simp] theorem State.setPv_lastSource (s : State) (u : UnitNo) (j : PvJob) : (s.setPv u j).lastSource = s.lastSource := rfl
@[simp] theorem State.setPv_balance (s : State) (u : UnitNo) (j : PvJob) : (s.setPv u j).balance = s.balance := rfl
@[simp] theorem State.setPv_alloc (s : State) (u : UnitNo) (j : PvJob) : (s.setPv u j).alloc = s.alloc := rfl
@[simp] theorem State.setPv_dispatcher (s : State) (u : UnitNo) (j : PvJob) : (s.setPv u j).dispatcher = s.dispatcher := rfl
@[simp] theorem State.setPv_shed (s : State) (u : UnitNo) (j : PvJob) : (s.setPv u j).shed = s.shed := rfl
@[simp] theorem State.setPv_seqr (s : State) (u : UnitNo) (j : PvJob) : (s.setPv u j).seqr = s.seqr := rfl
@[simp] theorem State.setPv_orders (s : State) (u : UnitNo) (j : PvJob) : (s.setPv u j).orders = s.orders := rfl
@[simp] theorem State.setPv_egress (s : State) (u : UnitNo) (j : PvJob) : (s.setPv u j).egress = s.egress := rfl
@[simp] theorem State.setPv_events (s : State) (u : UnitNo) (j : PvJob) : (s.setPv u j).events = s.events := rfl
@[simp] theorem State.setPv_service (s : State) (u : UnitNo) (j : PvJob) : (s.setPv u j).service = s.service := rfl
@[simp] theorem State.setPv_schedule (s : State) (u : UnitNo) (j : PvJob) : (s.setPv u j).schedule = s.schedule := rfl
@[simp] theorem State.setPv_agenda (s : State) (u : UnitNo) (j : PvJob) : (s.setPv u j).agenda = s.agenda := rfl
@[simp] theorem State.setPv_pending (s : State) (u : UnitNo) (j : PvJob) : (s.setPv u j).pending = s.pending := rfl

/-! ### `State.setFeeder`: a feeder's items -/

@[simp] theorem State.setFeeder_inReset (s : State) (u : UnitNo) (j : FeederJob) : (s.setFeeder u j).inReset = s.inReset := rfl
@[simp] theorem State.setFeeder_now (s : State) (u : UnitNo) (j : FeederJob) : (s.setFeeder u j).now = s.now := rfl
@[simp] theorem State.setFeeder_frame (s : State) (u : UnitNo) (j : FeederJob) : (s.setFeeder u j).frame = s.frame := rfl
@[simp] theorem State.setFeeder_tracker (s : State) (u : UnitNo) (j : FeederJob) : (s.setFeeder u j).tracker = s.tracker := rfl
@[simp] theorem State.setFeeder_lastSource (s : State) (u : UnitNo) (j : FeederJob) : (s.setFeeder u j).lastSource = s.lastSource := rfl
@[simp] theorem State.setFeeder_balance (s : State) (u : UnitNo) (j : FeederJob) : (s.setFeeder u j).balance = s.balance := rfl
@[simp] theorem State.setFeeder_alloc (s : State) (u : UnitNo) (j : FeederJob) : (s.setFeeder u j).alloc = s.alloc := rfl
@[simp] theorem State.setFeeder_dispatcher (s : State) (u : UnitNo) (j : FeederJob) : (s.setFeeder u j).dispatcher = s.dispatcher := rfl
@[simp] theorem State.setFeeder_shed (s : State) (u : UnitNo) (j : FeederJob) : (s.setFeeder u j).shed = s.shed := rfl
@[simp] theorem State.setFeeder_seqr (s : State) (u : UnitNo) (j : FeederJob) : (s.setFeeder u j).seqr = s.seqr := rfl
@[simp] theorem State.setFeeder_orders (s : State) (u : UnitNo) (j : FeederJob) : (s.setFeeder u j).orders = s.orders := rfl
@[simp] theorem State.setFeeder_egress (s : State) (u : UnitNo) (j : FeederJob) : (s.setFeeder u j).egress = s.egress := rfl
@[simp] theorem State.setFeeder_events (s : State) (u : UnitNo) (j : FeederJob) : (s.setFeeder u j).events = s.events := rfl
@[simp] theorem State.setFeeder_service (s : State) (u : UnitNo) (j : FeederJob) : (s.setFeeder u j).service = s.service := rfl
@[simp] theorem State.setFeeder_schedule (s : State) (u : UnitNo) (j : FeederJob) : (s.setFeeder u j).schedule = s.schedule := rfl
@[simp] theorem State.setFeeder_agenda (s : State) (u : UnitNo) (j : FeederJob) : (s.setFeeder u j).agenda = s.agenda := rfl
@[simp] theorem State.setFeeder_pending (s : State) (u : UnitNo) (j : FeederJob) : (s.setFeeder u j).pending = s.pending := rfl

/-! ### `State.setSlot`: an Order Slot -/

@[simp] theorem State.setSlot_inReset (s : State) (i : SlotNo) (o : Option Order) : (s.setSlot i o).inReset = s.inReset := rfl
@[simp] theorem State.setSlot_now (s : State) (i : SlotNo) (o : Option Order) : (s.setSlot i o).now = s.now := rfl
@[simp] theorem State.setSlot_frame (s : State) (i : SlotNo) (o : Option Order) : (s.setSlot i o).frame = s.frame := rfl
@[simp] theorem State.setSlot_tracker (s : State) (i : SlotNo) (o : Option Order) : (s.setSlot i o).tracker = s.tracker := rfl
@[simp] theorem State.setSlot_units (s : State) (i : SlotNo) (o : Option Order) : (s.setSlot i o).units = s.units := rfl
@[simp] theorem State.setSlot_lastSource (s : State) (i : SlotNo) (o : Option Order) : (s.setSlot i o).lastSource = s.lastSource := rfl
@[simp] theorem State.setSlot_balance (s : State) (i : SlotNo) (o : Option Order) : (s.setSlot i o).balance = s.balance := rfl
@[simp] theorem State.setSlot_alloc (s : State) (i : SlotNo) (o : Option Order) : (s.setSlot i o).alloc = s.alloc := rfl
@[simp] theorem State.setSlot_dispatcher (s : State) (i : SlotNo) (o : Option Order) : (s.setSlot i o).dispatcher = s.dispatcher := rfl
@[simp] theorem State.setSlot_shed (s : State) (i : SlotNo) (o : Option Order) : (s.setSlot i o).shed = s.shed := rfl
@[simp] theorem State.setSlot_seqr (s : State) (i : SlotNo) (o : Option Order) : (s.setSlot i o).seqr = s.seqr := rfl
@[simp] theorem State.setSlot_egress (s : State) (i : SlotNo) (o : Option Order) : (s.setSlot i o).egress = s.egress := rfl
@[simp] theorem State.setSlot_events (s : State) (i : SlotNo) (o : Option Order) : (s.setSlot i o).events = s.events := rfl
@[simp] theorem State.setSlot_service (s : State) (i : SlotNo) (o : Option Order) : (s.setSlot i o).service = s.service := rfl
@[simp] theorem State.setSlot_schedule (s : State) (i : SlotNo) (o : Option Order) : (s.setSlot i o).schedule = s.schedule := rfl
@[simp] theorem State.setSlot_agenda (s : State) (i : SlotNo) (o : Option Order) : (s.setSlot i o).agenda = s.agenda := rfl
@[simp] theorem State.setSlot_pending (s : State) (i : SlotNo) (o : Option Order) : (s.setSlot i o).pending = s.pending := rfl

/-! ### `State.setQueue`: an order queue -/

@[simp] theorem State.setQueue_inReset (s : State) (c : QClass) (q : List SlotNo) : (s.setQueue c q).inReset = s.inReset := by cases c <;> rfl
@[simp] theorem State.setQueue_now (s : State) (c : QClass) (q : List SlotNo) : (s.setQueue c q).now = s.now := by cases c <;> rfl
@[simp] theorem State.setQueue_frame (s : State) (c : QClass) (q : List SlotNo) : (s.setQueue c q).frame = s.frame := by cases c <;> rfl
@[simp] theorem State.setQueue_tracker (s : State) (c : QClass) (q : List SlotNo) : (s.setQueue c q).tracker = s.tracker := by cases c <;> rfl
@[simp] theorem State.setQueue_units (s : State) (c : QClass) (q : List SlotNo) : (s.setQueue c q).units = s.units := by cases c <;> rfl
@[simp] theorem State.setQueue_lastSource (s : State) (c : QClass) (q : List SlotNo) : (s.setQueue c q).lastSource = s.lastSource := by cases c <;> rfl
@[simp] theorem State.setQueue_balance (s : State) (c : QClass) (q : List SlotNo) : (s.setQueue c q).balance = s.balance := by cases c <;> rfl
@[simp] theorem State.setQueue_alloc (s : State) (c : QClass) (q : List SlotNo) : (s.setQueue c q).alloc = s.alloc := by cases c <;> rfl
@[simp] theorem State.setQueue_dispatcher (s : State) (c : QClass) (q : List SlotNo) : (s.setQueue c q).dispatcher = s.dispatcher := by cases c <;> rfl
@[simp] theorem State.setQueue_shed (s : State) (c : QClass) (q : List SlotNo) : (s.setQueue c q).shed = s.shed := by cases c <;> rfl
@[simp] theorem State.setQueue_seqr (s : State) (c : QClass) (q : List SlotNo) : (s.setQueue c q).seqr = s.seqr := by cases c <;> rfl
@[simp] theorem State.setQueue_orders (s : State) (c : QClass) (q : List SlotNo) : (s.setQueue c q).orders = s.orders := by cases c <;> rfl
@[simp] theorem State.setQueue_events (s : State) (c : QClass) (q : List SlotNo) : (s.setQueue c q).events = s.events := by cases c <;> rfl
@[simp] theorem State.setQueue_service (s : State) (c : QClass) (q : List SlotNo) : (s.setQueue c q).service = s.service := by cases c <;> rfl
@[simp] theorem State.setQueue_schedule (s : State) (c : QClass) (q : List SlotNo) : (s.setQueue c q).schedule = s.schedule := by cases c <;> rfl
@[simp] theorem State.setQueue_agenda (s : State) (c : QClass) (q : List SlotNo) : (s.setQueue c q).agenda = s.agenda := by cases c <;> rfl
@[simp] theorem State.setQueue_pending (s : State) (c : QClass) (q : List SlotNo) : (s.setQueue c q).pending = s.pending := by cases c <;> rfl

/-! ### `State.dequeue`: a slot out of its queues -/

@[simp] theorem State.dequeue_inReset (s : State) (i : SlotNo) : (s.dequeue i).inReset = s.inReset := rfl
@[simp] theorem State.dequeue_now (s : State) (i : SlotNo) : (s.dequeue i).now = s.now := rfl
@[simp] theorem State.dequeue_frame (s : State) (i : SlotNo) : (s.dequeue i).frame = s.frame := rfl
@[simp] theorem State.dequeue_tracker (s : State) (i : SlotNo) : (s.dequeue i).tracker = s.tracker := rfl
@[simp] theorem State.dequeue_units (s : State) (i : SlotNo) : (s.dequeue i).units = s.units := rfl
@[simp] theorem State.dequeue_lastSource (s : State) (i : SlotNo) : (s.dequeue i).lastSource = s.lastSource := rfl
@[simp] theorem State.dequeue_balance (s : State) (i : SlotNo) : (s.dequeue i).balance = s.balance := rfl
@[simp] theorem State.dequeue_alloc (s : State) (i : SlotNo) : (s.dequeue i).alloc = s.alloc := rfl
@[simp] theorem State.dequeue_dispatcher (s : State) (i : SlotNo) : (s.dequeue i).dispatcher = s.dispatcher := rfl
@[simp] theorem State.dequeue_shed (s : State) (i : SlotNo) : (s.dequeue i).shed = s.shed := rfl
@[simp] theorem State.dequeue_seqr (s : State) (i : SlotNo) : (s.dequeue i).seqr = s.seqr := rfl
@[simp] theorem State.dequeue_events (s : State) (i : SlotNo) : (s.dequeue i).events = s.events := rfl
@[simp] theorem State.dequeue_service (s : State) (i : SlotNo) : (s.dequeue i).service = s.service := rfl
@[simp] theorem State.dequeue_schedule (s : State) (i : SlotNo) : (s.dequeue i).schedule = s.schedule := rfl
@[simp] theorem State.dequeue_agenda (s : State) (i : SlotNo) : (s.dequeue i).agenda = s.agenda := rfl
@[simp] theorem State.dequeue_pending (s : State) (i : SlotNo) : (s.dequeue i).pending = s.pending := rfl

/-! ### `State.setPort`: a port -/

@[simp] theorem State.setPort_inReset (s : State) (p : Port) (q : PortPath) : (s.setPort p q).inReset = s.inReset := by cases p <;> rfl
@[simp] theorem State.setPort_now (s : State) (p : Port) (q : PortPath) : (s.setPort p q).now = s.now := by cases p <;> rfl
@[simp] theorem State.setPort_tracker (s : State) (p : Port) (q : PortPath) : (s.setPort p q).tracker = s.tracker := by cases p <;> rfl
@[simp] theorem State.setPort_units (s : State) (p : Port) (q : PortPath) : (s.setPort p q).units = s.units := by cases p <;> rfl
@[simp] theorem State.setPort_lastSource (s : State) (p : Port) (q : PortPath) : (s.setPort p q).lastSource = s.lastSource := by cases p <;> rfl
@[simp] theorem State.setPort_balance (s : State) (p : Port) (q : PortPath) : (s.setPort p q).balance = s.balance := by cases p <;> rfl
@[simp] theorem State.setPort_alloc (s : State) (p : Port) (q : PortPath) : (s.setPort p q).alloc = s.alloc := by cases p <;> rfl
@[simp] theorem State.setPort_dispatcher (s : State) (p : Port) (q : PortPath) : (s.setPort p q).dispatcher = s.dispatcher := by cases p <;> rfl
@[simp] theorem State.setPort_shed (s : State) (p : Port) (q : PortPath) : (s.setPort p q).shed = s.shed := by cases p <;> rfl
@[simp] theorem State.setPort_seqr (s : State) (p : Port) (q : PortPath) : (s.setPort p q).seqr = s.seqr := by cases p <;> rfl
@[simp] theorem State.setPort_orders (s : State) (p : Port) (q : PortPath) : (s.setPort p q).orders = s.orders := by cases p <;> rfl
@[simp] theorem State.setPort_egress (s : State) (p : Port) (q : PortPath) : (s.setPort p q).egress = s.egress := by cases p <;> rfl
@[simp] theorem State.setPort_events (s : State) (p : Port) (q : PortPath) : (s.setPort p q).events = s.events := by cases p <;> rfl
@[simp] theorem State.setPort_service (s : State) (p : Port) (q : PortPath) : (s.setPort p q).service = s.service := by cases p <;> rfl
@[simp] theorem State.setPort_schedule (s : State) (p : Port) (q : PortPath) : (s.setPort p q).schedule = s.schedule := by cases p <;> rfl
@[simp] theorem State.setPort_agenda (s : State) (p : Port) (q : PortPath) : (s.setPort p q).agenda = s.agenda := by cases p <;> rfl
@[simp] theorem State.setPort_pending (s : State) (p : Port) (q : PortPath) : (s.setPort p q).pending = s.pending := by cases p <;> rfl

/-! ### `State.setPhase`: a phase pointer -/

@[simp] theorem State.setPhase_inReset (s : State) (p : Port) (x : Fin 16) : (s.setPhase p x).inReset = s.inReset := by cases p <;> rfl
@[simp] theorem State.setPhase_now (s : State) (p : Port) (x : Fin 16) : (s.setPhase p x).now = s.now := by cases p <;> rfl
@[simp] theorem State.setPhase_frame (s : State) (p : Port) (x : Fin 16) : (s.setPhase p x).frame = s.frame := by cases p <;> rfl
@[simp] theorem State.setPhase_tracker (s : State) (p : Port) (x : Fin 16) : (s.setPhase p x).tracker = s.tracker := by cases p <;> rfl
@[simp] theorem State.setPhase_units (s : State) (p : Port) (x : Fin 16) : (s.setPhase p x).units = s.units := by cases p <;> rfl
@[simp] theorem State.setPhase_lastSource (s : State) (p : Port) (x : Fin 16) : (s.setPhase p x).lastSource = s.lastSource := by cases p <;> rfl
@[simp] theorem State.setPhase_balance (s : State) (p : Port) (x : Fin 16) : (s.setPhase p x).balance = s.balance := by cases p <;> rfl
@[simp] theorem State.setPhase_alloc (s : State) (p : Port) (x : Fin 16) : (s.setPhase p x).alloc = s.alloc := by cases p <;> rfl
@[simp] theorem State.setPhase_dispatcher (s : State) (p : Port) (x : Fin 16) : (s.setPhase p x).dispatcher = s.dispatcher := by cases p <;> rfl
@[simp] theorem State.setPhase_shed (s : State) (p : Port) (x : Fin 16) : (s.setPhase p x).shed = s.shed := by cases p <;> rfl
@[simp] theorem State.setPhase_seqr (s : State) (p : Port) (x : Fin 16) : (s.setPhase p x).seqr = s.seqr := by cases p <;> rfl
@[simp] theorem State.setPhase_orders (s : State) (p : Port) (x : Fin 16) : (s.setPhase p x).orders = s.orders := by cases p <;> rfl
@[simp] theorem State.setPhase_events (s : State) (p : Port) (x : Fin 16) : (s.setPhase p x).events = s.events := by cases p <;> rfl
@[simp] theorem State.setPhase_service (s : State) (p : Port) (x : Fin 16) : (s.setPhase p x).service = s.service := by cases p <;> rfl
@[simp] theorem State.setPhase_schedule (s : State) (p : Port) (x : Fin 16) : (s.setPhase p x).schedule = s.schedule := by cases p <;> rfl
@[simp] theorem State.setPhase_agenda (s : State) (p : Port) (x : Fin 16) : (s.setPhase p x).agenda = s.agenda := by cases p <;> rfl
@[simp] theorem State.setPhase_pending (s : State) (p : Port) (x : Fin 16) : (s.setPhase p x).pending = s.pending := by cases p <;> rfl

/-! ### `State.setProgress`: the plan progress record -/

@[simp] theorem State.setProgress_inReset (s : State) (p : Progress) : (s.setProgress p).inReset = s.inReset := rfl
@[simp] theorem State.setProgress_now (s : State) (p : Progress) : (s.setProgress p).now = s.now := rfl
@[simp] theorem State.setProgress_frame (s : State) (p : Progress) : (s.setProgress p).frame = s.frame := rfl
@[simp] theorem State.setProgress_tracker (s : State) (p : Progress) : (s.setProgress p).tracker = s.tracker := rfl
@[simp] theorem State.setProgress_units (s : State) (p : Progress) : (s.setProgress p).units = s.units := rfl
@[simp] theorem State.setProgress_lastSource (s : State) (p : Progress) : (s.setProgress p).lastSource = s.lastSource := rfl
@[simp] theorem State.setProgress_balance (s : State) (p : Progress) : (s.setProgress p).balance = s.balance := rfl
@[simp] theorem State.setProgress_alloc (s : State) (p : Progress) : (s.setProgress p).alloc = s.alloc := rfl
@[simp] theorem State.setProgress_dispatcher (s : State) (p : Progress) : (s.setProgress p).dispatcher = s.dispatcher := rfl
@[simp] theorem State.setProgress_shed (s : State) (p : Progress) : (s.setProgress p).shed = s.shed := rfl
@[simp] theorem State.setProgress_orders (s : State) (p : Progress) : (s.setProgress p).orders = s.orders := rfl
@[simp] theorem State.setProgress_egress (s : State) (p : Progress) : (s.setProgress p).egress = s.egress := rfl
@[simp] theorem State.setProgress_events (s : State) (p : Progress) : (s.setProgress p).events = s.events := rfl
@[simp] theorem State.setProgress_service (s : State) (p : Progress) : (s.setProgress p).service = s.service := rfl
@[simp] theorem State.setProgress_schedule (s : State) (p : Progress) : (s.setProgress p).schedule = s.schedule := rfl
@[simp] theorem State.setProgress_agenda (s : State) (p : Progress) : (s.setProgress p).agenda = s.agenda := rfl
@[simp] theorem State.setProgress_pending (s : State) (p : Progress) : (s.setProgress p).pending = s.pending := rfl

/-! ### `State.defer`: a hand-off -/

@[simp] theorem State.defer_inReset (s : State) (t : Task) : (s.defer t).inReset = s.inReset := rfl
@[simp] theorem State.defer_now (s : State) (t : Task) : (s.defer t).now = s.now := rfl
@[simp] theorem State.defer_frame (s : State) (t : Task) : (s.defer t).frame = s.frame := rfl
@[simp] theorem State.defer_tracker (s : State) (t : Task) : (s.defer t).tracker = s.tracker := rfl
@[simp] theorem State.defer_units (s : State) (t : Task) : (s.defer t).units = s.units := rfl
@[simp] theorem State.defer_lastSource (s : State) (t : Task) : (s.defer t).lastSource = s.lastSource := rfl
@[simp] theorem State.defer_balance (s : State) (t : Task) : (s.defer t).balance = s.balance := rfl
@[simp] theorem State.defer_alloc (s : State) (t : Task) : (s.defer t).alloc = s.alloc := rfl
@[simp] theorem State.defer_dispatcher (s : State) (t : Task) : (s.defer t).dispatcher = s.dispatcher := rfl
@[simp] theorem State.defer_shed (s : State) (t : Task) : (s.defer t).shed = s.shed := rfl
@[simp] theorem State.defer_seqr (s : State) (t : Task) : (s.defer t).seqr = s.seqr := rfl
@[simp] theorem State.defer_orders (s : State) (t : Task) : (s.defer t).orders = s.orders := rfl
@[simp] theorem State.defer_egress (s : State) (t : Task) : (s.defer t).egress = s.egress := rfl
@[simp] theorem State.defer_events (s : State) (t : Task) : (s.defer t).events = s.events := rfl
@[simp] theorem State.defer_service (s : State) (t : Task) : (s.defer t).service = s.service := rfl
@[simp] theorem State.defer_schedule (s : State) (t : Task) : (s.defer t).schedule = s.schedule := rfl
@[simp] theorem State.defer_pending (s : State) (t : Task) : (s.defer t).pending = s.pending := rfl

/-! ### `State.deferAll`: several hand-offs -/

@[simp] theorem State.deferAll_inReset (s : State) (ts : List Task) : (s.deferAll ts).inReset = s.inReset := rfl
@[simp] theorem State.deferAll_now (s : State) (ts : List Task) : (s.deferAll ts).now = s.now := rfl
@[simp] theorem State.deferAll_frame (s : State) (ts : List Task) : (s.deferAll ts).frame = s.frame := rfl
@[simp] theorem State.deferAll_tracker (s : State) (ts : List Task) : (s.deferAll ts).tracker = s.tracker := rfl
@[simp] theorem State.deferAll_units (s : State) (ts : List Task) : (s.deferAll ts).units = s.units := rfl
@[simp] theorem State.deferAll_lastSource (s : State) (ts : List Task) : (s.deferAll ts).lastSource = s.lastSource := rfl
@[simp] theorem State.deferAll_balance (s : State) (ts : List Task) : (s.deferAll ts).balance = s.balance := rfl
@[simp] theorem State.deferAll_alloc (s : State) (ts : List Task) : (s.deferAll ts).alloc = s.alloc := rfl
@[simp] theorem State.deferAll_dispatcher (s : State) (ts : List Task) : (s.deferAll ts).dispatcher = s.dispatcher := rfl
@[simp] theorem State.deferAll_shed (s : State) (ts : List Task) : (s.deferAll ts).shed = s.shed := rfl
@[simp] theorem State.deferAll_seqr (s : State) (ts : List Task) : (s.deferAll ts).seqr = s.seqr := rfl
@[simp] theorem State.deferAll_orders (s : State) (ts : List Task) : (s.deferAll ts).orders = s.orders := rfl
@[simp] theorem State.deferAll_egress (s : State) (ts : List Task) : (s.deferAll ts).egress = s.egress := rfl
@[simp] theorem State.deferAll_events (s : State) (ts : List Task) : (s.deferAll ts).events = s.events := rfl
@[simp] theorem State.deferAll_service (s : State) (ts : List Task) : (s.deferAll ts).service = s.service := rfl
@[simp] theorem State.deferAll_schedule (s : State) (ts : List Task) : (s.deferAll ts).schedule = s.schedule := rfl
@[simp] theorem State.deferAll_pending (s : State) (ts : List Task) : (s.deferAll ts).pending = s.pending := rfl

/-! ### `State.latch`: a latched condition -/

@[simp] theorem State.latch_inReset (s : State) (c : Condition) : (s.latch c).inReset = s.inReset := rfl
@[simp] theorem State.latch_now (s : State) (c : Condition) : (s.latch c).now = s.now := rfl
@[simp] theorem State.latch_frame (s : State) (c : Condition) : (s.latch c).frame = s.frame := rfl
@[simp] theorem State.latch_tracker (s : State) (c : Condition) : (s.latch c).tracker = s.tracker := rfl
@[simp] theorem State.latch_units (s : State) (c : Condition) : (s.latch c).units = s.units := rfl
@[simp] theorem State.latch_lastSource (s : State) (c : Condition) : (s.latch c).lastSource = s.lastSource := rfl
@[simp] theorem State.latch_balance (s : State) (c : Condition) : (s.latch c).balance = s.balance := rfl
@[simp] theorem State.latch_alloc (s : State) (c : Condition) : (s.latch c).alloc = s.alloc := rfl
@[simp] theorem State.latch_dispatcher (s : State) (c : Condition) : (s.latch c).dispatcher = s.dispatcher := rfl
@[simp] theorem State.latch_shed (s : State) (c : Condition) : (s.latch c).shed = s.shed := rfl
@[simp] theorem State.latch_seqr (s : State) (c : Condition) : (s.latch c).seqr = s.seqr := rfl
@[simp] theorem State.latch_orders (s : State) (c : Condition) : (s.latch c).orders = s.orders := rfl
@[simp] theorem State.latch_egress (s : State) (c : Condition) : (s.latch c).egress = s.egress := rfl
@[simp] theorem State.latch_service (s : State) (c : Condition) : (s.latch c).service = s.service := rfl
@[simp] theorem State.latch_schedule (s : State) (c : Condition) : (s.latch c).schedule = s.schedule := rfl
@[simp] theorem State.latch_agenda (s : State) (c : Condition) : (s.latch c).agenda = s.agenda := rfl
@[simp] theorem State.latch_pending (s : State) (c : Condition) : (s.latch c).pending = s.pending := rfl

/-! ### `State.setTracker`: the Epoch Tracker -/

@[simp] theorem State.setTracker_inReset (s : State) (t : Tracker) : (s.setTracker t).inReset = s.inReset := rfl
@[simp] theorem State.setTracker_now (s : State) (t : Tracker) : (s.setTracker t).now = s.now := rfl
@[simp] theorem State.setTracker_frame (s : State) (t : Tracker) : (s.setTracker t).frame = s.frame := rfl
@[simp] theorem State.setTracker_units (s : State) (t : Tracker) : (s.setTracker t).units = s.units := rfl
@[simp] theorem State.setTracker_lastSource (s : State) (t : Tracker) : (s.setTracker t).lastSource = s.lastSource := rfl
@[simp] theorem State.setTracker_balance (s : State) (t : Tracker) : (s.setTracker t).balance = s.balance := rfl
@[simp] theorem State.setTracker_alloc (s : State) (t : Tracker) : (s.setTracker t).alloc = s.alloc := rfl
@[simp] theorem State.setTracker_dispatcher (s : State) (t : Tracker) : (s.setTracker t).dispatcher = s.dispatcher := rfl
@[simp] theorem State.setTracker_shed (s : State) (t : Tracker) : (s.setTracker t).shed = s.shed := rfl
@[simp] theorem State.setTracker_seqr (s : State) (t : Tracker) : (s.setTracker t).seqr = s.seqr := rfl
@[simp] theorem State.setTracker_orders (s : State) (t : Tracker) : (s.setTracker t).orders = s.orders := rfl
@[simp] theorem State.setTracker_egress (s : State) (t : Tracker) : (s.setTracker t).egress = s.egress := rfl
@[simp] theorem State.setTracker_events (s : State) (t : Tracker) : (s.setTracker t).events = s.events := rfl
@[simp] theorem State.setTracker_service (s : State) (t : Tracker) : (s.setTracker t).service = s.service := rfl
@[simp] theorem State.setTracker_schedule (s : State) (t : Tracker) : (s.setTracker t).schedule = s.schedule := rfl
@[simp] theorem State.setTracker_agenda (s : State) (t : Tracker) : (s.setTracker t).agenda = s.agenda := rfl
@[simp] theorem State.setTracker_pending (s : State) (t : Tracker) : (s.setTracker t).pending = s.pending := rfl

/-! ### `State.setDispatcher`: the Dispatcher's block items -/

@[simp] theorem State.setDispatcher_inReset (s : State) (d : Dispatcher) : (s.setDispatcher d).inReset = s.inReset := rfl
@[simp] theorem State.setDispatcher_now (s : State) (d : Dispatcher) : (s.setDispatcher d).now = s.now := rfl
@[simp] theorem State.setDispatcher_frame (s : State) (d : Dispatcher) : (s.setDispatcher d).frame = s.frame := rfl
@[simp] theorem State.setDispatcher_tracker (s : State) (d : Dispatcher) : (s.setDispatcher d).tracker = s.tracker := rfl
@[simp] theorem State.setDispatcher_units (s : State) (d : Dispatcher) : (s.setDispatcher d).units = s.units := rfl
@[simp] theorem State.setDispatcher_lastSource (s : State) (d : Dispatcher) : (s.setDispatcher d).lastSource = s.lastSource := rfl
@[simp] theorem State.setDispatcher_balance (s : State) (d : Dispatcher) : (s.setDispatcher d).balance = s.balance := rfl
@[simp] theorem State.setDispatcher_alloc (s : State) (d : Dispatcher) : (s.setDispatcher d).alloc = s.alloc := rfl
@[simp] theorem State.setDispatcher_shed (s : State) (d : Dispatcher) : (s.setDispatcher d).shed = s.shed := rfl
@[simp] theorem State.setDispatcher_seqr (s : State) (d : Dispatcher) : (s.setDispatcher d).seqr = s.seqr := rfl
@[simp] theorem State.setDispatcher_orders (s : State) (d : Dispatcher) : (s.setDispatcher d).orders = s.orders := rfl
@[simp] theorem State.setDispatcher_egress (s : State) (d : Dispatcher) : (s.setDispatcher d).egress = s.egress := rfl
@[simp] theorem State.setDispatcher_events (s : State) (d : Dispatcher) : (s.setDispatcher d).events = s.events := rfl
@[simp] theorem State.setDispatcher_service (s : State) (d : Dispatcher) : (s.setDispatcher d).service = s.service := rfl
@[simp] theorem State.setDispatcher_schedule (s : State) (d : Dispatcher) : (s.setDispatcher d).schedule = s.schedule := rfl
@[simp] theorem State.setDispatcher_agenda (s : State) (d : Dispatcher) : (s.setDispatcher d).agenda = s.agenda := rfl
@[simp] theorem State.setDispatcher_pending (s : State) (d : Dispatcher) : (s.setDispatcher d).pending = s.pending := rfl

/-! ### `State.setShedBlock`: the Shed Controller's block items -/

@[simp] theorem State.setShedBlock_inReset (s : State) (b : Shed) : (s.setShedBlock b).inReset = s.inReset := rfl
@[simp] theorem State.setShedBlock_now (s : State) (b : Shed) : (s.setShedBlock b).now = s.now := rfl
@[simp] theorem State.setShedBlock_frame (s : State) (b : Shed) : (s.setShedBlock b).frame = s.frame := rfl
@[simp] theorem State.setShedBlock_tracker (s : State) (b : Shed) : (s.setShedBlock b).tracker = s.tracker := rfl
@[simp] theorem State.setShedBlock_units (s : State) (b : Shed) : (s.setShedBlock b).units = s.units := rfl
@[simp] theorem State.setShedBlock_lastSource (s : State) (b : Shed) : (s.setShedBlock b).lastSource = s.lastSource := rfl
@[simp] theorem State.setShedBlock_balance (s : State) (b : Shed) : (s.setShedBlock b).balance = s.balance := rfl
@[simp] theorem State.setShedBlock_alloc (s : State) (b : Shed) : (s.setShedBlock b).alloc = s.alloc := rfl
@[simp] theorem State.setShedBlock_dispatcher (s : State) (b : Shed) : (s.setShedBlock b).dispatcher = s.dispatcher := rfl
@[simp] theorem State.setShedBlock_seqr (s : State) (b : Shed) : (s.setShedBlock b).seqr = s.seqr := rfl
@[simp] theorem State.setShedBlock_orders (s : State) (b : Shed) : (s.setShedBlock b).orders = s.orders := rfl
@[simp] theorem State.setShedBlock_egress (s : State) (b : Shed) : (s.setShedBlock b).egress = s.egress := rfl
@[simp] theorem State.setShedBlock_events (s : State) (b : Shed) : (s.setShedBlock b).events = s.events := rfl
@[simp] theorem State.setShedBlock_service (s : State) (b : Shed) : (s.setShedBlock b).service = s.service := rfl
@[simp] theorem State.setShedBlock_schedule (s : State) (b : Shed) : (s.setShedBlock b).schedule = s.schedule := rfl
@[simp] theorem State.setShedBlock_agenda (s : State) (b : Shed) : (s.setShedBlock b).agenda = s.agenda := rfl
@[simp] theorem State.setShedBlock_pending (s : State) (b : Shed) : (s.setShedBlock b).pending = s.pending := rfl

/-! ### `State.setBuffer`: a forwarding buffer -/

@[simp] theorem State.setBuffer_inReset (s : State) (p : Port) (b : List Place) : (s.setBuffer p b).inReset = s.inReset := by cases p <;> rfl
@[simp] theorem State.setBuffer_now (s : State) (p : Port) (b : List Place) : (s.setBuffer p b).now = s.now := by cases p <;> rfl
@[simp] theorem State.setBuffer_tracker (s : State) (p : Port) (b : List Place) : (s.setBuffer p b).tracker = s.tracker := by cases p <;> rfl
@[simp] theorem State.setBuffer_units (s : State) (p : Port) (b : List Place) : (s.setBuffer p b).units = s.units := by cases p <;> rfl
@[simp] theorem State.setBuffer_lastSource (s : State) (p : Port) (b : List Place) : (s.setBuffer p b).lastSource = s.lastSource := by cases p <;> rfl
@[simp] theorem State.setBuffer_balance (s : State) (p : Port) (b : List Place) : (s.setBuffer p b).balance = s.balance := by cases p <;> rfl
@[simp] theorem State.setBuffer_alloc (s : State) (p : Port) (b : List Place) : (s.setBuffer p b).alloc = s.alloc := by cases p <;> rfl
@[simp] theorem State.setBuffer_dispatcher (s : State) (p : Port) (b : List Place) : (s.setBuffer p b).dispatcher = s.dispatcher := by cases p <;> rfl
@[simp] theorem State.setBuffer_shed (s : State) (p : Port) (b : List Place) : (s.setBuffer p b).shed = s.shed := by cases p <;> rfl
@[simp] theorem State.setBuffer_seqr (s : State) (p : Port) (b : List Place) : (s.setBuffer p b).seqr = s.seqr := by cases p <;> rfl
@[simp] theorem State.setBuffer_orders (s : State) (p : Port) (b : List Place) : (s.setBuffer p b).orders = s.orders := by cases p <;> rfl
@[simp] theorem State.setBuffer_egress (s : State) (p : Port) (b : List Place) : (s.setBuffer p b).egress = s.egress := by cases p <;> rfl
@[simp] theorem State.setBuffer_events (s : State) (p : Port) (b : List Place) : (s.setBuffer p b).events = s.events := by cases p <;> rfl
@[simp] theorem State.setBuffer_service (s : State) (p : Port) (b : List Place) : (s.setBuffer p b).service = s.service := by cases p <;> rfl
@[simp] theorem State.setBuffer_schedule (s : State) (p : Port) (b : List Place) : (s.setBuffer p b).schedule = s.schedule := by cases p <;> rfl
@[simp] theorem State.setBuffer_agenda (s : State) (p : Port) (b : List Place) : (s.setBuffer p b).agenda = s.agenda := by cases p <;> rfl
@[simp] theorem State.setBuffer_pending (s : State) (p : Port) (b : List Place) : (s.setBuffer p b).pending = s.pending := by cases p <;> rfl

/-! ### `State.setRx`: a receiver -/

@[simp] theorem State.setRx_inReset (s : State) (p : Port) (x : Rx) : (s.setRx p x).inReset = s.inReset := by cases p <;> rfl
@[simp] theorem State.setRx_now (s : State) (p : Port) (x : Rx) : (s.setRx p x).now = s.now := by cases p <;> rfl
@[simp] theorem State.setRx_tracker (s : State) (p : Port) (x : Rx) : (s.setRx p x).tracker = s.tracker := by cases p <;> rfl
@[simp] theorem State.setRx_units (s : State) (p : Port) (x : Rx) : (s.setRx p x).units = s.units := by cases p <;> rfl
@[simp] theorem State.setRx_lastSource (s : State) (p : Port) (x : Rx) : (s.setRx p x).lastSource = s.lastSource := by cases p <;> rfl
@[simp] theorem State.setRx_balance (s : State) (p : Port) (x : Rx) : (s.setRx p x).balance = s.balance := by cases p <;> rfl
@[simp] theorem State.setRx_alloc (s : State) (p : Port) (x : Rx) : (s.setRx p x).alloc = s.alloc := by cases p <;> rfl
@[simp] theorem State.setRx_dispatcher (s : State) (p : Port) (x : Rx) : (s.setRx p x).dispatcher = s.dispatcher := by cases p <;> rfl
@[simp] theorem State.setRx_shed (s : State) (p : Port) (x : Rx) : (s.setRx p x).shed = s.shed := by cases p <;> rfl
@[simp] theorem State.setRx_seqr (s : State) (p : Port) (x : Rx) : (s.setRx p x).seqr = s.seqr := by cases p <;> rfl
@[simp] theorem State.setRx_orders (s : State) (p : Port) (x : Rx) : (s.setRx p x).orders = s.orders := by cases p <;> rfl
@[simp] theorem State.setRx_egress (s : State) (p : Port) (x : Rx) : (s.setRx p x).egress = s.egress := by cases p <;> rfl
@[simp] theorem State.setRx_events (s : State) (p : Port) (x : Rx) : (s.setRx p x).events = s.events := by cases p <;> rfl
@[simp] theorem State.setRx_service (s : State) (p : Port) (x : Rx) : (s.setRx p x).service = s.service := by cases p <;> rfl
@[simp] theorem State.setRx_schedule (s : State) (p : Port) (x : Rx) : (s.setRx p x).schedule = s.schedule := by cases p <;> rfl
@[simp] theorem State.setRx_agenda (s : State) (p : Port) (x : Rx) : (s.setRx p x).agenda = s.agenda := by cases p <;> rfl
@[simp] theorem State.setRx_pending (s : State) (p : Port) (x : Rx) : (s.setRx p x).pending = s.pending := by cases p <;> rfl

/-! ### `State.setTx`: a transmitter -/

@[simp] theorem State.setTx_inReset (s : State) (p : Port) (x : Tx) : (s.setTx p x).inReset = s.inReset := by cases p <;> rfl
@[simp] theorem State.setTx_now (s : State) (p : Port) (x : Tx) : (s.setTx p x).now = s.now := by cases p <;> rfl
@[simp] theorem State.setTx_tracker (s : State) (p : Port) (x : Tx) : (s.setTx p x).tracker = s.tracker := by cases p <;> rfl
@[simp] theorem State.setTx_units (s : State) (p : Port) (x : Tx) : (s.setTx p x).units = s.units := by cases p <;> rfl
@[simp] theorem State.setTx_lastSource (s : State) (p : Port) (x : Tx) : (s.setTx p x).lastSource = s.lastSource := by cases p <;> rfl
@[simp] theorem State.setTx_balance (s : State) (p : Port) (x : Tx) : (s.setTx p x).balance = s.balance := by cases p <;> rfl
@[simp] theorem State.setTx_alloc (s : State) (p : Port) (x : Tx) : (s.setTx p x).alloc = s.alloc := by cases p <;> rfl
@[simp] theorem State.setTx_dispatcher (s : State) (p : Port) (x : Tx) : (s.setTx p x).dispatcher = s.dispatcher := by cases p <;> rfl
@[simp] theorem State.setTx_shed (s : State) (p : Port) (x : Tx) : (s.setTx p x).shed = s.shed := by cases p <;> rfl
@[simp] theorem State.setTx_seqr (s : State) (p : Port) (x : Tx) : (s.setTx p x).seqr = s.seqr := by cases p <;> rfl
@[simp] theorem State.setTx_orders (s : State) (p : Port) (x : Tx) : (s.setTx p x).orders = s.orders := by cases p <;> rfl
@[simp] theorem State.setTx_egress (s : State) (p : Port) (x : Tx) : (s.setTx p x).egress = s.egress := by cases p <;> rfl
@[simp] theorem State.setTx_events (s : State) (p : Port) (x : Tx) : (s.setTx p x).events = s.events := by cases p <;> rfl
@[simp] theorem State.setTx_service (s : State) (p : Port) (x : Tx) : (s.setTx p x).service = s.service := by cases p <;> rfl
@[simp] theorem State.setTx_schedule (s : State) (p : Port) (x : Tx) : (s.setTx p x).schedule = s.schedule := by cases p <;> rfl
@[simp] theorem State.setTx_agenda (s : State) (p : Port) (x : Tx) : (s.setTx p x).agenda = s.agenda := by cases p <;> rfl
@[simp] theorem State.setTx_pending (s : State) (p : Port) (x : Tx) : (s.setTx p x).pending = s.pending := by cases p <;> rfl

/-! ### `holdPlace`: the place held for a response -/

@[simp] theorem holdPlace_inReset (s : State) (b : Bool) : (holdPlace s b).inReset = s.inReset := rfl
@[simp] theorem holdPlace_now (s : State) (b : Bool) : (holdPlace s b).now = s.now := rfl
@[simp] theorem holdPlace_frame (s : State) (b : Bool) : (holdPlace s b).frame = s.frame := rfl
@[simp] theorem holdPlace_tracker (s : State) (b : Bool) : (holdPlace s b).tracker = s.tracker := rfl
@[simp] theorem holdPlace_units (s : State) (b : Bool) : (holdPlace s b).units = s.units := rfl
@[simp] theorem holdPlace_lastSource (s : State) (b : Bool) : (holdPlace s b).lastSource = s.lastSource := rfl
@[simp] theorem holdPlace_balance (s : State) (b : Bool) : (holdPlace s b).balance = s.balance := rfl
@[simp] theorem holdPlace_alloc (s : State) (b : Bool) : (holdPlace s b).alloc = s.alloc := rfl
@[simp] theorem holdPlace_dispatcher (s : State) (b : Bool) : (holdPlace s b).dispatcher = s.dispatcher := rfl
@[simp] theorem holdPlace_shed (s : State) (b : Bool) : (holdPlace s b).shed = s.shed := rfl
@[simp] theorem holdPlace_seqr (s : State) (b : Bool) : (holdPlace s b).seqr = s.seqr := rfl
@[simp] theorem holdPlace_orders (s : State) (b : Bool) : (holdPlace s b).orders = s.orders := rfl
@[simp] theorem holdPlace_events (s : State) (b : Bool) : (holdPlace s b).events = s.events := rfl
@[simp] theorem holdPlace_service (s : State) (b : Bool) : (holdPlace s b).service = s.service := rfl
@[simp] theorem holdPlace_schedule (s : State) (b : Bool) : (holdPlace s b).schedule = s.schedule := rfl
@[simp] theorem holdPlace_agenda (s : State) (b : Bool) : (holdPlace s b).agenda = s.agenda := rfl
@[simp] theorem holdPlace_pending (s : State) (b : Bool) : (holdPlace s b).pending = s.pending := rfl

/-! ### `popRequest`: the head of the Service Queue -/

@[simp] theorem popRequest_inReset (s : State) (rest : List Request) : (popRequest s rest).inReset = s.inReset := rfl
@[simp] theorem popRequest_now (s : State) (rest : List Request) : (popRequest s rest).now = s.now := rfl
@[simp] theorem popRequest_frame (s : State) (rest : List Request) : (popRequest s rest).frame = s.frame := rfl
@[simp] theorem popRequest_tracker (s : State) (rest : List Request) : (popRequest s rest).tracker = s.tracker := rfl
@[simp] theorem popRequest_units (s : State) (rest : List Request) : (popRequest s rest).units = s.units := rfl
@[simp] theorem popRequest_lastSource (s : State) (rest : List Request) : (popRequest s rest).lastSource = s.lastSource := rfl
@[simp] theorem popRequest_balance (s : State) (rest : List Request) : (popRequest s rest).balance = s.balance := rfl
@[simp] theorem popRequest_alloc (s : State) (rest : List Request) : (popRequest s rest).alloc = s.alloc := rfl
@[simp] theorem popRequest_dispatcher (s : State) (rest : List Request) : (popRequest s rest).dispatcher = s.dispatcher := rfl
@[simp] theorem popRequest_shed (s : State) (rest : List Request) : (popRequest s rest).shed = s.shed := rfl
@[simp] theorem popRequest_seqr (s : State) (rest : List Request) : (popRequest s rest).seqr = s.seqr := rfl
@[simp] theorem popRequest_orders (s : State) (rest : List Request) : (popRequest s rest).orders = s.orders := rfl
@[simp] theorem popRequest_egress (s : State) (rest : List Request) : (popRequest s rest).egress = s.egress := rfl
@[simp] theorem popRequest_events (s : State) (rest : List Request) : (popRequest s rest).events = s.events := rfl
@[simp] theorem popRequest_schedule (s : State) (rest : List Request) : (popRequest s rest).schedule = s.schedule := rfl
@[simp] theorem popRequest_agenda (s : State) (rest : List Request) : (popRequest s rest).agenda = s.agenda := rfl
@[simp] theorem popRequest_pending (s : State) (rest : List Request) : (popRequest s rest).pending = s.pending := rfl

/-! ### `takeDelivery`: a delivery taken -/

@[simp] theorem takeDelivery_inReset (s : State) (d : Delivery) : (takeDelivery s d).inReset = s.inReset := rfl
@[simp] theorem takeDelivery_now (s : State) (d : Delivery) : (takeDelivery s d).now = s.now := rfl
@[simp] theorem takeDelivery_tracker (s : State) (d : Delivery) : (takeDelivery s d).tracker = s.tracker := rfl
@[simp] theorem takeDelivery_units (s : State) (d : Delivery) : (takeDelivery s d).units = s.units := rfl
@[simp] theorem takeDelivery_lastSource (s : State) (d : Delivery) : (takeDelivery s d).lastSource = s.lastSource := rfl
@[simp] theorem takeDelivery_balance (s : State) (d : Delivery) : (takeDelivery s d).balance = s.balance := rfl
@[simp] theorem takeDelivery_alloc (s : State) (d : Delivery) : (takeDelivery s d).alloc = s.alloc := rfl
@[simp] theorem takeDelivery_dispatcher (s : State) (d : Delivery) : (takeDelivery s d).dispatcher = s.dispatcher := rfl
@[simp] theorem takeDelivery_shed (s : State) (d : Delivery) : (takeDelivery s d).shed = s.shed := rfl
@[simp] theorem takeDelivery_seqr (s : State) (d : Delivery) : (takeDelivery s d).seqr = s.seqr := rfl
@[simp] theorem takeDelivery_orders (s : State) (d : Delivery) : (takeDelivery s d).orders = s.orders := rfl
@[simp] theorem takeDelivery_egress (s : State) (d : Delivery) : (takeDelivery s d).egress = s.egress := rfl
@[simp] theorem takeDelivery_events (s : State) (d : Delivery) : (takeDelivery s d).events = s.events := rfl
@[simp] theorem takeDelivery_service (s : State) (d : Delivery) : (takeDelivery s d).service = s.service := rfl
@[simp] theorem takeDelivery_schedule (s : State) (d : Delivery) : (takeDelivery s d).schedule = s.schedule := rfl
@[simp] theorem takeDelivery_agenda (s : State) (d : Delivery) : (takeDelivery s d).agenda = s.agenda := rfl
@[simp] theorem takeDelivery_pending (s : State) (d : Delivery) : (takeDelivery s d).pending = s.pending := rfl

/-! ### `setTimer`: a stage timer -/

@[simp] theorem setTimer_inReset (s : State) (n : Fin 6) (t : Timer) : (setTimer s n t).inReset = s.inReset := rfl
@[simp] theorem setTimer_now (s : State) (n : Fin 6) (t : Timer) : (setTimer s n t).now = s.now := rfl
@[simp] theorem setTimer_frame (s : State) (n : Fin 6) (t : Timer) : (setTimer s n t).frame = s.frame := rfl
@[simp] theorem setTimer_tracker (s : State) (n : Fin 6) (t : Timer) : (setTimer s n t).tracker = s.tracker := rfl
@[simp] theorem setTimer_units (s : State) (n : Fin 6) (t : Timer) : (setTimer s n t).units = s.units := rfl
@[simp] theorem setTimer_lastSource (s : State) (n : Fin 6) (t : Timer) : (setTimer s n t).lastSource = s.lastSource := rfl
@[simp] theorem setTimer_balance (s : State) (n : Fin 6) (t : Timer) : (setTimer s n t).balance = s.balance := rfl
@[simp] theorem setTimer_alloc (s : State) (n : Fin 6) (t : Timer) : (setTimer s n t).alloc = s.alloc := rfl
@[simp] theorem setTimer_dispatcher (s : State) (n : Fin 6) (t : Timer) : (setTimer s n t).dispatcher = s.dispatcher := rfl
@[simp] theorem setTimer_seqr (s : State) (n : Fin 6) (t : Timer) : (setTimer s n t).seqr = s.seqr := rfl
@[simp] theorem setTimer_orders (s : State) (n : Fin 6) (t : Timer) : (setTimer s n t).orders = s.orders := rfl
@[simp] theorem setTimer_egress (s : State) (n : Fin 6) (t : Timer) : (setTimer s n t).egress = s.egress := rfl
@[simp] theorem setTimer_events (s : State) (n : Fin 6) (t : Timer) : (setTimer s n t).events = s.events := rfl
@[simp] theorem setTimer_service (s : State) (n : Fin 6) (t : Timer) : (setTimer s n t).service = s.service := rfl
@[simp] theorem setTimer_schedule (s : State) (n : Fin 6) (t : Timer) : (setTimer s n t).schedule = s.schedule := rfl
@[simp] theorem setTimer_agenda (s : State) (n : Fin 6) (t : Timer) : (setTimer s n t).agenda = s.agenda := rfl
@[simp] theorem setTimer_pending (s : State) (n : Fin 6) (t : Timer) : (setTimer s n t).pending = s.pending := rfl

/-! ### `setShortfall`: the last shortfall -/

@[simp] theorem setShortfall_inReset (s : State) (n : Nat) : (setShortfall s n).inReset = s.inReset := rfl
@[simp] theorem setShortfall_now (s : State) (n : Nat) : (setShortfall s n).now = s.now := rfl
@[simp] theorem setShortfall_frame (s : State) (n : Nat) : (setShortfall s n).frame = s.frame := rfl
@[simp] theorem setShortfall_tracker (s : State) (n : Nat) : (setShortfall s n).tracker = s.tracker := rfl
@[simp] theorem setShortfall_units (s : State) (n : Nat) : (setShortfall s n).units = s.units := rfl
@[simp] theorem setShortfall_lastSource (s : State) (n : Nat) : (setShortfall s n).lastSource = s.lastSource := rfl
@[simp] theorem setShortfall_balance (s : State) (n : Nat) : (setShortfall s n).balance = s.balance := rfl
@[simp] theorem setShortfall_dispatcher (s : State) (n : Nat) : (setShortfall s n).dispatcher = s.dispatcher := rfl
@[simp] theorem setShortfall_shed (s : State) (n : Nat) : (setShortfall s n).shed = s.shed := rfl
@[simp] theorem setShortfall_seqr (s : State) (n : Nat) : (setShortfall s n).seqr = s.seqr := rfl
@[simp] theorem setShortfall_orders (s : State) (n : Nat) : (setShortfall s n).orders = s.orders := rfl
@[simp] theorem setShortfall_egress (s : State) (n : Nat) : (setShortfall s n).egress = s.egress := rfl
@[simp] theorem setShortfall_events (s : State) (n : Nat) : (setShortfall s n).events = s.events := rfl
@[simp] theorem setShortfall_service (s : State) (n : Nat) : (setShortfall s n).service = s.service := rfl
@[simp] theorem setShortfall_schedule (s : State) (n : Nat) : (setShortfall s n).schedule = s.schedule := rfl
@[simp] theorem setShortfall_agenda (s : State) (n : Nat) : (setShortfall s n).agenda = s.agenda := rfl
@[simp] theorem setShortfall_pending (s : State) (n : Nat) : (setShortfall s n).pending = s.pending := rfl

/-! ### `dropLimit`: the plan PV limit -/

@[simp] theorem dropLimit_inReset (s : State)  : (dropLimit s).inReset = s.inReset := rfl
@[simp] theorem dropLimit_now (s : State)  : (dropLimit s).now = s.now := rfl
@[simp] theorem dropLimit_frame (s : State)  : (dropLimit s).frame = s.frame := rfl
@[simp] theorem dropLimit_tracker (s : State)  : (dropLimit s).tracker = s.tracker := rfl
@[simp] theorem dropLimit_units (s : State)  : (dropLimit s).units = s.units := rfl
@[simp] theorem dropLimit_lastSource (s : State)  : (dropLimit s).lastSource = s.lastSource := rfl
@[simp] theorem dropLimit_balance (s : State)  : (dropLimit s).balance = s.balance := rfl
@[simp] theorem dropLimit_dispatcher (s : State)  : (dropLimit s).dispatcher = s.dispatcher := rfl
@[simp] theorem dropLimit_shed (s : State)  : (dropLimit s).shed = s.shed := rfl
@[simp] theorem dropLimit_seqr (s : State)  : (dropLimit s).seqr = s.seqr := rfl
@[simp] theorem dropLimit_orders (s : State)  : (dropLimit s).orders = s.orders := rfl
@[simp] theorem dropLimit_egress (s : State)  : (dropLimit s).egress = s.egress := rfl
@[simp] theorem dropLimit_events (s : State)  : (dropLimit s).events = s.events := rfl
@[simp] theorem dropLimit_service (s : State)  : (dropLimit s).service = s.service := rfl
@[simp] theorem dropLimit_schedule (s : State)  : (dropLimit s).schedule = s.schedule := rfl
@[simp] theorem dropLimit_agenda (s : State)  : (dropLimit s).agenda = s.agenda := rfl
@[simp] theorem dropLimit_pending (s : State)  : (dropLimit s).pending = s.pending := rfl

/-! ### `tripReport`: a trip report -/

@[simp] theorem tripReport_inReset (s : State)  : (tripReport s).inReset = s.inReset := rfl
@[simp] theorem tripReport_now (s : State)  : (tripReport s).now = s.now := rfl
@[simp] theorem tripReport_frame (s : State)  : (tripReport s).frame = s.frame := rfl
@[simp] theorem tripReport_tracker (s : State)  : (tripReport s).tracker = s.tracker := rfl
@[simp] theorem tripReport_units (s : State)  : (tripReport s).units = s.units := rfl
@[simp] theorem tripReport_lastSource (s : State)  : (tripReport s).lastSource = s.lastSource := rfl
@[simp] theorem tripReport_alloc (s : State)  : (tripReport s).alloc = s.alloc := rfl
@[simp] theorem tripReport_dispatcher (s : State)  : (tripReport s).dispatcher = s.dispatcher := rfl
@[simp] theorem tripReport_shed (s : State)  : (tripReport s).shed = s.shed := rfl
@[simp] theorem tripReport_seqr (s : State)  : (tripReport s).seqr = s.seqr := rfl
@[simp] theorem tripReport_orders (s : State)  : (tripReport s).orders = s.orders := rfl
@[simp] theorem tripReport_egress (s : State)  : (tripReport s).egress = s.egress := rfl
@[simp] theorem tripReport_events (s : State)  : (tripReport s).events = s.events := rfl
@[simp] theorem tripReport_service (s : State)  : (tripReport s).service = s.service := rfl
@[simp] theorem tripReport_schedule (s : State)  : (tripReport s).schedule = s.schedule := rfl
@[simp] theorem tripReport_agenda (s : State)  : (tripReport s).agenda = s.agenda := rfl
@[simp] theorem tripReport_pending (s : State)  : (tripReport s).pending = s.pending := rfl

/-! ### `setRetry`: start retry pending -/

@[simp] theorem setRetry_inReset (s : State) (b : Bool) : (setRetry s b).inReset = s.inReset := rfl
@[simp] theorem setRetry_now (s : State) (b : Bool) : (setRetry s b).now = s.now := rfl
@[simp] theorem setRetry_frame (s : State) (b : Bool) : (setRetry s b).frame = s.frame := rfl
@[simp] theorem setRetry_tracker (s : State) (b : Bool) : (setRetry s b).tracker = s.tracker := rfl
@[simp] theorem setRetry_units (s : State) (b : Bool) : (setRetry s b).units = s.units := rfl
@[simp] theorem setRetry_lastSource (s : State) (b : Bool) : (setRetry s b).lastSource = s.lastSource := rfl
@[simp] theorem setRetry_balance (s : State) (b : Bool) : (setRetry s b).balance = s.balance := rfl
@[simp] theorem setRetry_alloc (s : State) (b : Bool) : (setRetry s b).alloc = s.alloc := rfl
@[simp] theorem setRetry_shed (s : State) (b : Bool) : (setRetry s b).shed = s.shed := rfl
@[simp] theorem setRetry_seqr (s : State) (b : Bool) : (setRetry s b).seqr = s.seqr := rfl
@[simp] theorem setRetry_orders (s : State) (b : Bool) : (setRetry s b).orders = s.orders := rfl
@[simp] theorem setRetry_egress (s : State) (b : Bool) : (setRetry s b).egress = s.egress := rfl
@[simp] theorem setRetry_events (s : State) (b : Bool) : (setRetry s b).events = s.events := rfl
@[simp] theorem setRetry_service (s : State) (b : Bool) : (setRetry s b).service = s.service := rfl
@[simp] theorem setRetry_schedule (s : State) (b : Bool) : (setRetry s b).schedule = s.schedule := rfl
@[simp] theorem setRetry_agenda (s : State) (b : Bool) : (setRetry s b).agenda = s.agenda := rfl
@[simp] theorem setRetry_pending (s : State) (b : Bool) : (setRetry s b).pending = s.pending := rfl

/-! ### What an update puts in its place -/

@[simp] theorem State.setUnit_units (s : State) (u : UnitNo) (r : UnitRec) : (s.setUnit u r).units = s.units.set u r := rfl
@[simp] theorem State.setProgress_progress (s : State) (p : Progress) : (s.setProgress p).progress = p := rfl
@[simp] theorem State.setProgress_seqr (s : State) (p : Progress) : (s.setProgress p).seqr = { s.seqr with progress := p } := rfl
@[simp] theorem State.setTracker_tracker (s : State) (t : Tracker) : (s.setTracker t).tracker = t := rfl
@[simp] theorem State.setDispatcher_dispatcher (s : State) (d : Dispatcher) : (s.setDispatcher d).dispatcher = d := rfl
@[simp] theorem State.setShedBlock_shed (s : State) (b : Shed) : (s.setShedBlock b).shed = b := rfl
@[simp] theorem State.defer_agenda (s : State) (t : Task) : (s.defer t).agenda = s.agenda ++ [t] := rfl
@[simp] theorem State.deferAll_agenda (s : State) (ts : List Task) : (s.deferAll ts).agenda = s.agenda ++ ts := rfl
@[simp] theorem State.setSlot_counters (s : State) (i : SlotNo) (o : Option Order) :
    (s.setSlot i o).orders.counters = s.orders.counters := rfl
@[simp] theorem State.setSlot_waiting (s : State) (i : SlotNo) (o : Option Order) :
    (s.setSlot i o).orders.waiting = s.orders.waiting := rfl
@[simp] theorem State.setSlot_slots (s : State) (i : SlotNo) (o : Option Order) :
    (s.setSlot i o).orders.slots = s.orders.slots.set i o := rfl
@[simp] theorem State.latch_latched (s : State) (c : Condition) :
    (s.latch c).events.latched = s.events.latched ||| BitVec.twoPow 14 c.code := rfl
@[simp] theorem State.latch_log (s : State) (c : Condition) : (s.latch c).events.log = s.events.log := rfl
@[simp] theorem State.latch_writeIndex (s : State) (c : Condition) : (s.latch c).events.writeIndex = s.events.writeIndex := rfl
@[simp] theorem State.latch_overflow (s : State) (c : Condition) : (s.latch c).events.overflow = s.events.overflow := rfl
@[simp] theorem State.latch_routing (s : State) (c : Condition) : (s.latch c).events.routing = s.events.routing := rfl
@[simp] theorem popRequest_service (s : State) (rest : List Request) :
    (popRequest s rest).service = { s.service with queue := rest } := rfl
@[simp] theorem holdPlace_egress (s : State) (b : Bool) : (holdPlace s b).egress = { s.egress with held := b } := rfl

/-! ### The link address (R45) -/

@[simp] theorem UnitRec.asRead_link (r : UnitRec) : r.asRead.link = some r.linkAddr := rfl
@[simp] theorem UnitRec.asRead_linkAddr (r : UnitRec) : r.asRead.linkAddr = r.linkAddr := rfl
@[simp] theorem UnitRec.asRead_kind (r : UnitRec) : r.asRead.kind = r.kind := rfl
@[simp] theorem UnitRec.asRead_live (r : UnitRec) : r.asRead.live = r.live := rfl
@[simp] theorem withLink_link (r : UnitRec) (a : Addr) : (withLink r a).link = some a := rfl
@[simp] theorem withLink_linkAddr (r : UnitRec) (a : Addr) : (withLink r a).linkAddr = a := rfl
@[simp] theorem withLink_kind (r : UnitRec) (a : Addr) : (withLink r a).kind = r.kind := rfl
@[simp] theorem withLink_gensetJob (r : UnitRec) (a : Addr) : (withLink r a).gensetJob = r.gensetJob := rfl
@[simp] theorem withLink_pvJob (r : UnitRec) (a : Addr) : (withLink r a).pvJob = r.pvJob := rfl
@[simp] theorem withLink_feederJob (r : UnitRec) (a : Addr) : (withLink r a).feederJob = r.feederJob := rfl

end Sys2Proof.Machine
end

