-- ==== Sys2Proof/Laws/Ops.lean ====
section
/-! SUPPORT. Reading back what the shared operations of Machine/Ops.lean write: unit records, Order Slots and ports. -/

namespace Sys2Proof.Machine

/-! ### Vectors -/

/-- A vector's entry by a bounded index is its entry by the index's number. -/
theorem vectorGet {α : Type} {n : Nat} (v : Vector α n) (i : Fin n) : v.get i = v[i.val] := rfl

/-- What an entry written reads as, for every index. -/
theorem vectorGet_set {α : Type} {n : Nat} (v : Vector α n) (i j : Fin n) (x : α) :
    (v.set i x).get j = if j = i then x else v.get j := by
  simp only [vectorGet, Vector.getElem_set, Fin.ext_iff, eq_comm]

/-! ### Unit records -/

@[simp] theorem unit_setUnit_self (s : State) (u : UnitNo) (r : UnitRec) : (s.setUnit u r).unit u = r := by
  simp [State.unit, State.setUnit, vectorGet_set]

theorem unit_setUnit_ne {u v : UnitNo} (h : v ≠ u) (s : State) (r : UnitRec) : (s.setUnit u r).unit v = s.unit v := by
  simp [State.unit, State.setUnit, vectorGet_set, h]

/-- What a replaced record reads as, for every unit. -/
theorem unit_setUnit (s : State) (u v : UnitNo) (r : UnitRec) :
    (s.setUnit u r).unit v = if v = u then r else s.unit v := by
  split
  · next h => subst h; exact unit_setUnit_self s v r
  · next h => exact unit_setUnit_ne h s r

theorem unit_setLive (s : State) (u v : UnitNo) (l : Live) :
    (s.setLive u l).unit v = if v = u then { s.unit u with live := l } else s.unit v := unit_setUnit s u v _

theorem unit_setGenset (s : State) (u v : UnitNo) (j : GensetJob) :
    (s.setGenset u j).unit v = if v = u then { s.unit u with gensetJob := j } else s.unit v := unit_setUnit s u v _

theorem unit_setPv (s : State) (u v : UnitNo) (j : PvJob) :
    (s.setPv u j).unit v = if v = u then { s.unit u with pvJob := j } else s.unit v := unit_setUnit s u v _

theorem unit_setFeeder (s : State) (u v : UnitNo) (j : FeederJob) :
    (s.setFeeder u j).unit v = if v = u then { s.unit u with feederJob := j } else s.unit v := unit_setUnit s u v _

/-- A state whose unit records are another's reads the same records. -/
theorem unit_of_units {s t : State} (h : t.units = s.units) (u : UnitNo) : t.unit u = s.unit u := by
  simp [State.unit, h]

/-! ### Order Slots -/

@[simp] theorem slot_setSlot_self (s : State) (i : SlotNo) (o : Option Order) : (s.setSlot i o).slot i = o := by
  simp [State.slot, State.setSlot, vectorGet_set]

theorem slot_setSlot_ne {i j : SlotNo} (h : j ≠ i) (s : State) (o : Option Order) : (s.setSlot i o).slot j = s.slot j := by
  simp [State.slot, State.setSlot, vectorGet_set, h]

/-- What a slot written reads as, for every slot. -/
theorem slot_setSlot (s : State) (i j : SlotNo) (o : Option Order) :
    (s.setSlot i o).slot j = if j = i then o else s.slot j := by
  split
  · next h => subst h; exact slot_setSlot_self s j o
  · next h => exact slot_setSlot_ne h s o

/-- A state whose slots are another's reads the same orders. -/
theorem slot_of_slots {s t : State} (h : t.orders.slots = s.orders.slots) (i : SlotNo) : t.slot i = s.slot i := by
  simp [State.slot, h]

@[simp] theorem slot_dequeue (s : State) (i j : SlotNo) : (s.dequeue i).slot j = s.slot j := rfl

theorem slot_setQueue (s : State) (c : QClass) (q : List SlotNo) (j : SlotNo) : (s.setQueue c q).slot j = s.slot j := by
  cases c <;> rfl

theorem slot_setPort (s : State) (p : Port) (q : PortPath) (j : SlotNo) : (s.setPort p q).slot j = s.slot j := by
  cases p <;> rfl

/-! ### Ports -/

@[simp] theorem port_setPort_self (s : State) (p : Port) (q : PortPath) : (s.setPort p q).port p = q := by
  cases p <;> rfl

@[simp] theorem port_setPort_other (s : State) (p : Port) (q : PortPath) : (s.setPort p q).port p.other = s.port p.other := by
  cases p <;> rfl

theorem port_setPort_ne {p p' : Port} (h : p' ≠ p) (s : State) (q : PortPath) : (s.setPort p q).port p' = s.port p' := by
  cases p <;> cases p' <;> first | rfl | exact absurd rfl h

@[simp] theorem Port.other_other (p : Port) : p.other.other = p := by cases p <;> rfl

theorem Port.other_ne (p : Port) : p.other ≠ p := by cases p <;> decide

theorem setPort_station (s : State) (p : Port) (q : PortPath) : (s.setPort p q).frame.station = s.frame.station := by
  cases p <;> rfl

theorem setPort_delivered (s : State) (p : Port) (q : PortPath) : (s.setPort p q).frame.delivered = s.frame.delivered := by
  cases p <;> rfl

/-! ### Lists of units -/

theorem mem_allUnits (u : UnitNo) : u ∈ allUnits := List.mem_finRange u

theorem mem_allSlots (i : SlotNo) : i ∈ allSlots := List.mem_finRange i

theorem insertBy_perm (key : UnitNo → Nat) (u : UnitNo) (l : List UnitNo) : (insertBy key u l).Perm (u :: l) := by
  induction l with
  | nil => exact .rfl
  | cons v vs ih =>
    unfold insertBy
    split
    · exact (ih.cons v).trans (.swap u v vs)
    · exact .rfl

/-- Sorting keeps the units. -/
theorem sortBy_perm (key : UnitNo → Nat) (us : List UnitNo) : (sortBy key us).Perm us := by
  have main : ∀ (us acc : List UnitNo), (us.foldl (fun a u => insertBy key u a) acc).Perm (us ++ acc) := by
    intro us
    induction us with
    | nil => intro acc; exact .rfl
    | cons u us ih =>
      intro acc
      refine (ih _).trans ?_
      refine ((insertBy_perm key u acc).append_left us).trans ?_
      exact List.perm_middle
  simpa [sortBy] using main us []

/-! ### The four jobs -/

/-- The order of the jobs names each of the four once. -/
theorem jobOrder_perm (n : Nat) : (jobOrder n).Perm [.allocator, .dispatcher, .shed, .sequencer] := by
  have h : jobOrder n = ((([Job.sequencer].insertIdx (n % 2) .shed).insertIdx (n / 2 % 3) .dispatcher).insertIdx
      (n / 6 % 4) .allocator) := rfl
  have h2 : n % 2 < 2 := Nat.mod_lt _ (by decide)
  have h3 : n / 2 % 3 < 3 := Nat.mod_lt _ (by decide)
  have h4 : n / 6 % 4 < 4 := Nat.mod_lt _ (by decide)
  rw [h]
  generalize n % 2 = a at *
  generalize n / 2 % 3 = b at *
  generalize n / 6 % 4 = c at *
  interval_cases a <;> interval_cases b <;> interval_cases c <;> decide

end Sys2Proof.Machine
end

