-- ==== Sys2Proof/Laws/Egress.lean ====
section
/-! SUPPORT. What the Egress Scheduler's operations can do: the completion of a copy, the waiting line, a handover and the
granting of open opportunities are all `PortWork` (Safety.lean). -/

namespace Sys2Proof.Machine

theorem SameOutsidePorts.refl (s : State) : SameOutsidePorts s s := by constructor <;> rfl

theorem SameOutsidePorts.trans {s t u : State} (a : SameOutsidePorts s t) (b : SameOutsidePorts t u) :
    SameOutsidePorts s u := by
  constructor
  · exact b.inReset.trans a.inReset
  · exact b.now.trans a.now
  · exact b.tracker.trans a.tracker
  · exact b.units.trans a.units
  · exact b.lastSource.trans a.lastSource
  · exact b.balance.trans a.balance
  · exact b.alloc.trans a.alloc
  · exact b.dispatcher.trans a.dispatcher
  · exact b.shed.trans a.shed
  · exact b.seqr.trans a.seqr
  · exact b.events.trans a.events
  · exact b.service.trans a.service
  · exact b.schedule.trans a.schedule
  · exact b.agenda.trans a.agenda
  · exact b.pending.trans a.pending

theorem PortWork.refl (s : State) : PortWork s s where
  outside := .refl s
  station := rfl
  delivered := rfl
  up _ := rfl
  rx _ := rfl
  buffer _ := rfl
  phases := rfl
  held := rfl
  counters := rfl
  slots _ := rfl
  waiting _ h := h
  report := .refl _
  sent _ o h hs _ := ⟨o, h, hs, rfl⟩

theorem PortWork.trans {s t u : State} (a : PortWork s t) (b : PortWork t u) : PortWork s u where
  outside := a.outside.trans b.outside
  station := b.station.trans a.station
  delivered := b.delivered.trans a.delivered
  up p := (b.up p).trans (a.up p)
  rx p := (b.rx p).trans (a.rx p)
  buffer p := (b.buffer p).trans (a.buffer p)
  phases := b.phases.trans a.phases
  held := b.held.trans a.held
  counters := b.counters.trans a.counters
  slots i := (b.slots i).trans (a.slots i)
  waiting i h := a.waiting i (b.waiting i h)
  report := b.report.trans a.report
  sent i o h hs hw := by
    obtain ⟨o1, h1, s1, d1⟩ := a.sent i o h hs hw
    obtain ⟨o2, h2, s2, d2⟩ := b.sent i o1 h1 s1 (fun m => hw (a.waiting i m))
    exact ⟨o2, h2, s2, d2.trans d1⟩

/-- The unit records are kept. -/
theorem PortWork.unit {s t : State} (h : PortWork s t) (u : UnitNo) : t.unit u = s.unit u :=
  unit_of_units h.outside.units u

/-- A slot is free after the work exactly when it was free before. -/
theorem PortWork.free {s t : State} (h : PortWork s t) (i : SlotNo) : t.slot i = none ↔ s.slot i = none := by
  have := h.slots i
  cases ht : t.slot i <;> cases hs : s.slot i <;> simp_all

/-- A slot's order keeps its content. -/
theorem PortWork.order {s t : State} (h : PortWork s t) {i : SlotNo} {o : Order} (hs : s.slot i = some o) :
    ∃ o' : Order, t.slot i = some o' ∧ o'.content = o.content := by
  have := h.slots i
  rw [hs] at this
  cases ht : t.slot i with
  | none => rw [ht] at this; cases this
  | some o' => rw [ht] at this; exact ⟨o', rfl, by simpa using this⟩

/-! ### The steps of the work -/

/-- A slot's order rewritten without touching its content, not back from SENT. -/
theorem portWork_setSlot {s : State} {i : SlotNo} {o o' : Order} (h : s.slot i = some o) (hc : o'.content = o.content)
    (hs : o.state = .sent → i ∉ s.orders.waiting → o'.state = .sent ∧ o'.deadline = o.deadline) :
    PortWork s (s.setSlot i (some o')) where
  outside := by constructor <;> rfl
  station := rfl
  delivered := rfl
  up p := by cases p <;> rfl
  rx p := by cases p <;> rfl
  buffer p := by cases p <;> rfl
  phases := rfl
  held := rfl
  counters := rfl
  slots j := by
    rw [slot_setSlot]
    split
    · next e => subst e; simp [h, hc]
    · rfl
  waiting _ m := m
  report := .refl _
  sent j x hx sx wx := by
    rw [slot_setSlot]
    split
    · next e =>
      subst e
      rw [h] at hx; cases hx
      exact ⟨o', rfl, hs sx wx⟩
    · exact ⟨x, hx, sx, rfl⟩

theorem portWork_setQueue (s : State) (c : QClass) (q : List SlotNo) : PortWork s (s.setQueue c q) := by
  cases c <;> exact
    { outside := by constructor <;> rfl
      station := rfl, delivered := rfl
      up := fun p => by cases p <;> rfl
      rx := fun p => by cases p <;> rfl
      buffer := fun p => by cases p <;> rfl
      phases := rfl, held := rfl, counters := rfl
      slots := fun _ => rfl
      waiting := fun _ m => m
      report := .refl _
      sent := fun _ o h hs _ => ⟨o, h, hs, rfl⟩ }

theorem portWork_setTx (s : State) (p : Port) (x : Tx) : PortWork s (s.setPort p { s.port p with tx := x }) := by
  cases p <;> exact
    { outside := by constructor <;> rfl
      station := rfl, delivered := rfl
      up := fun p => by cases p <;> rfl
      rx := fun p => by cases p <;> rfl
      buffer := fun p => by cases p <;> rfl
      phases := rfl, held := rfl, counters := rfl
      slots := fun _ => rfl
      waiting := fun _ m => m
      report := .refl _
      sent := fun _ o h hs _ => ⟨o, h, hs, rfl⟩ }

theorem portWork_setPhase (s : State) (p : Port) (x : Fin 16) : PortWork s (s.setPhase p x) := by
  cases p <;> exact
    { outside := by constructor <;> rfl
      station := rfl, delivered := rfl
      up := fun p => by cases p <;> rfl
      rx := fun p => by cases p <;> rfl
      buffer := fun p => by cases p <;> rfl
      phases := rfl, held := rfl, counters := rfl
      slots := fun _ => rfl
      waiting := fun _ m => m
      report := .refl _
      sent := fun _ o h hs _ => ⟨o, h, hs, rfl⟩ }

theorem portWork_seqOrder (s : State) (q : Num16) : PortWork s { s with frame := { s.frame with seqOrder := q } } :=
  { outside := by constructor <;> rfl
    station := rfl, delivered := rfl
    up := fun p => by cases p <;> rfl
    rx := fun p => by cases p <;> rfl
    buffer := fun p => by cases p <;> rfl
    phases := rfl, held := rfl, counters := rfl
    slots := fun _ => rfl
    waiting := fun _ m => m
    report := .refl _
    sent := fun _ o h hs _ => ⟨o, h, hs, rfl⟩ }

theorem portWork_seqResponse (s : State) (q : Num16) : PortWork s { s with frame := { s.frame with seqResponse := q } } :=
  { outside := by constructor <;> rfl
    station := rfl, delivered := rfl
    up := fun p => by cases p <;> rfl
    rx := fun p => by cases p <;> rfl
    buffer := fun p => by cases p <;> rfl
    phases := rfl, held := rfl, counters := rfl
    slots := fun _ => rfl
    waiting := fun _ m => m
    report := .refl _
    sent := fun _ o h hs _ => ⟨o, h, hs, rfl⟩ }

theorem portWork_seqNotice (s : State) (q : Num16) : PortWork s { s with frame := { s.frame with seqNotice := q } } :=
  { outside := by constructor <;> rfl
    station := rfl, delivered := rfl
    up := fun p => by cases p <;> rfl
    rx := fun p => by cases p <;> rfl
    buffer := fun p => by cases p <;> rfl
    phases := rfl, held := rfl, counters := rfl
    slots := fun _ => rfl
    waiting := fun _ m => m
    report := .refl _
    sent := fun _ o h hs _ => ⟨o, h, hs, rfl⟩ }

/-- REPORT replaced by a list whose entries all stood in it, in order. -/
theorem portWork_report (s : State) (q : List ReportItem)
    (h : (q.map fun r => (r.dst, r.body)).Sublist (s.egress.report.map fun r => (r.dst, r.body))) :
    PortWork s { s with egress := { s.egress with report := q } } :=
  { outside := by constructor <;> rfl
    station := rfl, delivered := rfl
    up := fun p => by cases p <;> rfl
    rx := fun p => by cases p <;> rfl
    buffer := fun p => by cases p <;> rfl
    phases := rfl, held := rfl, counters := rfl
    slots := fun _ => rfl
    waiting := fun _ m => m
    report := h
    sent := fun _ o h hs _ => ⟨o, h, hs, rfl⟩ }

theorem portWork_leaveWaiting (s : State) (i : SlotNo) :
    PortWork s { s with orders := { s.orders with waiting := s.orders.waiting.filter (· != i) } } :=
  { outside := by constructor <;> rfl
    station := rfl, delivered := rfl
    up := fun p => by cases p <;> rfl
    rx := fun p => by cases p <;> rfl
    buffer := fun p => by cases p <;> rfl
    phases := rfl, held := rfl, counters := rfl
    slots := fun _ => rfl
    waiting := fun _ m => (List.mem_filter.mp m).1
    report := .refl _
    sent := fun _ o h hs _ => ⟨o, h, hs, rfl⟩ }

/-! ### The operations -/

theorem copyComplete_work (s : State) (p : Port) (i : SlotNo) : PortWork s (copyComplete s p i) := by
  unfold copyComplete
  split
  · exact .refl s
  · next o h =>
    split
    · split
      · next hs => exact portWork_setSlot h rfl (fun _ _ => ⟨hs, rfl⟩)
      · next hs => exact portWork_setSlot h rfl (fun x _ => absurd x hs)
    · exact .refl s

/-- A waiting slot that joins its queue leaves the waiting line with it. -/
theorem joinWaiting_work {s : State} {i : SlotNo} {o : Order} (h : s.slot i = some o) (hw : i ∈ s.orders.waiting) :
    PortWork s
      (joinQueue { s with orders := { s.orders with waiting := s.orders.waiting.filter (· != i) } } i o) := by
  have key : PortWork s
      ({ s with orders := { s.orders with waiting := s.orders.waiting.filter (· != i) } }.setSlot i
        (some { o with state := .queued, deadline := none })) :=
    { outside := by constructor <;> rfl
      station := rfl, delivered := rfl
      up := fun p => by cases p <;> rfl
      rx := fun p => by cases p <;> rfl
      buffer := fun p => by cases p <;> rfl
      phases := rfl, held := rfl, counters := rfl
      slots := fun j => by
        rw [slot_setSlot]
        split
        · next e => subst e; simp [h, Order.content]
        · rfl
      waiting := fun _ m => (List.mem_filter.mp m).1
      report := .refl _
      sent := fun j x hx sx wx => by
        rw [slot_setSlot]
        split
        · next e => subst e; exact absurd hw wx
        · exact ⟨x, hx, sx, rfl⟩ }
  exact key.trans (portWork_setQueue _ _ _)

theorem nextWaiting_some {s : State} {i : SlotNo} {o : Order} (h : nextWaiting s = some (i, o)) :
    s.slot i = some o ∧ i ∈ s.orders.waiting := by
  unfold nextWaiting at h
  obtain ⟨j, hj, hx⟩ := List.exists_of_findSome?_eq_some h
  cases hs : s.slot j with
  | none => rw [hs] at hx; cases hx
  | some x =>
    rw [hs] at hx
    simp only [Option.bind_some] at hx
    split at hx
    · cases hx; exact ⟨hs, hj⟩
    · cases hx

theorem refillN_work (n : Nat) (s : State) : PortWork s (refillN n s) := by
  induction n generalizing s with
  | zero => exact .refl s
  | succ n ih =>
    unfold refillN
    split
    · exact .refl s
    · next i o h =>
      obtain ⟨hs, hw⟩ := nextWaiting_some h
      exact (joinWaiting_work hs hw).trans (ih _)

/-- Waiting slots joining their queues are port work. -/
theorem refill_work (s : State) : PortWork s (refill s) := refillN_work 12 s

theorem stampOrder_work (s : State) (o : Order) : PortWork s (stampOrder s o).1 := by
  unfold stampOrder
  split
  · exact .refl s
  · exact portWork_seqOrder s _

theorem stampReport_work (s : State) (r : ReportItem) : PortWork s (stampReport s r).1 := by
  unfold stampReport
  split
  · exact .refl s
  · split
    · exact portWork_seqResponse s _
    · exact portWork_seqNotice s _

theorem handOrder_work (s : State) (p : Port) (i : SlotNo) : PortWork s (handOrder s p i) := by
  unfold handOrder
  split
  · exact .refl s
  · next o h =>
    have hst := stampOrder_work s o
    have hslot : (stampOrder s o).1.slot i = some o := by
      unfold stampOrder; split <;> exact h
    generalize hg : stampOrder s o = g at hst hslot
    obtain ⟨s1, st⟩ := g
    refine hst.trans ?_
    simp only
    generalize htw : (o.pendingPort.isNone && (s1.unit o.target).live.side.isNone) = tw
    let o' : Order := {
      o with
      stamp := some st
      inTx := o.inTx.insert p
      pendingPort := if tw then some p.other else none }
    refine (portWork_setSlot (o' := o') hslot rfl (fun hs _ => ⟨hs, rfl⟩)).trans ?_
    have hq : ∀ s2 : State, PortWork s2
        (if tw = true then s2 else s2.setQueue o.cls ((s2.queue o.cls).filter (· != i))) := by
      intro s2; split
      · exact .refl s2
      · exact portWork_setQueue s2 _ _
    have hend : ∀ s2 : State, PortWork s2 (if (s2.port p).up = true then
        s2.setPort p { s2.port p with tx := .order i (orderFrame s2 o st) } else copyComplete s2 p i) := by
      intro s2; split
      · exact portWork_setTx _ p _
      · exact copyComplete_work _ p i
    exact (hq _).trans ((hend _).trans (refill_work _))

theorem handReport_work (s : State) (p : Port) (k : Nat) : PortWork s (handReport s p k) := by
  unfold handReport
  split
  · exact .refl s
  · next r h =>
    have hst := stampReport_work s r
    have hrep : (stampReport s r).1.egress.report = s.egress.report := by
      unfold stampReport; split
      · rfl
      · split <;> rfl
    generalize hg : stampReport s r = g at hst hrep
    obtain ⟨s1, st⟩ := g
    refine hst.trans ?_
    simp only at hrep ⊢
    have hk : ∀ ports : PortSet, (s1.egress.report.set k { r with ports := ports, stamp := some st }).map
        (fun r => (r.dst, r.body)) = s1.egress.report.map fun r => (r.dst, r.body) := by
      intro ports
      rw [List.map_set]
      refine List.ext_getElem (by simp) fun j h1 h2 => ?_
      rw [List.getElem_set]
      split
      · next e =>
        subst e
        have : s1.egress.report[k]? = some r := by rw [hrep]; exact h
        have hlt : k < s1.egress.report.length := by simpa using h2
        rw [List.getElem?_eq_getElem hlt] at this
        simp [Option.some.inj this]
      · rfl
    have hsub : ∀ ports : PortSet, ((if ports.isEmpty then s1.egress.report.eraseIdx k
        else s1.egress.report.set k { r with ports := ports, stamp := some st }).map
        fun r => (r.dst, r.body)).Sublist (s1.egress.report.map fun r => (r.dst, r.body)) := by
      intro ports
      split
      · exact (List.eraseIdx_sublist _ _).map _
      · rw [hk]
    have hend : ∀ s2 : State, PortWork s2 (if (s2.port p).up = true then
        s2.setPort p { s2.port p with tx := .report (reportFrame s2 r st) } else s2) := by
      intro s2; split
      · exact portWork_setTx _ p _
      · exact .refl _
    exact (portWork_report s1 _ (hsub (r.ports.erase p))).trans (hend _)

theorem handItem_work (s : State) (p : Port) (x : Item) : PortWork s (handItem s p x) := by
  cases x with
  | order i => exact handOrder_work s p i
  | report k => exact handReport_work s p k

theorem offerOpen_work {s t : State} {p : Port} (h : offerOpen s p = some t) : PortWork s t := by
  unfold offerOpen at h
  split at h
  · cases h; exact handOrder_work s p _
  · cases hc : phaseChoice s p with
    | none => rw [hc] at h; cases h
    | some x =>
      rw [hc] at h
      cases h
      exact (portWork_setPhase s p _).trans (handItem_work _ p _)

theorem offerRestricted_work {s t : State} {p : Port} (h : offerRestricted s p = some t) : PortWork s t := by
  unfold offerRestricted at h
  cases hf : firstOrder s p .urgent with
  | none => rw [hf] at h; cases h
  | some i => rw [hf] at h; cases h; exact handOrder_work s p i

theorem pumpOnce_some {s t : State} (h : pumpOnce s = some t) : ∃ p : Port, portOpen s p = true ∧ offerOpen s p = some t := by
  unfold pumpOnce at h
  obtain ⟨p, -, hp⟩ := List.exists_of_findSome?_eq_some h
  split at hp
  · next ho => exact ⟨p, ho, hp⟩
  · cases hp

theorem pumpN_work (n : Nat) (s : State) : PortWork s (pumpN n s) := by
  induction n generalizing s with
  | zero => exact .refl s
  | succ n ih =>
    unfold pumpN
    split
    · exact .refl s
    · next s' h =>
      obtain ⟨p, -, ho⟩ := pumpOnce_some h
      exact (offerOpen_work ho).trans (ih s')

/-- Granting every open opportunity is port work. -/
theorem pump_work (s : State) : PortWork s (pump s) := pumpN_work _ s

/-! ### Transmitters -/

theorem refillN_port (n : Nat) (s : State) (p : Port) : (refillN n s).port p = s.port p := by
  induction n generalizing s with
  | zero => rfl
  | succ n ih =>
    unfold refillN
    split
    · rfl
    · next i o _ =>
      rw [ih]
      unfold joinQueue
      cases o.cls <;> cases p <;> rfl

theorem copyComplete_port (s : State) (p q : Port) (i : SlotNo) : (copyComplete s p i).port q = s.port q := by
  unfold copyComplete
  split
  · rfl
  · split
    · split <;> cases q <;> rfl
    · rfl

/-- A handover touches no port but its own. -/
theorem handOrder_other (s : State) (p : Port) (i : SlotNo) : (handOrder s p i).port p.other = s.port p.other := by
  unfold handOrder
  split
  · rfl
  · next o _ =>
    have hst : (stampOrder s o).1.port p.other = s.port p.other := by
      unfold stampOrder; split
      · rfl
      · cases p <;> rfl
    generalize stampOrder s o = g at hst
    obtain ⟨s1, st⟩ := g
    simp only at hst ⊢
    have hend : ∀ s2 : State, s2.port p.other = s.port p.other →
        (refill (if (s2.port p).up = true then s2.setPort p { s2.port p with tx := .order i (orderFrame s2 o st) }
          else copyComplete s2 p i)).port p.other = s.port p.other := by
      intro s2 h2
      unfold refill
      rw [refillN_port]
      split
      · rw [port_setPort_other]; exact h2
      · rw [copyComplete_port]; exact h2
    refine hend _ ?_
    have hq : ∀ (s2 : State) (c : QClass) (q : List SlotNo) (x : Port), (s2.setQueue c q).port x = s2.port x := by
      intro s2 c q x; cases c <;> cases x <;> rfl
    split
    · exact hst
    · rw [hq]; exact hst

theorem handReport_other (s : State) (p : Port) (k : Nat) : (handReport s p k).port p.other = s.port p.other := by
  unfold handReport
  split
  · rfl
  · next r _ =>
    have hst : (stampReport s r).1.port p.other = s.port p.other := by
      unfold stampReport
      split
      · rfl
      · split <;> cases p <;> rfl
    generalize stampReport s r = g at hst
    obtain ⟨s1, st⟩ := g
    simp only at hst ⊢
    have hend : ∀ s2 : State, s2.port p.other = s.port p.other → (if (s2.port p).up = true then
        s2.setPort p { s2.port p with tx := .report (reportFrame s2 r st) } else s2).port p.other = s.port p.other := by
      intro s2 h2; split
      · rw [port_setPort_other]; exact h2
      · exact h2
    exact hend _ (by cases p <;> exact hst)

/-- An open opportunity on a port touches no other port. -/
theorem offerOpen_other {s t : State} {p : Port} (h : offerOpen s p = some t) : t.port p.other = s.port p.other := by
  unfold offerOpen at h
  split at h
  · cases h; exact handOrder_other s p _
  · cases hc : phaseChoice s p with
    | none => rw [hc] at h; cases h
    | some x =>
      obtain ⟨item, x⟩ := x
      rw [hc] at h
      cases h
      have hp : (s.setPhase p x).port p.other = s.port p.other := by cases p <;> rfl
      cases item with
      | order i => exact (handOrder_other _ p i).trans hp
      | report k => exact (handReport_other _ p k).trans hp

/-- A port that takes nothing at once keeps what it is doing. -/
theorem pumpN_busy (n : Nat) (s : State) (p : Port) (h : portOpen s p = false) : (pumpN n s).port p = s.port p := by
  induction n generalizing s with
  | zero => rfl
  | succ n ih =>
    unfold pumpN
    split
    · rfl
    · next s' hs =>
      obtain ⟨q, hq, ho⟩ := pumpOnce_some hs
      have hne : q = p.other := by
        cases p <;> cases q <;> first | rfl | (rw [h] at hq; cases hq)
      subst hne
      have hport : s'.port p = s.port p := by
        have := offerOpen_other ho
        rwa [Port.other_other] at this
      rw [ih s' (by simpa [portOpen, hport] using h)]
      exact hport

/-- A transmitter that is busy stays as it is while open opportunities are granted. -/
theorem pump_busy (s : State) (p : Port) (h : portOpen s p = false) : (pump s).port p = s.port p := pumpN_busy _ s p h

/-- Whether both ports transmit is a matter of the Frame Path's state alone. -/
theorem busy_of_frame {s t : State} (h : Busy s) (e : t.frame = s.frame) : Busy t := fun p => by
  rw [show t.port p = s.port p by cases p <;> simp [State.port, e]]
  exact h p

/-- With both ports transmitting, no opportunity is open and nothing is granted. -/
theorem pump_of_busy {s : State} (h : Busy s) : pump s = s := by
  have hn : pumpOnce s = none := by
    cases hp : pumpOnce s with
    | none => rfl
    | some t =>
      obtain ⟨p, ho, -⟩ := pumpOnce_some hp
      simp [portOpen, h p] at ho
  unfold pump
  cases Config.pumpFuel with
  | zero => rfl
  | succ n => simp [pumpN, hn]

end Sys2Proof.Machine
end

