-- ==== Sys2Proof/Laws/Flags.lean ====
section
/-! SUPPORT. What recording an event and raising a condition can do: each is `RecordWork` (Safety.lean), an event raised
while the log has room stands in it afterwards, and a condition raised is latched. -/

namespace Sys2Proof.Machine

theorem SameOutsideRecord.refl (s : State) : SameOutsideRecord s s := by constructor <;> rfl

theorem SameOutsideRecord.trans {s t u : State} (a : SameOutsideRecord s t) (b : SameOutsideRecord t u) :
    SameOutsideRecord s u := by
  constructor
  · exact b.inReset.trans a.inReset
  · exact b.now.trans a.now
  · exact b.tracker.trans a.tracker
  · exact b.units.trans a.units
  · exact b.lastSource.trans a.lastSource
  · exact b.balance.trans a.balance
  · exact b.alloc.trans a.alloc
  · exact b.dispatcher.trans a.dispatcher
  · exact b.shed.trans a.shed
  · exact b.seqr.trans a.seqr
  · exact b.service.trans a.service
  · exact b.schedule.trans a.schedule
  · exact b.agenda.trans a.agenda
  · exact b.pending.trans a.pending

theorem RecordWork.refl (s : State) : RecordWork s s where
  outside := .refl s
  latched _ h := h
  log _ _ h := h
  routing := rfl
  primarySide := rfl
  backupSide := rfl
  groups _ h := h
  station := rfl
  delivered := rfl
  up _ := rfl
  rx _ := rfl
  buffer _ := rfl
  phases := rfl
  held := rfl
  counters := rfl
  slots _ := rfl
  waiting _ h := h
  sent _ o h hs _ := ⟨o, h, hs, rfl⟩

theorem RecordWork.trans {s t u : State} (a : RecordWork s t) (b : RecordWork t u) : RecordWork s u where
  outside := a.outside.trans b.outside
  latched c h := b.latched c (a.latched c h)
  log i r h := b.log i r (a.log i r h)
  routing := b.routing.trans a.routing
  primarySide := b.primarySide.trans a.primarySide
  backupSide := b.backupSide.trans a.backupSide
  groups g h := b.groups g (a.groups g h)
  station := b.station.trans a.station
  delivered := b.delivered.trans a.delivered
  up p := (b.up p).trans (a.up p)
  rx p := (b.rx p).trans (a.rx p)
  buffer p := (b.buffer p).trans (a.buffer p)
  phases := b.phases.trans a.phases
  held := b.held.trans a.held
  counters := b.counters.trans a.counters
  slots i := (b.slots i).trans (a.slots i)
  waiting i h := a.waiting i (b.waiting i h)
  sent i o h hs hw := by
    obtain ⟨o1, h1, s1, d1⟩ := a.sent i o h hs hw
    obtain ⟨o2, h2, s2, d2⟩ := b.sent i o1 h1 s1 (fun m => hw (a.waiting i m))
    exact ⟨o2, h2, s2, d2.trans d1⟩

/-- Port work is record work that raises nothing. -/
theorem PortWork.record {s t : State} (h : PortWork s t) : RecordWork s t where
  outside := ⟨h.outside.inReset, h.outside.now, h.outside.tracker, h.outside.units, h.outside.lastSource, h.outside.balance,
    h.outside.alloc, h.outside.dispatcher, h.outside.shed, h.outside.seqr, h.outside.service, h.outside.schedule,
    h.outside.agenda, h.outside.pending⟩
  latched c x := by simpa [State.isLatched, h.outside.events] using x
  log i r x := by rw [h.outside.events]; exact x
  routing := by rw [h.outside.events]
  primarySide := by rw [h.outside.events]
  backupSide := by rw [h.outside.events]
  groups g x := by rw [h.outside.events]; exact x
  station := h.station
  delivered := h.delivered
  up := h.up
  rx := h.rx
  buffer := h.buffer
  phases := h.phases
  held := h.held
  counters := h.counters
  slots := h.slots
  waiting := h.waiting
  sent := h.sent

/-- The unit records are kept. -/
theorem RecordWork.unit {s t : State} (h : RecordWork s t) (u : UnitNo) : t.unit u = s.unit u :=
  unit_of_units h.outside.units u

/-- A slot is free after the work exactly when it was free before. -/
theorem RecordWork.free {s t : State} (h : RecordWork s t) (i : SlotNo) : t.slot i = none ↔ s.slot i = none := by
  have := h.slots i
  cases ht : t.slot i <;> cases hs : s.slot i <;> simp_all

/-- A slot's order keeps its content. -/
theorem RecordWork.order {s t : State} (h : RecordWork s t) {i : SlotNo} {o : Order} (hs : s.slot i = some o) :
    ∃ o' : Order, t.slot i = some o' ∧ o'.content = o.content := by
  have := h.slots i
  rw [hs] at this
  cases ht : t.slot i with
  | none => rw [ht] at this; cases this
  | some o' => rw [ht] at this; exact ⟨o', rfl, by simpa using this⟩

/-! ### Work that touches the Condition and Event Unit and REPORT alone -/

/-- REPORT and the items of the Condition and Event Unit replaced: what must hold for this to be record work. -/
theorem recordWork_events (s : State) (report : List ReportItem) (e : Events)
    (hl : ∀ c : Condition, s.isLatched c = true → e.latched.getLsbD c.code = true)
    (hlog : ∀ (i : LogNo) (r : EventRec), s.events.log.get i = some r → e.log.get i = some r)
    (hr : e.routing = s.events.routing) (hp : e.primarySide = s.events.primarySide)
    (hb : e.backupSide = s.events.backupSide)
    (hg : ∀ g : Fin 8, s.events.groups.get g = true → e.groups.get g = true) :
    RecordWork s { s with egress := { s.egress with report := report }, events := e } :=
  { outside := by constructor <;> rfl
    latched := hl, log := hlog, routing := hr, primarySide := hp, backupSide := hb, groups := hg
    station := rfl, delivered := rfl
    up := fun p => by cases p <;> rfl
    rx := fun p => by cases p <;> rfl
    buffer := fun p => by cases p <;> rfl
    phases := rfl, held := rfl, counters := rfl
    slots := fun _ => rfl
    waiting := fun _ m => m
    sent := fun _ o h hs _ => ⟨o, h, hs, rfl⟩ }

/-- A state whose egress and events are rewritten to themselves. -/
theorem recordWork_report (s : State) (report : List ReportItem) :
    RecordWork s { s with egress := { s.egress with report := report } } :=
  recordWork_events s report s.events (fun _ h => h) (fun _ _ h => h) rfl rfl rfl (fun _ h => h)

theorem code_lt (c : Condition) : c.code < 14 := by cases c <;> decide

theorem code_inj {c d : Condition} (h : c.code = d.code) : c = d := by
  cases c <;> cases d <;> first | rfl | exact absurd h (by decide)

/-- What is latched once a condition is latched. -/
theorem latch_isLatched (s : State) (c d : Condition) :
    (s.latch c).isLatched d = (s.isLatched d || decide (d = c)) := by
  have hc := code_lt c
  have hd := code_lt d
  have : (decide (d = c)) = decide (d.code = c.code) := by
    by_cases h : d = c
    · subst h; simp
    · have hne : d.code ≠ c.code := fun e => h (code_inj e)
      simp [h, hne]
  simp only [State.isLatched, State.latch, BitVec.getLsbD_or, BitVec.getLsbD_twoPow, this]
  congr 1
  by_cases e : d.code = c.code
  · simp [e, hc]
  · simp [e, Ne.symm e]

theorem latch_work (s : State) (c : Condition) : RecordWork s (s.latch c) := by
  have h := recordWork_events s s.egress.report { s.events with latched := s.events.latched ||| BitVec.twoPow 14 c.code }
    (fun d h => by have := latch_isLatched s c d; simp only [State.isLatched, State.latch] at this; rw [this]
                   simp only [State.isLatched] at h; simp [h])
    (fun _ _ h => h) rfl rfl rfl (fun _ h => h)
  exact h

theorem writeLog_work (s : State) (r : EventRec) : RecordWork s (writeLog s r).1 := by
  unfold writeLog
  split
  · exact .refl s
  · simp only
    split
    · exact recordWork_events s s.egress.report { s.events with overflow := true } (fun _ h => h) (fun _ _ h => h)
        rfl rfl rfl (fun _ h => h)
    · next hn =>
      exact recordWork_events s s.egress.report
        { s.events with log := s.events.log.set s.events.writeIndex (some r), writeIndex := s.events.writeIndex + 1 }
        (fun _ h => h)
        (fun i x h => by
          simp only
          rw [vectorGet_set]
          split
          · next e => subst e; rw [hn] at h; cases h
          · exact h)
        rfl rfl rfl (fun _ h => h)

theorem judgeNotice_work (s : State) (k : EventKind) (i : LogNo) : RecordWork s (judgeNotice s k i) := by
  unfold judgeNotice
  simp only
  split
  · exact .refl s
  · exact recordWork_events s _ _ (fun _ h => h) (fun _ _ h => h) rfl rfl rfl
      (fun g h => by simp only; rw [vectorGet_set]; split <;> simp_all)

theorem recordEntry_work (s : State) (k : EventKind) (u : Option UnitNo) (v : Option Int) (d : Option Nat) :
    RecordWork s (recordEntry s k u v d) := by
  unfold recordEntry
  have h := writeLog_work s (eventNow s k u v d)
  split
  · next s' e => rw [e] at h; exact h
  · next s' i e => rw [e] at h; exact h.trans (judgeNotice_work s' k i)

theorem pressureRise_work (before s : State) : RecordWork s (pressureRise before s) := by
  unfold pressureRise
  split
  · exact (latch_work s _).trans (recordEntry_work _ _ _ _ _)
  · exact .refl s

/-- What follows the joining of entries is record work. -/
theorem joined_work (before s : State) : RecordWork s (joined before s) :=
  (pressureRise_work before s).trans (pump_work _).record

/-- Recording an event is record work. -/
theorem record_work (s : State) (k : EventKind) (u : Option UnitNo) (v : Option Int) (d : Option Nat) :
    RecordWork s (record s k u v d) := (recordEntry_work s k u v d).trans (joined_work _ _)

/-- A rising is record work. -/
theorem rise_work (s : State) (c : Condition) : RecordWork s (rise s c) := by
  unfold rise
  split
  · exact .refl s
  · exact (latch_work s c).trans (record_work _ _ _ _ _)

theorem riseIfNew_work (before s : State) (c : Condition) : RecordWork s (riseIfNew before s c) := by
  unfold riseIfNew
  split
  · exact rise_work s c
  · exact .refl s

/-- The joining of a REPORT entry is record work. -/
theorem joinReport_work (s : State) (r : ReportItem) : RecordWork s (joinReport s r) :=
  (recordWork_report s _).trans (joined_work _ _)

/-! ### What stands afterwards -/

/-- A condition raised is latched. -/
theorem rise_latched (s : State) (c : Condition) : (rise s c).isLatched c = true := by
  unfold rise
  split
  · next h => exact h
  · refine (record_work _ _ _ _ _).latched c ?_
    rw [latch_isLatched]; simp

theorem judgeNotice_log (s : State) (k : EventKind) (i : LogNo) : (judgeNotice s k i).events.log = s.events.log := by
  unfold judgeNotice
  simp only
  split <;> rfl

theorem recordEntry_log {s : State} (h : logOpen s) (k : EventKind) (u : Option UnitNo) (v : Option Int) (d : Option Nat) :
    (recordEntry s k u v d).events.log.get s.events.writeIndex = some (recordNow s k u v d) := by
  obtain ⟨ho, hn⟩ := h
  unfold recordEntry writeLog
  simp only [ho, hn, Bool.false_eq_true, if_false]
  rw [judgeNotice_log]
  simp [vectorGet_set, eventNow, recordNow]

/-- An event raised while the log has room stands in the log, at the write index (R181). -/
theorem record_log {s : State} (h : logOpen s) (k : EventKind) (u : Option UnitNo) (v : Option Int) (d : Option Nat) :
    (record s k u v d).events.log.get s.events.writeIndex = some (recordNow s k u v d) :=
  (joined_work _ _).log _ _ (recordEntry_log h k u v d)

/-! ### What the recording of an event can do, said once -/

theorem recordsMade_append (e : Events) (a b : List EventRec) : recordsMade e (a ++ b) = recordsMade (recordsMade e a) b :=
  List.foldl_append

theorem writeLog_made (s : State) (r : EventRec) : (writeLog s r).1 = { s with events := recordsMade s.events [r] } := by
  simp only [writeLog, recordsMade, List.foldl_cons, List.foldl_nil]
  split
  · rfl
  · cases s.events.log.get s.events.writeIndex <;> rfl

theorem noticeAddresses_le (s : State) (d : Destination) : (noticeAddresses s d).length ≤ controllers s := by
  unfold noticeAddresses controllers
  cases d <;> cases s.access.primaryController <;> cases s.access.backupController <;> simp

/-- What the judging of a notice can do: notices join REPORT, no more than the written controller addresses and none without a
free place, and a group flag is set (R185). -/
theorem judgeNotice_says (s : State) (k : EventKind) (i : LogNo) : ∃ (more : List ReportItem) (groups : Vector Bool 8),
    judgeNotice s k i = { s with
      egress := { s.egress with report := s.egress.report ++ more }, events := { s.events with groups := groups } } ∧
    more.length ≤ controllers s ∧ more.length ≤ reportFree s := by
  unfold judgeNotice
  simp only
  split
  · exact ⟨[], s.events.groups, by simp, by simp, by simp⟩
  · next h =>
    simp only [Bool.or_eq_true, decide_eq_true_eq, not_or, not_lt] at h
    exact ⟨_, _, rfl, by rw [List.length_map]; exact noticeAddresses_le _ _, by rw [List.length_map]; exact h.2⟩

/-- What the recording of an event can do before other work follows: the record is written or lost (R181), and its notices join
REPORT (R185). -/
theorem recordEntry_says (s : State) (k : EventKind) (u : Option UnitNo) (v : Option Int) (d : Option Nat) :
    ∃ (more : List ReportItem) (groups : Vector Bool 8), recordEntry s k u v d = { s with
      egress := { s.egress with report := s.egress.report ++ more }
      events := { recordsMade s.events [recordNow s k u v d] with groups := groups } } ∧
    more.length ≤ controllers s ∧ more.length ≤ reportFree s := by
  have hw := writeLog_made s (eventNow s k u v d)
  unfold recordEntry
  split
  · next s' e =>
    rw [e] at hw
    simp only at hw
    exact ⟨[], s'.events.groups, by rw [hw]; simp [eventNow, recordNow], by simp, by simp⟩
  · next s' i e =>
    rw [e] at hw
    simp only at hw
    obtain ⟨more, groups, h, hc, hf⟩ := judgeNotice_says s' k i
    subst hw
    exact ⟨more, groups, h, hc, hf⟩

theorem pressureRise_keeps (b s : State) : (pressureRise b s).orders = s.orders ∧ (pressureRise b s).frame = s.frame ∧
    ∀ c : QClass, (pressureRise b s).queue c = s.queue c := by
  unfold pressureRise
  split
  · obtain ⟨more, groups, e, -⟩ := recordEntry_says (s.latch .queuePressure) .conditionLatched none none
      (some Condition.queuePressure.code)
    rw [e]
    exact ⟨rfl, rfl, fun c => by cases c <;> rfl⟩
  · exact ⟨rfl, rfl, fun _ => rfl⟩

/-- With both ports transmitting, a rise of QUEUE_PRESSURE is all that follows the joining of entries. -/
theorem joined_of_busy {b s : State} (h : Busy s) : joined b s = pressureRise b s :=
  pump_of_busy (busy_of_frame h (pressureRise_keeps b s).2.1)

end Sys2Proof.Machine
end

