-- ==== Sys2Proof/Laws/Orders.lean ====
section
/-! SUPPORT. What the Order Transactor's operations can do: an order request answered in each way, a withdrawal, an order's
end, and several ends at once. -/

namespace Sys2Proof.Machine

/-! ### The judgement of a request -/

/-- What a request answered CREATED has passed (R66). -/
theorem judgeRequest_created {s : State} {u : UnitNo} {k : OrderKind} {w : Owner} {i : SlotNo}
    (h : judgeRequest s u k w = .created i) :
    (s.mode = .active ∨ s.mode = .restore) ∧ (s.unit u).permits.has k = true ∧ (s.unit u).holdCurrent s.now = false ∧
      coalesceSlot s u k = none ∧ s.inFlight u < (s.unit u).credit ∧
      (orderClass w k = .urgent ∨ s.nonUrgent < Config.nonUrgentSlots) ∧ s.slot i = none := by
  unfold judgeRequest at h
  simp only at h
  split at h
  · cases h
  · next hm =>
    split at h
    · cases h
    · next hp =>
      split at h
      · cases h
      · next hh =>
        split at h
        · cases h
        · next hc =>
          split at h
          · cases h
          · next hi =>
            split at h
            · cases h
            · next hn =>
              split at h
              · cases h
              · next j hj =>
                cases h
                refine ⟨?_, by simpa using hp, by simpa using hh, hc, by omega, ?_, ?_⟩
                · cases hmode : s.mode <;> simp_all
                · by_cases hu : orderClass w k = .urgent
                  · exact .inl hu
                  · right
                    simp [hu] at hn
                    exact hn
                · have := List.find?_some hj
                  simpa using this

/-- The slot a request coalesces with holds an order to the target, of a setpoint kind, and so is the request's kind (R68). -/
theorem coalesceSlot_some {s : State} {u : UnitNo} {k : OrderKind} {i : SlotNo} (h : coalesceSlot s u k = some i) :
    isSetpoint k = true ∧ ∃ o : Order, s.slot i = some o ∧ o.target = u ∧ isSetpoint o.kind = true ∧ o.attempt = 1 ∧
      o.state = .queued := by
  unfold coalesceSlot at h
  split at h
  · next hk =>
    refine ⟨hk, ?_⟩
    have hc := List.find?_some h
    unfold canCoalesce at hc
    cases hs : s.slot i with
    | none => rw [hs] at hc; cases hc
    | some o =>
      rw [hs] at hc
      simp only [Bool.and_eq_true, beq_iff_eq, State.unhanded] at hc
      exact ⟨o, rfl, hc.1.1.1.1, hc.1.1.1.2, hc.1.1.2, hc.2.1.1⟩
  · cases h

/-- What a request answered COALESCED has passed (R66, R68). -/
theorem judgeRequest_coalesced {s : State} {u : UnitNo} {k : OrderKind} {w : Owner} {i : SlotNo}
    (h : judgeRequest s u k w = .coalesced i) :
    (s.mode = .active ∨ s.mode = .restore) ∧ (s.unit u).permits.has k = true ∧ coalesceSlot s u k = some i := by
  unfold judgeRequest at h
  simp only at h
  split at h
  · cases h
  · next hm =>
    split at h
    · cases h
    · next hp =>
      split at h
      · cases h
      · split at h
        · next j hc =>
          cases h
          refine ⟨?_, by simpa using hp, hc⟩
          cases hmode : s.mode <;> simp_all
        · split at h
          · cases h
          · split at h
            · cases h
            · split at h <;> cases h

/-! ### The answer to a request -/

/-- The order a request creates (R63, R65, R67). -/
def newOrder (s : State) (u : UnitNo) (k : OrderKind) (v : Option Nat) (w : Owner) (st : Option (Fin 32)) : Order :=
  { target := u, kind := k, value := v, number := nextNumber s u, owner := w, cls := orderClass w k, planStep := st }

/-- The state in which a free slot has taken a request's order, its unit's counter has moved on, and the slot may stand in
the waiting line. -/
def granted (s : State) (i : SlotNo) (u : UnitNo) (k : OrderKind) (v : Option Nat) (w : Owner) (st : Option (Fin 32)) : State :=
  { s with orders := {
      slots := s.orders.slots.set i (some (newOrder s u k v w st))
      waiting := s.orders.waiting ++ [i]
      counters := s.orders.counters.set u (nextNumber s u) } }

/-- An order that joins does so at the tail of its queue or of the waiting line (R69). -/
theorem enqueue_joins (s : State) (i : SlotNo) (o : Order) (hc : o.cls ≠ .report) : OrderJoins s (enqueue s i o) i o := by
  rintro q rfl
  have hf : s.fill o.cls = (s.queue o.cls).length := by cases h : o.cls <;> simp_all [State.fill]
  have hd : Config.depth o.cls = queueDepth o.cls := by cases o.cls <;> rfl
  unfold enqueue
  rw [hf, hd]
  split
  · refine ⟨joined_work _ _, fun hb => ?_⟩
    have e : joined s (joinQueue s i o) = pressureRise s (joinQueue s i o) :=
      joined_of_busy (busy_of_frame hb (State.setQueue_frame _ _ _))
    rw [e]
    exact ⟨(pressureRise_keeps _ _).1, (pressureRise_keeps _ _).2.2⟩
  · refine ⟨(pump_work _).record, fun hb => ?_⟩
    have e : ∀ q : State, q.frame = s.frame → pump q = q := fun q hq => pump_of_busy (busy_of_frame hb hq)
    simp only
    rw [e]
    · exact ⟨rfl, fun _ => rfl⟩
    · rfl

/-- An order that joins its queue or the waiting line: record work on the state in which its slot holds it. -/
theorem enqueue_work (s : State) (i : SlotNo) (o : Order) :
    RecordWork ({ s with orders := { s.orders with waiting := s.orders.waiting ++ [i] } }.setSlot i (some o)) (enqueue s i o) := by
  have base : ∀ (x : OrderState) (w : List SlotNo) (hw : ∀ j ∈ w, j ∈ s.orders.waiting ++ [i]),
      RecordWork ({ s with orders := { s.orders with waiting := s.orders.waiting ++ [i] } }.setSlot i (some o))
        ({ s with orders := { s.orders with waiting := w } }.setSlot i (some { o with state := x, deadline := none })) := by
    intro x w hw
    exact
    { outside := by constructor <;> rfl
      latched := fun _ h => h, log := fun _ _ h => h, routing := rfl, primarySide := rfl, backupSide := rfl
      groups := fun _ h => h
      station := rfl, delivered := rfl
      up := fun p => by cases p <;> rfl
      rx := fun p => by cases p <;> rfl
      buffer := fun p => by cases p <;> rfl
      phases := rfl, held := rfl, counters := rfl
      slots := fun j => by
        rw [slot_setSlot, slot_setSlot]
        split <;> rfl
      waiting := hw
      sent := fun j y hy hs hn => by
        have hji : j ≠ i := fun e => hn (by simp [e])
        rw [slot_setSlot_ne hji] at hy ⊢
        exact ⟨y, hy, hs, rfl⟩ }
  unfold enqueue
  split
  · refine RecordWork.trans ?_ (joined_work _ _)
    refine RecordWork.trans (base .queued s.orders.waiting (fun j h => by simp [h])) ?_
    exact (portWork_setQueue _ _ _).record
  · exact (base .waitingRetry (s.orders.waiting ++ [i]) (fun j h => h)).trans (pump_work _).record

theorem fillSlot_work (s : State) (i : SlotNo) (u : UnitNo) (k : OrderKind) (v : Option Nat) (w : Owner)
    (st : Option (Fin 32)) : RecordWork (granted s i u k v w st) (fillSlot s i u k v w st) :=
  enqueue_work { s with orders := { s.orders with counters := s.orders.counters.set u (nextNumber s u) } } i
    (newOrder s u k v w st)

/-- Everything an order request can do, by its answer (R66, R68): a created order fills a free slot; a coalescing request
rewrites its slot in place; a refusal raises at most SLOTS_EXHAUSTED. -/
theorem requestOrder_spec (s : State) (u : UnitNo) (k : OrderKind) (v : Option Nat) (w : Owner) (st : Option (Fin 32)) :
    (requestOrder s u k v w st).2 = judgeRequest s u k w ∧
      match judgeRequest s u k w with
      | .created i => RecordWork (granted s i u k v w st) (requestOrder s u k v w st).1
      | .coalesced i => (requestOrder s u k v w st).1 = rewriteSlot s i k v
      | .refused .noSlot =>
        (requestOrder s u k v w st).1 = if orderClass w k = .urgent then rise s .slotsExhausted else s
      | .refused _ => (requestOrder s u k v w st).1 = s := by
  unfold requestOrder
  simp only
  cases h : judgeRequest s u k w with
  | created i => exact ⟨rfl, fillSlot_work s i u k v w st⟩
  | coalesced i => exact ⟨rfl, rfl⟩
  | refused why =>
    cases why with
    | noSlot =>
      refine ⟨rfl, ?_⟩
      simp only
      by_cases hu : orderClass w k = .urgent <;> simp [hu]
    | wrongMode => exact ⟨rfl, rfl⟩
    | notPermitted => exact ⟨rfl, rfl⟩
    | held => exact ⟨rfl, rfl⟩
    | noCredit => exact ⟨rfl, rfl⟩

/-! ### Ends -/

/-- Freeing a slot, the waiting slots that take its place and the open opportunities this makes: port work on the state in
which the slot is free and stands in no queue. -/
theorem freed_work (s : State) (i : SlotNo) : PortWork (freeSlotAt s i) (pump (refill (freeSlotAt s i))) :=
  (refill_work _).trans (pump_work _)

theorem freeSlotAt_slot (s : State) (i j : SlotNo) : (freeSlotAt s i).slot j = if j = i then none else s.slot j := by
  unfold freeSlotAt
  rw [slot_setSlot, slot_dequeue]

/-- Everything an order's end does (R73): its slot is free, every other slot keeps its order, and the hand-offs follow. -/
theorem endOrder_spec (s : State) (i : SlotNo) (o : Order) (e : OrderEnd) :
    ∃ t : State, PortWork (freeSlotAt s i) t ∧
      endOrder s i o e = { t with agenda := t.agenda ++ (endTasks t i o e ++ t.releasesOf o.target) } :=
  ⟨_, freed_work s i, rfl⟩

/-- Everything a withdrawal does (R75). -/
theorem withdraw_spec (s : State) (i : SlotNo) (w : Owner) (u : UnitNo) (k : OrderKind) :
    (withdraw s i w u k = (s, none) ∧ ∀ o : Order, s.slot i = some o → o.isOf w u k = true → unsentYet s i o = false) ∨
      ∃ o : Order, s.slot i = some o ∧ o.isOf w u k = true ∧ unsentYet s i o = true ∧ (withdraw s i w u k).2 = some o ∧
        PortWork (freeSlotAt s i) (withdraw s i w u k).1 := by
  unfold withdraw
  split
  · next h => exact .inl ⟨rfl, by simp [h]⟩
  · next o h =>
    split
    · next hu =>
      simp only [Bool.and_eq_true] at hu
      exact .inr ⟨o, h, hu.1, hu.2, rfl, freed_work s i⟩
    · next hu => exact .inl ⟨rfl, by simpa [h] using hu⟩

/-- Slots freed one after the other leave the rest as they were. -/
theorem freeAll_slot (l : List (SlotNo × Order × OrderEnd)) (s : State) (j : SlotNo) :
    (l.foldl (fun s x => freeSlotAt s x.1) s).slot j = if j ∈ l.map Prod.fst then none else s.slot j := by
  induction l generalizing s with
  | nil => simp
  | cons x l ih =>
    simp only [List.foldl_cons, List.map_cons, List.mem_cons]
    rw [ih, freeSlotAt_slot]
    by_cases h1 : j ∈ l.map Prod.fst <;> by_cases h2 : j = x.1 <;> simp [h1, h2]

/-- Everything the ending of several slots does (R73, R77, R79). -/
theorem endMany_spec (s : State) (ends : List (SlotNo × Order × OrderEnd)) (after : List Task) :
    ∃ t : State, PortWork (ends.foldl (fun s x => freeSlotAt s x.1) s) t ∧
      endMany s ends after = { t with agenda := t.agenda ++
        (ends.flatMap (fun (i, o, e) => endTasks t i o e) ++ after ++ ends.flatMap fun (_, o, _) => t.releasesOf o.target) } :=
  ⟨_, (refill_work _).trans (pump_work _), rfl⟩

end Sys2Proof.Machine
end

