-- ==== Sys2Proof/Laws/Cascade.lean ====
section
/-! SUPPORT. The hand-offs of a step: a step without hand-offs settles at once, what every handler keeps the settling keeps,
and what a command of the Service Unit comes to when its request stands at the head of the queue. -/

namespace Sys2Proof.Machine

/-- With no hand-off left, draining does nothing. -/
theorem drain_nil (n : Nat) {s : State} (h : s.agenda = []) : drain n s = s := by
  cases n with
  | zero => rfl
  | succ n => unfold drain; rw [h]

/-- A state with no hand-off is settled. -/
@[simp] theorem settle_nil {s : State} (h : s.agenda = []) : settle s = s := drain_nil _ h

/-- What does not depend on the hand-offs and is kept by every handler, the draining keeps. -/
theorem drain_keeps {P : State → Prop} (hagenda : ∀ (s : State) (l : List Task), P s → P { s with agenda := l })
    (htask : ∀ (s : State) (t : Task), s.agenda = [] → P s → P (handleTask s t)) :
    ∀ (n : Nat) (s : State), P s → P (drain n s) := by
  intro n
  induction n with
  | zero => intro s h; exact h
  | succ n ih =>
    intro s h
    unfold drain
    split
    · exact h
    · exact ih _ (hagenda _ _ (htask _ _ rfl (hagenda _ _ h)))

/-- What does not depend on the hand-offs and is kept by every handler, the settling keeps. -/
theorem settle_keeps {P : State → Prop} (hagenda : ∀ (s : State) (l : List Task), P s → P { s with agenda := l })
    (htask : ∀ (s : State) (t : Task), s.agenda = [] → P s → P (handleTask s t)) {s : State} (h : P s) : P (settle s) :=
  drain_keeps hagenda htask _ s h

/-- A command of a part that runs. -/
theorem act_running {s : State} (h : s.inReset = false) (f : State → State) : act s f = .next (settle (f s)) := by
  simp [act, h]

/-- A command of a part that runs, when its effect leaves no hand-off. -/
theorem act_quiet {s : State} (h : s.inReset = false) {f : State → State} (ha : (f s).agenda = []) : act s f = .next (f s) := by
  rw [act_running h, settle_nil ha]

/-- The service of a request that stands at the head of the queue and is wanted. -/
theorem serve_head {s : State} {r : Request} {rest : List Request} (h : HeadIs s r rest) {wanted : Request → Bool}
    (hw : wanted r = true) (handler : State → Request → Served) :
    serve s wanted handler =
      joinReport (holdPlace (settle (handler (holdPlace (popRequest s rest) true) r).state) false)
        (responseTo r (handler (holdPlace (popRequest s rest) true) r).status
          (handler (holdPlace (popRequest s rest) true) r).result) := by
  unfold serve
  rw [h.queue]
  have hf : decide (0 < reportFree s) = true := by
    simp [reportFree, h.held, Config.depth, h.room]
  simp only [hw, hf, Bool.and_self, if_true]
  rfl

theorem joinReport_agenda (s : State) (r : ReportItem) : (joinReport s r).agenda = s.agenda :=
  (joinReport_work s r).outside.agenda

end Sys2Proof.Machine
end

