-- ==== Sys2Proof/Tests/Slice0.lean ====
section
/-! SUPPORT. Tests, whose expected values come from the spec's layouts and worked sequences (each names its section), the
smoke test of WellFormed, and for every obligation that has hypotheses a concrete state and operands that meet them
together (`meets_` and the obligation's name). -/

open Sys2Proof Sys2Proof.Machine

namespace Sys2Proof.Tests

set_option maxRecDepth 20000

/-- The state a command leaves. -/
def leaves (i : Instr) (s : State) : State :=
  match exec i s with
  | .next t => t
  | .fault _ => s
  | .refused _ => s

/-- The state after several commands, one step each. -/
def leavesAll (is : List Instr) (s : State) : State := is.foldl (fun s i => leaves i s) s

/-- The kinds of the records in the first slots of the Event Log. -/
def kinds (s : State) (n : Nat) : List (Option EventKind) :=
  (List.range n).map fun k => (s.events.log.get (Fin.ofNat 32 k)).map EventRec.kind

/-- The part in a mode, otherwise as after reset. -/
def inMode (m : Mode) : State := { State.reset with service := { mode := m } }

/-- Both ports transmit. -/
def bothBusy (s : State) : State :=
  (s.setPort .pa { up := true, tx := .forwarding }).setPort .pb { up := true, tx := .forwarding }
theorem busy_bothBusy (s : State) : Busy (bothBusy s) := fun p => by
  cases p <;> exact ⟨rfl, fun h => by cases h⟩

/-- A state whose Service Queue holds one request. -/
def asked (s : State) (r : Request) : State := { s with service := { s.service with queue := [r] } }

theorem asked_headIs (s : State) (r : Request) (h : Ready s) (room : s.egress.report.length < 16)
    (held : s.egress.held = false) : HeadIs (asked s r) r [] := ⟨h, rfl, room, held⟩

/-- A request of a kind, from an address, on PA. -/
def request (kind : Byte) (args : ReqArgs) : Request :=
  { port := .pa, src := 0x0C, unit := 255, unitKind := 0, seq := 3, epoch := 4, tag := 7, kind := kind, args := args }

/-- What the newest REPORT entry answers, or the one PA is sending: the status. -/
def statusOf (s : State) : Option Status :=
  match (s.port .pa).tx with
  | .report { payload := .report (.response _ _ st _), .. } => some st
  | _ => none

/-! ## WellFormed refuses what the bus cannot deliver -/

theorem test_wf_short_frame : wellFormed (.frameReceptionEnd .pa [1, 2, 3] false false) = false := by decide
theorem test_wf_short_errored_frame : wellFormed (.frameReceptionEnd .pa [1, 2, 3] true false) = true := by decide
theorem test_wf_mask_not_rising : wellFormed (.serviceRequest (request 1 (.write 1 0 [2, 2] [.num 1, .num 2]))) = false := by
  decide
theorem test_wf_wide_slot_number : wellFormed (.serviceRequest (request 5 (.slots [3, 256]))) = false := by decide
theorem test_wf_too_many_values :
    wellFormed (.serviceRequest (request 1 (.write 1 0 [0] (List.replicate 1487 (.num 0))))) = false := by
  decide
theorem test_no_word_spells_a_command : decodeTableWord 32 0 = none := rfl

/-! ## Frames, byte by byte from the layouts of section 1.7 -/

/-- A PV reading: unit 12, sequence 49, epoch 807, output 0, available 70,000, no cap, breaker CLOSED (section 3.9). -/
def readingBytes : List Byte :=
  [0x89, 0xA2, 1, 1, 12, 2, 0, 49, 0x03, 0x27, 0, 16, 0, 0, 0, 0, 0, 0x01, 0x11, 0x70, 0, 1, 0, 0, 0, 0, 0, 9] ++
    List.replicate 20 0 ++ [0xAA, 0xBB, 0xCC, 0xDD]

theorem test_reading_frame : deliveryOf .pb 0x4E false readingBytes =
    some (.reading { port := .pb, src := 0x4E, unit := 12, seq := 49, epoch := 807, body := .pv 0 70000 none .closed }) := by
  decide
theorem test_tagged_reading_frame : deliveryOf .pb 0x4E false ([0x81, 0, 0, 5] ++ readingBytes) =
    deliveryOf .pb 0x4E false readingBytes := by decide
theorem test_mark_frame : deliveryOf .pa 0x0A false
    ([0x89, 0xA2, 1, 2, 255, 0, 0, 1, 0x01, 0xF8, 0, 4, 0, 100, 0, 0] ++ List.replicate 36 0) =
    some (.mark { src := 0x0A, unit := 255, kind := 0, seq := 1, number := 504, period := 100 }) := by decide
theorem test_reply_frame : deliveryOf .pa 0x4E true
    ([0x89, 0xA2, 1, 4, 2, 0, 0, 1, 0, 0, 0, 4, 8, 1, 3, 0] ++ List.replicate 36 0) =
    some (.reply { port := .pa, src := 0x4E, unit := 2, kind := 0, seq := 1, epoch := 0, number := 8,
                   verdict := .refuse .outOfRange }) := by decide
theorem test_request_frame : deliveryOf .pa 0x0C true
    ([0x89, 0xA2, 1, 5, 255, 0, 0, 3, 0, 4, 0, 4, 0, 7, 3, 0] ++ List.replicate 36 0) =
    some (.request (request 3 .nothing)) := by decide
theorem test_reply_not_to_the_part : deliveryOf .pa 0x4E false
    ([0x89, 0xA2, 1, 4, 2, 0, 0, 1, 0, 0, 0, 4, 8, 1, 3, 0] ++ List.replicate 36 0) = none := by decide
theorem test_undefined_engine_code : deliveryOf .pa 0x4E false
    ([0x89, 0xA2, 1, 1, 2, 1, 0, 1, 0, 0, 0, 8, 0, 0, 0, 9, 1, 4, 0, 0] ++ List.replicate 32 0) = none := by decide

theorem test_second_tag_delivers_nothing :
    deliveryOf .pb 0x4E false ([0x81, 0, 0, 5, 0x81, 0, 0, 5] ++ readingBytes) = none := by decide
theorem test_version_2_delivers_nothing :
    deliveryOf .pb 0x4E false ([0x89, 0xA2, 2] ++ readingBytes.drop 3) = none := by decide
theorem test_length_beyond_the_end_delivers_nothing :
    deliveryOf .pb 0x4E false (readingBytes.take 11 ++ [37] ++ readingBytes.drop 12) = none := by decide

/-! ## Reset, link, timebase and the Frame Path -/

theorem test_station_address : (leaves (.powerOnResetEnd 0x5A true false) State.powerOn).frame.station = 0x021B4000005A := by
  decide
theorem test_power_on_reset_halts : (leaves .powerOnReset (inMode .active)).mode = .halted := by decide
theorem test_timebase_wraps : (leaves .timebaseTick { State.reset with now := 0xFFFFFFFF }).now = 0 := by decide

/-- A frame that waits in a forwarding buffer. -/
def waitingPlace : Place := { receiving := false, addrs := some (0x0B, 0x0C), rest := List.replicate 52 0 }

/-- PA is DOWN and a received frame waits to be sent on it. -/
def paDown : State := State.reset.setPort .pb { up := true, buffer := [waitingPlace] } |>.setPort .pa { up := false }

theorem test_link_down_frees : ((leaves (.linkDown .pb) paDown).port .pb).up = false := by decide
theorem test_link_up_sends_the_waiting_frame : ((leaves (.linkUp .pa) paDown).port .pa).tx = .forwarding := by decide

/-- All four places of PA's buffer are taken. -/
def full : State := State.reset.setPort .pa { up := true, buffer := List.replicate 4 waitingPlace }

theorem test_frame_lost_to_a_full_buffer :
    (leaves (.frameArrivalStart .pa) full).isLatched .forwardDrop = true := by decide
theorem test_frame_takes_a_place : ((leaves (.frameArrivalStart .pa) State.reset).port .pa).buffer = [{}] := by decide

/-- The head of a frame is arriving on PA. -/
def atHead : State := State.reset.setPort .pa { up := true, rx := .head, buffer := [waitingPlace, {}] }

theorem test_ring_return_is_taken_off :
    (leaves (.frameAddressesReceived .pa 0x0B (stationOf 0)) atHead).port .pa =
      { up := true, rx := .ringReturn, buffer := [waitingPlace] } := by decide
theorem test_cut_through : ((leavesAll [.frameArrivalStart .pa, .frameAddressesReceived .pa 0x0B 0x0C] State.reset).port
    .pb).tx = .forwarding := by decide

/-- A reading is arriving for forwarding, waiting behind another frame. -/
def arriving : State := State.reset
  |>.setPort .pa { up := true, rx := .forwarded 0x0B 0x4E,
                   buffer := [waitingPlace, { addrs := some (0x0B, 0x4E) }] }
  |>.setPort .pb { up := true, tx := .forwarding }

theorem test_forwarded_reading_is_delivered :
    (leaves (.frameReceptionEnd .pa readingBytes false false) arriving).frame.delivered.length = 1 := by decide
theorem test_errored_frame_is_removed :
    ((leaves (.frameReceptionEnd .pa readingBytes true false) arriving).port .pa).buffer = [waitingPlace] := by decide

/-- A reply is arriving for the part. -/
def consuming : State := State.reset.setPort .pa { up := true, rx := .consumed 0x4E }

/-- The ORDER frame of step 2 of section 1.6: the OPEN with sequence 1,402. -/
def openFrame : OutFrame :=
  { dst := 0x4E, src := stationOf 0, unit := 7, kind := .feeder, seq := 1402, epoch := 1, payload := .order 21 .opn 0 }

theorem test_order_frame_bytes : openFrame.bytes.drop 12 =
    [0x89, 0xA2, 1, 3, 7, 4, 0x05, 0x7A, 0, 1, 0, 8, 21, 5, 0, 0, 0, 0, 0, 0] ++ List.replicate 28 0 := by decide

/-- An OPEN to feeder 7 is being sent on PB while a reading waits behind it (section 1.6, step 2). -/
def openOrder : Order :=
  { target := 7, kind := .opn, value := none, number := 21, owner := .shed, cls := .urgent, planStep := none,
    inTx := { pb := true }, stamp := some ⟨1402, 1⟩ }
def sendingOpen : State := ((inMode .active).setSlot 0 (some openOrder)
  |>.setPort .pa { up := true, buffer := [waitingPlace] }
  |>.setPort .pb { up := true, tx := .order 0 openFrame })

theorem test_copy_end_sends_the_waiting_frame :
    ((leaves (.transmitEnd .pb) sendingOpen).port .pb).tx = .forwarding := by decide
theorem test_copy_end_starts_the_reply_time :
    ((leaves (.transmitEnd .pb) { sendingOpen with now := 1000 }).slot 0).bind Order.deadline = some 1200 := by decide

/-- A forwarded frame is being sent on PB; another waits behind it. -/
def forwarding : State := State.reset
  |>.setPort .pa { up := true, buffer := [{ waitingPlace with sending := true }, waitingPlace] }
  |>.setPort .pb { up := true, tx := .forwarding }
def forwardingLast : State := State.reset
  |>.setPort .pa { up := true, buffer := [{ waitingPlace with sending := true }] }
  |>.setPort .pb { up := true, tx := .forwarding }

/-- A frame in cut-through from PA is still being received when its transmission on PB ends: it is longer than 1,522 bytes. -/
def overlong : State := State.reset
  |>.setPort .pa { up := true, rx := .forwarded 0x0B 0x4E, buffer := [{ addrs := some (0x0B, 0x4E), sending := true }] }
  |>.setPort .pb { up := true, tx := .forwarding }

theorem test_overlong_frame_is_cut_off :
    let t := leaves (.transmitEnd .pb) overlong
    ((t.port .pb).tx, (t.port .pa).rx, (t.port .pa).buffer) = (.free, .overlong, []) := by decide
theorem test_overlong_frame_delivers_nothing :
    let t := leavesAll [.transmitEnd .pb, .frameReceptionEnd .pa readingBytes false false] overlong
    ((t.port .pa).rx, t.frame.delivered) = (.idle, []) := by decide

/-- PA sends a notice, and an OPEN that only PA may take is queued; a frame waits for PA. -/
def reporting (b : List Place) : State :=
  { (inMode .active).setSlot 0 (some { openOrder with inTx := {}, stamp := none }) with egress := { urgent := [0] } }
    |>.setPort .pa { up := true, tx := .report { openFrame with payload := .report (.notice 1 0 .busDead) } }
    |>.setPort .pb { up := true, tx := .forwarding, buffer := b }
    |>.setUnit 7 { kind := .feeder, link := some 0x4E, live := { side := some .pa } }
def reportingAlone : State := { reporting [] with orders := {}, egress := {} }

theorem test_urgent_goes_before_the_waiting_frame :
    (match ((leaves (.transmitEnd .pa) (reporting [waitingPlace])).port .pa).tx with
      | .order i f => (i, f.payload)
      | _ => (11, .order 0 .start 0)) = (0, .order 21 .opn 0) := by decide

/-- A cap for PV unit 12 and a notice wait for PA, whose phase pointer stands at the first position, a DISPATCH one; PB transmits. -/
def offering (caps : List SlotNo) (reports : List ReportItem) : State :=
  { (inMode .active).setSlot 0 (some {
      target := 12, kind := .setCap, value := some 535, number := 21, owner := .curtail, cls := .setpoint, planStep := none })
    with egress := { setpoint := caps, report := reports } }
    |>.setPort .pa { up := true, tx := .report { openFrame with payload := .report (.notice 1 0 .busDead) } }
    |>.setPort .pb { up := true, tx := .forwarding }
    |>.setUnit 12 { kind := .pv, link := some 0x4E, live := { side := some .pa } }
def noticeOnPa : ReportItem := { dst := 0x0C, ports := { pa := true }, body := .notice 1 0 .busDead }

theorem test_phase_table_passes_over_a_class_without_an_item :
    let t := leaves (.transmitEnd .pa) (offering [0] [noticeOnPa])
    (t.phase .pa, t.phase .pb, t.frame.seqOrder, t.egress.setpoint, t.egress.report.length) = (2, 0, 1, [], 1) := by decide
theorem test_phase_table_serves_report :
    let t := leaves (.transmitEnd .pa) (offering [] [noticeOnPa])
    (t.phase .pa, t.frame.seqNotice, t.frame.seqOrder, t.egress.report) = (4, 1, 0, []) := by decide

/-! ## Epochs (section 2.9) -/

/-- The two time masters and the epoch mode DUAL. -/
def dual (m : Mode) : Service :=
  { mode := m, settings := { epochMode := .dual },
    access := { primaryTimeMaster := some 0x0A, secondaryTimeMaster := some 0x0B } }

/-- Section 2.9 at 400, PRIMARY on 503. -/
def governed : State :=
  { State.reset with
    now := 400
    service := dual .active
    tracker := {
      epoch := 503, state := .primary, period := 100, primaryRec := some ⟨503, 300⟩, secondaryRec := some ⟨503, 340⟩,
      lossDeadline := some 600 } }
def primaryMark (n : Num16) : MarkMsg := { src := 0x0A, unit := 255, kind := 0, seq := 1, number := n, period := 100 }
def secondaryMark (n : Num16) : MarkMsg := { primaryMark n with src := 0x0B }

/-- Section 2.9 at 600: the secondary was heard at 540. -/
def losing : State :=
  { governed with now := 600, tracker := { governed.tracker with secondaryRec := some ⟨505, 540⟩ } }

/-- Section 2.9 at 640, SECONDARY. -/
def onSecondary : State := { leaves .primaryLoss losing with now := 640 }

theorem test_primary_loss : (onSecondary.tracker.state, onSecondary.tracker.epoch, onSecondary.tracker.lossDeadline) =
    (.secondary, 503, some 840) := by decide
theorem test_secondary_mark_jumps :
    let t := leaves (.epochMark (secondaryMark 506)) onSecondary
    (t.tracker.epoch, t.tracker.lossDeadline, t.tracker.passInProgress, kinds t 3) =
      (506, some 940, true, [some .epochSourceChanged, some .conditionLatched, some .epochJump]) := by decide

/-- Section 2.9 at 1,140: the secondary has failed too. -/
def losingSecondary : State :=
  { onSecondary with
    now := 1140
    tracker := { onSecondary.tracker with
      epoch := 508, secondaryRec := some ⟨508, 840⟩, lossDeadline := some 1140 } }
def free : State := { leaves .secondaryLoss losingSecondary with now := 1240 }

theorem test_secondary_loss : (free.tracker.state, free.tracker.freeDeadline, free.isLatched .epochFreeRun) =
    (.freeRun, some 1240, true) := by decide
theorem test_free_run_step :
    let t := leaves .freeRunExpiry free
    (t.tracker.epoch, t.tracker.freeDeadline, t.tracker.passInProgress) = (509, some 1340, true) := by decide

/-- Section 2.9 at 1,600, two marks of the primary counted. -/
def returning : State :=
  { free with
    now := 1600
    tracker := { free.tracker with
      epoch := 512, freeDeadline := some 1640, primaryRec := some ⟨531, 1500⟩, primaryReturn := 2 } }

theorem test_takeover :
    let t := leaves (.epochMark (primaryMark 532)) returning
    (t.tracker.state, t.tracker.epoch, t.tracker.lossDeadline, t.tracker.freeDeadline, t.tracker.primaryReturn) =
      (.primary, 532, some 1900, none, 0) := by decide

/-- UNSET at its deadline, with a secondary mark 1,000 ms old. -/
def unset : State :=
  { State.reset with
    now := 3000
    service := dual .observe
    tracker := { secondaryRec := some ⟨77, 2000⟩, unsetDeadline := some 3000 } }

theorem test_unset_deadline_follows_the_secondary :
    let t := leaves .unsetDeadlineExpiry unset
    (t.tracker.state, t.tracker.epoch, t.tracker.lossDeadline) = (.secondary, 77, some 5000) := by decide
theorem test_window_wraps : inWindow { state := .primary, epoch := 0 } 65535 = true := by decide

/-! ## The balance pass: worked case A (section 5.7) -/

def onlineGenset (rating : Nat) (output : Int) : UnitRec :=
  { kind := .genset, link := some 0x4E, rating := rating, permits := { start := true, stop := true },
    live := { freshness := .fresh, values := { output := output, breaker := .closed, engine := .running } },
    gensetJob := { dispatch := .online, onlineSince := some 0 } }
def pvUnit (rating floor : Nat) (output : Int) : UnitRec :=
  { kind := .pv, link := some 0x4E, rating := rating, permits := { setCap := true, clearCap := true }, pv := { floor := floor },
    live := { freshness := .fresh, values := { output := output, breaker := .closed } }, pvJob := { setpoint := .idle } }
def closedFeeder (load : Nat) : UnitRec :=
  { kind := .feeder, link := some 0, live := { freshness := .fresh, values := { load := load, breaker := .closed } },
    feederJob := { shed := .closed } }
def meterUnit (frequency : Nat) : UnitRec :=
  { kind := .meter, link := some 0,
    live := { freshness := .fresh, values := { frequency := frequency, voltage := 400 } } }

/-- The snapshot's units: G1, G2, G3, B1, PV1, PV2, one feeder with the whole load, and the reference meter. -/
def caseA : State :=
  ({ inMode .active with
      now := 1000000
      service := { mode := .active, settings := { reference := some 40, rrMin := 300 } }
      dispatcher := { commit := [1, 2] }
      tracker := { epoch := 1201, state := .primary } }
    |>.setUnit 1 (onlineGenset 800 520) |>.setUnit 2 (onlineGenset 500 310)
    |>.setUnit 3 { kind := .genset, rating := 600, live := { freshness := .fresh } }
    |>.setUnit 4 { kind := .storage, live := { freshness := .fresh, values := { discharge := 150, breaker := .closed } } }
    |>.setUnit 5 (pvUnit 700 0 600) |>.setUnit 6 (pvUnit 400 0 300)
    |>.setUnit 7 (closedFeeder 1730) |>.setUnit 40 (meterUnit 49980))

/-- The pass of case A under way. -/
def passing : State :=
  { caseA with
    tracker := { caseA.tracker with passInProgress := true }
    balance := { working := some (takeSnapshot caseA) } }

theorem test_case_a_sums :
    let p := (leaves .passCompletion passing).balance.published
    [p.pg, p.ppv, p.ps, p.pl, p.gen, p.sr, p.rr, p.rm, p.rmProspect] = [830, 900, 0, 1730, 1730, 490, 520, -30, -30] := by
  decide
theorem test_case_a_decisions :
    let p := (leaves .passCompletion passing).balance.published
    (p.deltaF, p.cd, p.condition, p.startCount, p.startWanted) = (-20, 0, .lean, 1, false) ∧
      (p.stopCandidate, p.rmAfter, p.restoreNeed) = (some 2, some (-480), none) := by decide

/-! ## Curtailment: the worked allocation (section 6.8) -/

def threePv : State :=
  inMode .active |>.setUnit 1 (pvUnit 700 50 600) |>.setUnit 2 (pvUnit 400 0 300) |>.setUnit 3 (pvUnit 100 30 30)

theorem test_cuts : [1, 2, 3].map (allocatedCut threePv 100) = [65, 35, 0] := by decide
theorem test_headroom : totalHeadroom threePv = 850 := by decide

/-- Section 6.8 at 20,070: PV1's SET_CAP 535 and PV2's SET_CAP 265 are SENT. -/
def capOrder (u : UnitNo) (cap : Nat) (number : Byte) : Order :=
  { target := u, kind := .setCap, value := some cap, number := number, owner := .curtail, cls := .setpoint, planStep := none,
    state := .sent, deadline := some 20230 }
def capped : State :=
  { threePv with now := 20070 }
    |>.setPv 1 { commanded := some 535, setpoint := .ordered, slot := some 0 }
    |>.setPv 2 { commanded := some 265, setpoint := .ordered, slot := some 1 }
    |>.setSlot 0 (some (capOrder 1 535 21)) |>.setSlot 1 (some (capOrder 2 265 8))
def replyOf (u : UnitNo) (number : Byte) (v : Verdict) : ReplyMsg :=
  { port := .pb, src := 0x4E, unit := u, kind := 2, seq := 1, epoch := 1, number := number, verdict := v }

theorem test_accept_settles_the_cap :
    let t := leaves (.orderReply (replyOf 1 21 .accept)) capped
    ((t.unit 1).pvJob, (t.slot 0).isNone, (t.slot 1).isNone) =
      ({ commanded := some 535, heldCap := some 535, setpoint := .idle, slot := none }, true, false) := by decide
theorem test_refuse_returns_to_the_held_cap :
    let t := leaves (.orderReply (replyOf 2 8 (.refuse .outOfRange))) capped
    ((t.unit 2).pvJob, kinds t 1) =
      ({ commanded := none, heldCap := none, setpoint := .idle, slot := none }, [some .orderRefused]) := by decide

/-! ## Reading Intake and the manual hold (section 3.9) -/

/-- PV unit 12 of section 3.9, silent since 1,100. -/
def silentPv : State :=
  { inMode .active with now := 1720, tracker := { epoch := 807, state := .primary } }
    |>.setUnit 12 { pvUnit 700 0 600 with
        live := { freshness := .stale, lastSeq := 42, lastEpoch := 801, lastArrival := some 1100, side := some .pb } }

/-- Reading 49 of unit 12, its available power 70,000 (section 3.9). -/
def reading49 : ReadingMsg :=
  { port := .pa, src := 0x4E, unit := 12, seq := 49, epoch := 807, body := .pv 0 70000 none .closed }

theorem test_reading_after_a_silence :
    let l := ((leaves (.reading reading49) silentPv).unit 12).live
    (l.freshness, l.lastSeq, l.side, l.values.available, l.clampCount) = (.fresh, 49, some .pa, 65535, 1) := by decide
theorem test_reading_outside_the_window :
    ((leaves (.reading { reading49 with seq := 48, epoch := 805 }) silentPv).unit 12).live.freshness = .stale := by decide

/-- The meter's link address was never written: its reading is dropped, though its source is the 00-00-00-00-00-00 that the record
reads as (R45). -/
def unlinked : State := caseA.setUnit 40 { meterUnit 49992 with link := none }
theorem test_unwritten_link_address_drops_the_reading :
    let t := leaves (.reading { port := .pa, src := 0, unit := 40, seq := 8, epoch := 1201, body := .meter 50000 400 }) unlinked
    ((t.unit 40).live.values.frequency, t.isLatched .addressMismatch) = (49992, true) := by decide

/-- The record FRESH again; the second copy of reading 49 arrives at 1,726. -/
def freshPv : State := { leaves (.reading reading49) silentPv with now := 1726 }
def wrongSource : ReadingMsg := { reading49 with seq := 50, src := 0x4F }

theorem test_duplicate_is_dropped :
    ((leaves (.reading { reading49 with port := .pb }) freshPv).unit 12).live.side = some .pa := by decide

/-- The technician's SET_CAP of section 3.9. -/
def technician : ObservedMsg :=
  { src := 0x99, unit := 12, kind := .pv, seq := 1, epoch := 1, number := 1, order := .setCap, value := 100 }
def observed : State := leaves (.observedOrder technician) { freshPv with now := 1800 }

theorem test_manual_hold_starts :
    ((observed.unit 12).live.hold, (observed.events.log.get 1).map fun e => (e.kind, e.value, e.detail)) =
      (some 61800, some (.manualHold, some 60000, some 3)) := by decide
theorem test_second_copy_stretches_the_hold :
    let t := leaves (.observedOrder technician) { observed with now := 1805 }
    ((t.unit 12).live.hold, t.events.log.get 2) = (some 61805, none) := by decide
theorem test_manual_hold_ends :
    ((leaves (.manualHoldEnd 12) { observed with now := 61800 }).unit 12).live.hold = none := by decide

/-! ## Gen-sets (sections 7.8 and 7.9) -/

/-- G1 trips while it carries 380 kW (section 7.9). -/
def tripping : State :=
  { inMode .active with now := 1500004, dispatcher := { commit := [1, 2] } }
    |>.setUnit 1 (onlineGenset 800 380) |>.setUnit 2 (onlineGenset 500 100)
def tripReading : ReadingMsg :=
  { port := .pa, src := 0x4E, unit := 1, seq := 5, epoch := 9, body := .genset 0 .opn .faulted .remote }
def tripped : State :=
  leaves (.reading tripReading) (tripping.setLive 1 { (tripping.unit 1).live with lastArrival := some 1500000 })

theorem test_trip_leaves_the_commitment_list :
    (tripped.dispatcher.commit, (tripped.unit 1).gensetJob.dispatch, (tripped.unit 1).gensetJob.trips) =
      ([2], .unavailable, 1) := by decide
theorem test_trip_is_recorded :
    ((tripped.events.log.get 0).map fun e => (e.kind, e.value, e.detail), tripped.balance.tripPending,
      tripped.isLatched .gensetTrip) = (some (.gensetTripped, some 380, some 1), true, true) := by decide

/-- G4 STARTING with its dispatch deadline 300,560 reached (section 7.8). -/
def starting : State :=
  { inMode .active with now := 300560, dispatcher := { commit := [1, 4] } }
    |>.setUnit 1 (onlineGenset 800 520)
    |>.setUnit 4 { onlineGenset 500 0 with
        live := { freshness := .fresh },
        gensetJob := { dispatch := .starting, deadline := some 300560 } }

theorem test_start_timeout :
    let j := ((leaves (.startTimeout 4) starting).unit 4).gensetJob
    (j.dispatch, j.attempts, j.retryAfter, j.deadline) = (.stopped, 1, some 330560, none) := by decide

/-- G4 STOPPING with its dispatch deadline reached. -/
def stopping (b : Breaker) : State :=
  { inMode .active with now := 500, dispatcher := { commit := [1, 4] } }
    |>.setUnit 1 (onlineGenset 800 520)
    |>.setUnit 4 { onlineGenset 500 0 with
        live := { freshness := .fresh, values := { breaker := b } },
        gensetJob := { dispatch := .stopping, deadline := some 500, onlineSince := some 3 } }

theorem test_stop_timeout_open :
    let t := leaves (.stopTimeout 4) (stopping .opn)
    ((t.unit 4).gensetJob.dispatch, t.dispatcher.commit, (t.events.log.get 0).bind EventRec.detail) =
      (.stopped, [1], some 2) := by decide
theorem test_stop_timeout_closed :
    let t := leaves (.stopTimeout 4) (stopping .closed)
    ((t.unit 4).gensetJob.dispatch, t.dispatcher.commit, (t.events.log.get 0).bind EventRec.detail) =
      (.online, [1, 4], some 3) := by decide

/-! ## Orders -/

/-- PV1's SET_CAP 535 of section 6.8, unanswered at its deadline, on its attempt. -/
def unanswered (m : Mode) (attempt : Nat) : State :=
  { capped with now := 20230, service := { mode := m } }.setSlot 0 (some { capOrder 1 535 21 with attempt := attempt })

theorem test_retry_keeps_the_number :
    ((leaves (.replyTimeout 0) (unanswered .active 1)).slot 0).map (fun o => (o.number, o.attempt)) = some (21, 2) := by
  decide
theorem test_final_timeout :
    let t := leaves (.replyTimeout 0) (unanswered .active 3)
    (t.slot 0, (t.unit 1).pvJob.commanded, t.isLatched .unitUnreachable, (t.events.log.get 0).map EventRec.value) =
      (none, none, true, some (some 3)) := by decide

/-! ## Feeders (section 8.11) and the plan (section 9.9) -/

/-- F1 RESTORING on the stack above F7, with its restore deadline 645,140 reached. -/
def restoring (fails : Nat) : State :=
  { inMode .active with
    now := 645140
    shed := { stack := [⟨7, .predictive, 120, 3⟩, ⟨1, .predictive, 200, 3⟩] } }
    |>.setUnit 7 { closedFeeder 120 with feederJob := { shed := .shed } }
    |>.setUnit 1 { closedFeeder 0 with
        feederJob := { shed := .restoring, deadline := some 645140, restoreFail := fails } }

theorem test_first_restore_failure :
    let t := leaves (.restoreTimeout 1) (restoring 0)
    ((t.unit 1).feederJob.shed, (t.unit 1).feederJob.restoreFail, t.shed.stack.length) = (.shed, 1, 2) := by decide
theorem test_second_restore_failure :
    let t := leaves (.restoreTimeout 1) (restoring 1)
    ((t.unit 1).feederJob.shed, t.shed.stack.map StackEntry.feeder, (t.events.log.get 0).map fun e => (e.value, e.detail)) =
      (.openOther, [7], some (some 200, some 3)) := by decide

/-- Step 5 of section 9.9, CLOSE_UNIT of storage unit 8 with policy SKIP, at its deadline 121,800. -/
def waitingStep : State :=
  { State.reset with
    now := 121800
    service := { mode := .restore }
    seqr := {
      plan := (Vector.replicate 32 ({} : PlanStep)).set 5 { action := .closeUnit, argument := 8, policy := .skip }
        |>.set 6 { action := .waitStable, hold := 3000 }
      progress := { planState := .running, current := 5, stepState := .waiting, deadline := some 121800 } } }
    |>.setUnit 8 { kind := .storage, permits := { opn := true, close := true }, live := { freshness := .fresh } }

theorem test_step_timeout_skips :
    let t := leaves .stepTimeout waitingStep
    t.progress.current = 6 ∧ (t.events.log.get 0).map (fun e => (e.kind, e.value, e.detail)) =
      some (.stepFailed, some 5, some 1) := by decide

/-! ## Under-frequency shedding -/

/-- A stage of threshold 49,500, delay 200 and hysteresis 100, and arrivals of a meter. -/
def stage : Stage := { threshold := 49500, delay := 200 }
def arrival (f : Nat) (t : Time) (gap : Option Nat) (changed : Bool) : Arrival :=
  { meter := 40, frequency := f, voltage := 400, time := t, interval := 100, gap := gap, sourceChanged := changed }

theorem test_stage_trips_when_its_delay_has_run :
    (takeTimer stage (arrival 49599 1200 (some 1) false) false { state := .timing, since := some 1000 }).state = .tripped := by
  decide
theorem test_rate_is_truncated_toward_zero :
    (takeRocof { prevFrequency := some 50000, prevMeter := some 40 } (arrival 49999 1200 (some 3) false) 1000).latest =
      some (-3) := by decide

/-! ## Service requests -/

theorem test_request_joins_the_queue :
    (leaves (.serviceRequest (request 3 .nothing)) State.reset).service.queue = [request 3 .nothing] := by decide

/-- Both controllers are written; the request comes from another address. -/
def guarded : State :=
  { State.reset with service := { access := { primaryController := some 0x1C, backupController := some 0x1D } } }

theorem test_request_of_a_stranger_is_dropped :
    (leaves (.serviceRequest (request 3 .nothing)) guarded).service.queue = [] := by decide

/-- The Service Queue is full. -/
def crowded : State := { State.reset with service := { queue := List.replicate 16 (request 3 .nothing) } }

theorem test_full_queue_answers_busy :
    statusOf (leaves (.serviceRequest (request 3 .nothing)) crowded) = some .busy := by decide

/-- WRITE RECORD of table ACCESS, field 0 (section 11.5). -/
theorem test_write_access :
    (leaves .writeRecord (asked State.reset (request 1 (.write 7 0 [0] [.addr 0x0C])))).access.primaryController =
      some 0x0C := by decide
theorem test_write_is_clamped :
    let t := leaves .writeRecord (asked State.reset (request 1 (.write 6 0 [6] [.num 9000])))
    (t.settings.replyTime, statusOf t) = (5000, some .doneClamped) := by decide
theorem test_mask_that_does_not_rise_is_a_bad_request :
    statusOf (leaves .unknownRequestKind (asked State.reset (request 1 (.write 1 0 [0, 0] [.num 1, .num 0])))) =
      some .badRequest := by decide
theorem test_state_codes :
    (stateCodes { State.reset with balance := { published := { condition := .short } } }).condition = 3 ∧
      ({ closedFeeder 0 with feederJob := { shed := .openPlan } } : UnitRec).codes.shed = 6 := by decide
theorem test_read_record_keeps_the_state :
    statusOf (leaves .readRecord (asked State.reset (request 2 (.read 6 0 1)))) = some .done := by decide
theorem test_read_state : statusOf (leaves .readState (asked State.reset (request 3 .nothing))) = some .done := by decide
theorem test_read_events_bad_slot :
    statusOf (leaves .readEvents (asked State.reset (request 4 (.slots [0, 32])))) = some .badIndex := by decide
theorem test_unknown_kind :
    statusOf (leaves .unknownRequestKind (asked State.reset (request 15 .nothing))) = some .badRequest := by decide

/-- The log of section 10.4: four records, the primary controller on PA, groups 1, 5 and 6 outstanding. -/
def eventOf (k : EventKind) : Option EventRec :=
  some { kind := k, time := 0, epoch := 0, unit := none, value := none, detail := none }
def logged : State :=
  { State.reset with
    service := { access := { primaryController := some 0x0C } }
    events := {
      log := (Vector.replicate 32 none).set 0 (eventOf .gensetTripped) |>.set 1 (eventOf .conditionLatched)
        |>.set 2 (eventOf .predictiveShed) |>.set 3 (eventOf .gensetStarted)
      writeIndex := 4
      primarySide := some .pa
      groups := (Vector.replicate 8 false).set 1 true |>.set 5 true |>.set 6 true } }

theorem test_acknowledgement_clears_groups :
    (leaves .ackEvents (asked logged (request 5 (.slots [0, 1, 2])))).events.groups.toList =
      [false, false, false, false, false, true, false, false] := by decide
theorem test_notice_is_queued_once :
    let t := recordEntry logged .feederRestored none none none
    (t.egress.report.length, t.events.writeIndex) = (0, 5) := by decide

/-- Section 10.4's overflow: every slot pending but 3 to 10, write index 3. -/
def overflowed : State :=
  { State.reset with
    events := {
      log := Vector.ofFn fun i : Fin 32 => if 3 ≤ i.val ∧ i.val ≤ 10 then none else eventOf .modeChanged
      writeIndex := 3
      overflow := true } }

theorem test_clear_overflow :
    let t := leaves .clearOverflow (asked overflowed (request 7 .nothing))
    (t.events.overflow, t.events.writeIndex) = (false, 3) := by decide
theorem test_event_lost_while_overflowed :
    (recordEntry overflowed .busDead none none none) = overflowed := by decide

/-- FREE_RUN with EPOCH_FREE_RUN and PASS_OVERRUN latched; the first is still present. -/
def conditioned : State :=
  { State.reset with tracker := { state := .freeRun }, events := { latched := 0b1010#14 } }

theorem test_clear_conditions :
    (leaves .clearConditions (asked conditioned (request 6 (.conditions 0b1010#14)))).events.latched = 0b0010#14 := by decide

/-- OBSERVE with a METER reference. -/
def observing : State :=
  { State.reset with service := { mode := .observe, settings := { reference := some 40 } } }.setUnit 40 (meterUnit 50000)

theorem test_set_mode_active :
    let t := leaves .setMode (asked observing (request 8 (.mode 2)))
    (t.mode, (t.events.log.get 0).map fun e => (e.kind, e.value, e.detail)) = (.active, some (.modeChanged, some 1, some 2)) := by
  decide
theorem test_set_mode_needs_a_meter :
    statusOf (leaves .setMode (asked (inMode .observe) (request 8 (.mode 2)))) = some .wrongMode := by decide

/-- Section 4.7: feeders 20 to 23 and the PV units 12 and 13, and the six slots. -/
def planOpen (u : UnitNo) (number : Byte) : Order :=
  { target := u, kind := .opn, value := none, number := number, owner := .plan, cls := .urgent, planStep := some 0 }
def cancelling : State :=
  { inMode .restore with
    now := 10050
    seqr := {
      plan := (Vector.replicate 32 ({} : PlanStep)).set 0 { action := .openAllFeeders }
      progress := {
        planState := .running
        orders := [⟨0, 20, .opn⟩, ⟨1, 21, .opn⟩, ⟨2, 22, .opn⟩, ⟨3, 23, .opn⟩] } }
    egress := { urgent := [2, 3], setpoint := [4] } }
    |>.setUnit 20 (closedFeeder 10) |>.setUnit 21 (closedFeeder 10) |>.setUnit 22 (closedFeeder 10)
    |>.setUnit 23 (closedFeeder 10) |>.setUnit 12 (pvUnit 700 0 100) |>.setUnit 13 (pvUnit 700 0 100)
    |>.setSlot 0 (some { planOpen 20 7 with state := .sent, deadline := some 10150 })
    |>.setSlot 1 (some { planOpen 21 4 with state := .sent, deadline := some 10180 })
    |>.setSlot 2 (some (planOpen 22 9))
    |>.setSlot 3 (some { planOpen 23 2 with state := .sent, deadline := some 10210, pendingPort := some .pb })
    |>.setSlot 4 (some { capOrder 12 0 15 with state := .queued, deadline := none })
    |>.setSlot 5 (some { capOrder 13 0 11 with deadline := some 10160 })

theorem test_cancellation_is_widened :
    cancelReport cancelling (.unit 22) = { scope := .stepWidened, unsent := 1, unknown := 3 } := by decide
theorem test_cancellation_record :
    (leaves .cancelOrders (asked cancelling (request 9 (.scope 2 22)))).events.log.toList.any (fun e =>
      e.any fun e => e.kind == .ordersCancelled && e.unit == some 22 && e.value == some 4 && e.detail == some 3) = true := by
  decide

/-- OBSERVE with a plan whose first step waits for a stable bus. -/
def planned : State :=
  { observing with seqr := { plan := (Vector.replicate 32 ({} : PlanStep)).set 0 { action := .waitStable, hold := 3000 } } }

theorem test_start_plan :
    let t := leaves .startPlan (asked planned (request 10 .nothing))
    (t.mode, t.progress.planState, t.progress.current, t.alloc.planLimit) = (.restore, .running, 0, some 0) := by decide
theorem test_start_plan_without_a_step :
    let t := leaves .startPlan (asked { observing with seqr := { progress := { attempt := 3, failCause := some 1 } } }
      (request 10 .nothing))
    (t.mode, t.progress.planState, t.progress.endCause, t.progress.attempt, t.progress.failCause) =
      (.observe, .aborted, some 3, 1, none) := by decide
theorem test_abort_plan :
    let t := leaves .abortPlan (asked cancelling (request 11 .nothing))
    (t.mode, t.progress.planState, t.progress.endCause, t.isLatched .planFailed) = (.observe, .aborted, some 5, true) := by decide

/-- A feeder found open, and a gen-set locked out. -/
def released : State :=
  inMode .active |>.setUnit 7 { closedFeeder 120 with feederJob := { shed := .openOther, restoreFail := 2 } }
    |>.setUnit 1 { onlineGenset 800 0 with
        gensetJob := { dispatch := .lockedOut, attempts := 2, retryAfter := some 9 } }

theorem test_release_feeder :
    let t := leaves .releaseFeeder (asked released (request 12 (.unit 7)))
    ((t.unit 7).feederJob.shed, (t.unit 7).feederJob.restoreFail, t.shed.stack.map fun e => (e.feeder, e.cause, e.load)) =
      (.shed, 0, [(7, .manual, 120)]) := by decide
theorem test_reset_lockout :
    let j := ((leaves .resetLockout (asked released (request 13 (.unit 1)))).unit 1).gensetJob
    (j.dispatch, j.attempts, j.trips, j.retryAfter) = (.stopped, 0, 0, none) := by decide
theorem test_engine_reset :
    let t := leaves .engineReset (asked released (request 14 .nothing))
    (t.mode, (t.unit 7).feederJob.shed, (t.unit 1).rating, kinds t 1) = (.observe, .unknown, 800, [some .engineReset]) := by decide

/-! ## Steps -/

theorem test_step_takes_the_front_command :
    (match step { State.reset with pending := [.timebaseTick, .readState] } with
      | .next t => (t.now, t.pending)
      | .fault _ => (9, [])
      | .refused _ => (9, [])) = (1, [.readState]) := by decide

/-! ## The hypotheses of the statements can be met -/

/-- A gen-set ONLINE, a PV order QUEUED, a feeder SHED on the stack and a meter, in ACTIVE with a tick waiting; a condition
is latched and a record is in the log. -/
def island : State :=
  { inMode .active with
    dispatcher := { commit := [1] }
    shed := { stack := [⟨3, .manual, 120, 0⟩] }
    egress := { setpoint := [0] }
    events := { latched := 0b1000#14, log := (Vector.replicate 32 none).set 0 (eventOf .busDead), writeIndex := 1 }
    pending := [.timebaseTick] }
    |>.setUnit 1 (onlineGenset 800 520) |>.setUnit 2 (pvUnit 700 0 600)
    |>.setUnit 3 { closedFeeder 120 with feederJob := { shed := .shed } } |>.setUnit 4 (meterUnit 50000)
    |>.setSlot 0 (some { capOrder 2 500 1 with state := .queued, deadline := none })

theorem meets_StepTakesTheFrontCommand :
    island.pending = .timebaseTick :: [] ∧ State.reset.pending = [] := ⟨rfl, rfl⟩
theorem meets_CommandsKeepQueueAndStation :
    exec .timebaseTick island = .next { island with now := 1 } ∧ notPowerReset .timebaseTick = true := ⟨rfl, rfl⟩
theorem meets_ConfigurationChangesByWriteAlone :
    notPowerReset .timebaseTick = true ∧ Instr.timebaseTick ≠ .writeRecord ∧
      exec .timebaseTick island = .next { island with now := 1 } := ⟨rfl, by decide, rfl⟩
theorem meets_LatchedConditionsStay :
    notPowerReset .timebaseTick = true ∧ Instr.timebaseTick ≠ .clearConditions ∧ Instr.timebaseTick ≠ .engineReset ∧
      exec .timebaseTick island = .next { island with now := 1 } ∧ island.isLatched .passOverrun = true :=
  ⟨rfl, by decide, by decide, rfl, by decide⟩
theorem meets_LogRecordsStayUntilAcknowledged :
    notPowerReset .timebaseTick = true ∧ Instr.timebaseTick ≠ .ackEvents ∧
      exec .timebaseTick island = .next { island with now := 1 } ∧ island.events.log.get 0 = eventOf .busDead :=
  ⟨rfl, by decide, rfl, by decide⟩

theorem island_steps : step island = .next { island with pending := [], now := 1 } := rfl
theorem meets_PlanRunsExactlyInRestore :
    PlanMode island ∧ step island = .next { island with pending := [], now := 1 } :=
  ⟨by unfold PlanMode; decide, island_steps⟩
theorem meets_SlotBoundsKept : SlotBounds island ∧ step island = .next { island with pending := [], now := 1 } :=
  ⟨⟨by decide, by decide⟩, island_steps⟩
theorem meets_SlotsHoldPermittedOrders :
    Permitted island ∧ step island = .next { island with pending := [], now := 1 } := by
  refine ⟨fun i o h => ?_, island_steps⟩
  have all : ∀ j : SlotNo, (island.slot j).all (fun x => (island.unit x.target).permits.has x.kind) = true := by decide
  have this := all i
  rw [h] at this
  exact this
theorem meets_CommitmentListExact :
    CommitExact island ∧ step island = .next { island with pending := [], now := 1 } :=
  ⟨⟨by decide, by decide, by decide⟩, island_steps⟩
theorem meets_ShedStackExact : StackExact island ∧ step island = .next { island with pending := [], now := 1 } :=
  ⟨⟨by decide, by decide, by decide, by decide, by decide⟩, island_steps⟩

theorem meets_PowerOnResetAndItsEnd : State.powerOn.inReset = true ∧ State.reset.inReset = false := ⟨rfl, rfl⟩
/-- Nothing waits in any class. -/
theorem nothing_serves (s : State) (p : Port) (h : ∀ c : QClass, s.queue c = []) (r : s.egress.report = []) (c : QClass) (x : Item) :
    ¬ ClassServes s p c x := by
  cases x with
  | order i =>
    rintro ⟨-, -, before, later, q, -⟩
    rw [h c] at q
    cases before <;> cases q
  | report k => rintro ⟨-, y, e, -⟩; rw [r] at e; cases e
theorem noUrgent_of (s : State) (p : Port) (h : s.queue .urgent = []) : NoUrgent s p := by
  intro x
  cases x with
  | order i =>
    rintro ⟨-, -, before, later, q, -⟩
    rw [h] at q
    cases before <;> cases q
  | report k => exact fun h => absurd h.1 (by decide)
theorem queues_empty (s : State) (h : s.queue .urgent = [] ∧ s.queue .dispatch = [] ∧ s.queue .setpoint = [] ∧ s.queue .report = []) :
    ∀ c : QClass, s.queue c = []
  | .urgent => h.1
  | .dispatch => h.2.1
  | .setpoint => h.2.2.1
  | .report => h.2.2.2
theorem meets_LinkChangesStopAndStartAPort :
    (Ready paDown ∧ (paDown.port .pb).up = true) ∧ Ready paDown ∧ (paDown.port .pa).up = false ∧
      (paDown.port Port.pa.other).buffer.any Place.waiting = true ∧ NoUrgent paDown .pa ∧ PortQuiet paDown Port.pa.other ∧
      (paDown.port Port.pa.other).buffer = [] ++ waitingPlace :: [] ∧ waitingPlace.waiting = true :=
  ⟨⟨⟨rfl, rfl⟩, by decide⟩, ⟨rfl, rfl⟩, by decide, by decide, noUrgent_of _ _ rfl,
    Or.inr (nothing_serves _ _ (queues_empty _ (by decide)) rfl), by decide⟩
theorem meets_TimebaseTicksAndDeadlinesFollowIt : Ready State.reset ∧ 2 ^ 31 - 1 < 2 ^ 31 := ⟨⟨rfl, rfl⟩, by decide⟩

/-- Three places taken: the last that leaves room; and four places taken with FORWARD_DROP latched before. -/
def threePlaces : State := State.reset.setPort .pa { up := true, buffer := List.replicate 3 waitingPlace }
def fullAgain : State := { full with events := { latched := 0b10000#14 } }
theorem meets_ArrivingFrameTakesAPlaceOrIsLost :
    (Ready threePlaces ∧ (threePlaces.port .pa).up = true ∧ (threePlaces.port .pa).rx = .idle ∧
      (threePlaces.port .pa).buffer.length < 4) ∧
    (Ready full ∧ (full.port .pa).up = true ∧ (full.port .pa).rx = .idle ∧ 4 ≤ (full.port .pa).buffer.length ∧
      full.isLatched .forwardDrop = false ∧ logOpen full) ∧
    (Ready fullAgain ∧ (fullAgain.port .pa).up = true ∧ (fullAgain.port .pa).rx = .idle ∧
      4 ≤ (fullAgain.port .pa).buffer.length ∧ fullAgain.isLatched .forwardDrop = true) :=
  ⟨⟨⟨rfl, rfl⟩, by decide⟩, ⟨⟨rfl, rfl⟩, by decide, by decide, by decide, by decide, rfl, by decide⟩,
    ⟨rfl, rfl⟩, by decide⟩
theorem meets_AddressesDecideForwarding :
    Ready atHead ∧ (atHead.port .pa).rx = .head ∧ (atHead.port .pa).buffer = [waitingPlace] ++ [({} : Place)] ∧
      (∀ y ∈ [waitingPlace], y.receiving = false) ∧ ({} : Place).receiving = true ∧
      atHead.frame.station = stationOf 0 ∧ (0x0B : Addr) ≠ atHead.frame.station :=
  ⟨⟨rfl, rfl⟩, by decide⟩
theorem meets_ReceptionEndDelivers :
    (Ready consuming ∧ (consuming.port .pa).rx = .consumed 0x4E) ∧
    (Ready arriving ∧ (arriving.port .pa).rx = .forwarded 0x0B 0x4E ∧
      (arriving.port .pa).buffer = [waitingPlace] ++ [{ addrs := some (0x0B, 0x4E) }] ∧
      ∀ y ∈ [waitingPlace], y.receiving = false) ∧
    (false = true ↔ false = true ∨ false = true ∨ 12 + readingBytes.length < 64 ∨ 1522 < 12 + readingBytes.length) ∧
    (true = true ↔ false = true ∨ false = true ∨ 12 + (readingBytes.drop 1).length < 64 ∨
      1522 < 12 + (readingBytes.drop 1).length) ∧
    (∀ x ∈ [Rx.ringReturn, .lost, .overlong], ((consuming.setRx .pa x).port .pa).rx = x) ∧ (atHead.port .pa).rx = .head :=
  ⟨⟨⟨rfl, rfl⟩, by decide⟩, ⟨⟨rfl, rfl⟩, by decide⟩, by decide⟩
/-- The payload of `readingBytes`. -/
def readingPayload : List Byte := [0, 0, 0, 0, 0, 0x01, 0x11, 0x70, 0, 1, 0, 0, 0, 0, 0, 9]
theorem meets_OrderFrameReadsBackAsObserved_deliveries :
    (∀ tag ∈ [[], [0x81, 0x00, 0, 5]], IsTag tag) ∧
    (readingBytes = wireBytes [] 1 1 12 2 49 807 16 readingPayload (List.replicate 20 0 ++ [0xAA, 0xBB, 0xCC, 0xDD]) ∧
      4 ≤ (List.replicate 20 (0 : Byte) ++ [0xAA, 0xBB, 0xCC, 0xDD]).length ∧ (16 : Num16).toNat = readingPayload.length) ∧
    (ReadingBytes readingPayload (.pv 0 70000 none .closed) ∧ kindCode (bodyKind (.pv 0 70000 none .closed)) = 2) ∧
    ((∀ body : ReadingBody, ¬ ReadingBytes [] body) ∧ (∀ d ∈ [24, 0], readingPayload.length + d < 41) ∧ 64 ≤ (64 : Byte).toNat) ∧
    ([(0 : Byte), 100, 0, 0] = bytes16 100 ++ [0, 0] ∧ ([] : List Byte).length ≠ 4) ∧
    ([(21 : Byte), 5, 0, 0, 0, 0, 0, 0] = [21, 5, 0, 0] ++ bytes32 0 ∧ orderCode .opn = 5 ∧ kindCode .feeder = 4 ∧
      (∀ code : Byte, [(21 : Byte), 7, 0, 0, 0, 0, 0, 0][1]? = some code → code = 0 ∨ 6 < code.toNat)) ∧
    ([(8 : Byte), 1, 3, 0] = [8, (verdictBytes (.refuse .outOfRange)).1, (verdictBytes (.refuse .outOfRange)).2, 0] ∧
      ∀ (v : Verdict) (number a : Byte), ([] : List Byte) ≠ [number, (verdictBytes v).1, (verdictBytes v).2, a]) ∧
    (∀ args ∈ [[], [1]], [(0 : Byte), 7, 3, 0] ++ args = bytes16 7 ++ [3, 0] ++ args) ∧ ([0, 7, 3] : List Byte).length < 4 ∧
    ((0x81 : Byte), (0x00 : Byte)) ≠ (0x89, 0xA2) ∧ 5 < (6 : Byte).toNat := by
  refine ⟨?_, ⟨by decide, by decide, by decide⟩, ⟨⟨0, 0, 9, by simp, by decide⟩, by decide⟩, ⟨?_, by decide, by decide⟩, by decide,
    ⟨by decide, by decide, by decide, ?_⟩, ⟨by decide, by simp⟩, ?_, by decide, by decide, by decide⟩
  · intro tag h
    simp at h
    rcases h with rfl | rfl
    · exact Or.inl rfl
    · exact Or.inr ⟨0, 5, rfl⟩
  · intro body; cases body <;> simp [ReadingBytes, bytes32]
  · intro code h; simp at h; subst h; decide
  · intro args h; simp at h; rcases h with rfl | rfl <;> decide
theorem meets_OrderFrameReadsBackAsObserved :
    let f : OutFrame := { openFrame with unit := 63, payload := .order 255 .setCap (2 ^ 32 - 1) }
    f.payload = .order 255 .setCap (2 ^ 32 - 1) ∧ f.unit = (63 : UnitNo).val ∧ f.kind ≠ .noUnit ∧ 2 ^ 32 - 1 < 2 ^ 32 ∧
      ([1, 2, 3, 4] : List Byte).length = 4 := by decide
theorem meets_CopyEndMakesTheOrderSent :
    (Ready sendingOpen ∧ (sendingOpen.port .pb).up = true ∧ (sendingOpen.port .pb).tx = .order 0 openFrame ∧
      sendingOpen.slot 0 = some openOrder ∧ openOrder.inTx.has .pb = true ∧ openOrder.state = .queued ∧
      0 ∉ sendingOpen.orders.waiting) ∧
    (∀ b ∈ [[], [waitingPlace]], (reporting b).inReset = false ∧ (reporting b).agenda = [] ∧
      ((reporting b).port .pa).up = true ∧ ((reporting b).port .pa).tx ≠ .free ∧
      ClassServes (reporting b) .pa .urgent (.order 0) ∧ PortStill (reporting b) .pb ∧ PortQuiet (reporting b) .pb ∧
      (reporting b).slot 0 = some { openOrder with inTx := {}, stamp := none }) ∧
    (∃ f : OutFrame, (reportingAlone.port .pa).tx = .report f) ∧
    ((∀ (c : QClass) (x : Item), ¬ ClassServes reportingAlone .pa c x) ∧ PortStill reportingAlone .pb ∧
      (reportingAlone.port Port.pa.other).buffer.any Place.waiting = false) ∧
    (∃ s : State, s = { reporting [waitingPlace] with egress := {} } ∧ NoUrgent s .pa ∧
      (s.port Port.pa.other).buffer = [] ++ waitingPlace :: [] ∧ waitingPlace.waiting = true) := by
  refine ⟨⟨⟨rfl, rfl⟩, by decide⟩, ?_, ⟨_, rfl⟩, ⟨nothing_serves _ _ (queues_empty _ (by decide)) rfl, Or.inl ⟨rfl, by decide⟩,
    by decide⟩, ⟨_, rfl, noUrgent_of _ _ rfl, rfl, rfl⟩⟩
  intro b _
  exact ⟨rfl, rfl, rfl, fun h => (nomatch h), ⟨by decide, ⟨_, rfl, Or.inr ⟨rfl, Or.inr rfl⟩⟩, [], [], rfl, by simp⟩,
    Or.inl ⟨rfl, fun h => (nomatch h)⟩, Or.inl ⟨rfl, fun h => (nomatch h)⟩, rfl⟩
theorem meets_CopyEndMakesTheOrderSent_phases :
    (∀ x ∈ [([0], []), ([], [noticeOnPa])], Ready (offering x.1 x.2) ∧ ((offering x.1 x.2).port .pa).up = true ∧
      ((offering x.1 x.2).port .pa).tx ≠ .free ∧ ((offering x.1 x.2).port Port.pa.other).buffer.any Place.waiting = false ∧
      NoUrgent (offering x.1 x.2) .pa ∧ PortQuiet (offering x.1 x.2) .pb ∧ PortStill (offering x.1 x.2) .pb) ∧
    PhaseServes (offering [0] []) .pa 1 (.order 0) ∧ PhaseServes (offering [] [noticeOnPa]) .pa 3 (.report 0) ∧
    ((offering [0] []).slot 0).isSome = true ∧ (offering [] [noticeOnPa]).egress.report[0]? = some noticeOnPa := by
  have order_class : ∀ (c : QClass) (i : SlotNo) (r : List ReportItem), ClassServes (offering [] r) .pa c (.order i) → False := by
    rintro c i r ⟨-, -, before, later, q, -⟩
    have h : (offering [] r).queue c = [] := by cases c <;> rfl
    rw [h] at q
    cases before <;> cases q
  refine ⟨fun x _ => ⟨⟨rfl, rfl⟩, rfl, fun h => (nomatch h), rfl, noUrgent_of _ _ rfl, Or.inl ⟨rfl, fun h => (nomatch h)⟩,
    Or.inl ⟨rfl, fun h => (nomatch h)⟩⟩, ⟨1, rfl, ⟨by decide, ⟨_, rfl, Or.inr ⟨rfl, Or.inr rfl⟩⟩, [], [], rfl, by simp⟩, ?_⟩,
    ⟨3, rfl, ⟨rfl, noticeOnPa, rfl, rfl, fun j x h => absurd h (Nat.not_lt_zero j)⟩, ?_⟩, rfl, rfl⟩
  · intro e he y
    have : e = 0 := by revert he; revert e; decide
    subst this
    cases y with
    | order i => rintro ⟨-, -, before, later, q, -⟩; cases before <;> cases q
    | report k => exact fun h => absurd h.1 (by decide)
  · intro e he y
    have : e = 0 ∨ e = 1 ∨ e = 2 := by revert he; revert e; decide
    cases y with
    | order i => exact fun h => order_class _ _ _ h
    | report k => rcases this with rfl | rfl | rfl <;> exact fun h => absurd h.1 (by decide)
theorem meets_ForwardedEndSendsTheNextFrame :
    (Ready forwarding ∧ (forwarding.port .pb).up = true ∧ (forwarding.port .pb).tx = .forwarding ∧ NoUrgent forwarding .pb ∧
      PortQuiet forwarding Port.pb.other ∧
      ((forwarding.port Port.pb.other).buffer.filter fun x => !x.sending) = [] ++ waitingPlace :: [] ∧
      waitingPlace.waiting = true) ∧
    (Ready forwardingLast ∧ (forwardingLast.port .pb).up = true ∧ (forwardingLast.port .pb).tx = .forwarding ∧
      (forwardingLast.port Port.pb.other).buffer.any Place.waiting = false ∧
      (∀ (c : QClass) (x : Item), ¬ ClassServes forwardingLast .pb c x) ∧ PortStill forwardingLast Port.pb.other) ∧
    (Ready overlong ∧ (overlong.port .pb).up = true ∧ (overlong.port .pb).tx = .forwarding) ∧
    ∃ x : Item, ClassServes (reporting []) .pa .urgent x :=
  ⟨⟨⟨rfl, rfl⟩, by decide, by decide, noUrgent_of _ _ rfl, Or.inr (nothing_serves _ _ (queues_empty _ (by decide)) rfl), by decide⟩,
    ⟨⟨rfl, rfl⟩, by decide, by decide, by decide, nothing_serves _ _ (queues_empty _ (by decide)) rfl,
      Or.inr ⟨rfl, nothing_serves _ _ (queues_empty _ (by decide)) rfl⟩⟩, ⟨⟨rfl, rfl⟩, by decide⟩,
    _, (meets_CopyEndMakesTheOrderSent.2.1 [] (by simp)).2.2.2.2.1⟩

/-! ### Epochs -/

/-- A pass is still in progress. -/
def overrunning : State := { governed with tracker := { governed.tracker with passInProgress := true } }
theorem meets_GoverningMarkMovesTheEpoch :
    (Ready governed ∧ governed.mode ≠ .halted ∧ governed.tracker.state = .primary ∧
      MarkOf governed .primary (primaryMark 503).src ∧ (primaryMark 503).number = governed.tracker.epoch ∧
      (primaryMark 504).number ≠ governed.tracker.epoch ∧ governed.tracker.passInProgress = false) ∧
    (Ready overrunning ∧ overrunning.mode ≠ .halted ∧ overrunning.tracker.state = .primary ∧
      MarkOf overrunning .primary (primaryMark 502).src ∧ overrunning.tracker.passInProgress = true ∧
      (primaryMark 502).number ≠ overrunning.tracker.epoch ∧
      (primaryMark 502).number ≠ overrunning.tracker.epoch + 1 ∧ logOpen overrunning) ∧
    (onSecondary.mode ≠ .halted ∧ onSecondary.tracker.state = .secondary ∧
      MarkOf onSecondary .secondary (secondaryMark 506).src ∧ (secondaryMark 506).number ≠ onSecondary.tracker.epoch) :=
  ⟨⟨⟨rfl, rfl⟩, by decide, by decide, rfl, by decide⟩,
    ⟨⟨rfl, rfl⟩, by decide, by decide, rfl, by decide, by decide, by decide, rfl, by decide⟩,
    by decide, by decide, ⟨by decide, by decide, by decide⟩, by decide⟩
theorem meets_PrimaryMarkEndsUnset :
    Ready unset ∧ unset.mode ≠ .halted ∧ unset.tracker.state = .unset ∧
      unset.access.primaryTimeMaster = some (primaryMark 9).src ∧ unset.tracker.passInProgress = false ∧ logOpen unset :=
  ⟨⟨rfl, rfl⟩, by decide, by decide, by decide, by decide, rfl, by decide⟩
theorem test_secondary_mark_in_primary_sets_its_record :
    let t := leaves (.epochMark (secondaryMark 504)) governed
    (t.tracker.secondaryRec, t.tracker.epoch, t.tracker.passInProgress) = (some ⟨504, 400⟩, 503, false) := by decide
theorem test_unknown_master_is_ignored :
    (leaves (.epochMark { primaryMark 504 with src := 0x99 }) governed).tracker = governed.tracker := by decide
theorem meets_PrimaryMarkEndsUnset_others :
    (Ready unset ∧ unset.mode ≠ .halted ∧ MarkOf unset .secondary (secondaryMark 78).src ∧
      unset.tracker.secondaryRec = some ⟨77, 2000⟩ ∧ (secondaryMark 77).number = 77 ∧ (secondaryMark 78).number ≠ 77) ∧
    (Ready governed ∧ MarkOf governed .secondary (secondaryMark 504).src ∧ governed.tracker.state = .primary ∧
      governed.tracker.secondaryRec = some ⟨503, 340⟩) ∧
    (∀ g : Master, ¬ MarkOf governed g 0x99) ∧ ((inMode .halted).mode = .halted ∧ Ready (inMode .halted)) ∧
    (∃ s : State, s = { unset with tracker := { unset.tracker with passInProgress := true } } ∧
      s.tracker.passInProgress = true ∧ s.tracker.state = .unset) := by
  refine ⟨⟨⟨rfl, rfl⟩, by decide, ⟨by decide, by decide, by decide⟩, by decide, by decide, by decide⟩,
    ⟨⟨rfl, rfl⟩, ⟨by decide, by decide, by decide⟩, by decide, by decide⟩, ?_, ⟨rfl, rfl, rfl⟩, ⟨_, rfl, rfl, rfl⟩⟩
  intro g h
  cases g
  · exact absurd (show governed.access.primaryTimeMaster = some 0x99 from h) (by decide)
  · exact absurd (show governed.access.secondaryTimeMaster = some 0x99 from h.1) (by decide)
/-- The third mark of the secondary arrives exactly the loss time after its last; and its record is absent. -/
def secondaryReturns : State :=
  { returning with tracker := { returning.tracker with secondaryRec := some ⟨77, 1300⟩, secondaryReturn := 2 } }
def secondaryUnknown : State := { returning with tracker := { returning.tracker with secondaryRec := none } }
theorem meets_ReturningPrimaryCountsAndTakesOver :
    (Ready returning ∧ returning.mode ≠ .halted ∧ returning.tracker.state = .freeRun ∧
      MarkOf returning .primary (primaryMark 532).src ∧ returning.tracker.recOf .primary = some ⟨531, 1500⟩ ∧
      (primaryMark 532).number ≠ 531 ∧
      3 = (if (primaryMark 532).number = (531 : Num16) + 1 ∧
        elapsed returning.now 1500 ≤ returning.settings.lossCount * returning.tracker.period then
        min 8 (returning.tracker.returnOf .primary + 1) else 1) ∧ returning.settings.returnCount ≤ 3 ∧
      returning.tracker.passInProgress = false ∧ (primaryMark 532).number ≠ returning.tracker.epoch) ∧
    ((primaryMark 540).number ≠ 531 ∧
      1 = (if (primaryMark 540).number = (531 : Num16) + 1 ∧
        elapsed returning.now 1500 ≤ returning.settings.lossCount * returning.tracker.period then
        min 8 (returning.tracker.returnOf .primary + 1) else 1) ∧ 1 < returning.settings.returnCount) ∧
    (MarkOf secondaryReturns .secondary (secondaryMark 78).src ∧
      secondaryReturns.tracker.recOf .secondary = some ⟨77, 1300⟩ ∧ secondaryReturns.tracker.state = .freeRun ∧
      elapsed secondaryReturns.now 1300 = secondaryReturns.settings.lossCount * secondaryReturns.tracker.period ∧
      secondaryReturns.tracker.returnOf .secondary + 1 = secondaryReturns.settings.returnCount) ∧
    MarkOf secondaryUnknown .secondary (secondaryMark 78).src ∧ secondaryUnknown.tracker.recOf .secondary = none ∧
    logOpen { returning with events := {} } :=
  ⟨⟨⟨rfl, rfl⟩, by decide, by decide, rfl, by decide⟩, by decide,
    ⟨⟨by decide, by decide, by decide⟩, by decide⟩, ⟨by decide, by decide, by decide⟩, by decide, rfl, by decide⟩

/-- The secondary's mark is exactly 3,000 ms old, and one millisecond older. -/
def unsetSilent : State := { unset with tracker := { unset.tracker with secondaryRec := some ⟨77, 4294967295⟩ } }
def unsetEdge : State := { unset with tracker := { unset.tracker with secondaryRec := some ⟨77, 0⟩ } }
theorem meets_UnsetDeadlineChoosesTheSource :
    (Ready unsetEdge ∧ unsetEdge.tracker.state = .unset ∧ unsetEdge.mode ≠ .halted ∧
      unsetEdge.tracker.unsetDeadline = some 3000 ∧ reached unsetEdge.now 3000 = true ∧
      unsetEdge.settings.epochMode = .dual ∧ unsetEdge.tracker.secondaryRec = some ⟨77, 0⟩ ∧
      elapsed unsetEdge.now 0 ≤ 3000 ∧ logOpen unsetEdge) ∧
    Ready unsetSilent ∧ unsetSilent.tracker.state = .unset ∧ unsetSilent.mode ≠ .halted ∧
      unsetSilent.tracker.unsetDeadline = some 3000 ∧ reached unsetSilent.now 3000 = true ∧
      unsetSilent.tracker.secondaryRec = some ⟨77, 4294967295⟩ ∧ 3000 < elapsed unsetSilent.now 4294967295 :=
  ⟨⟨⟨rfl, rfl⟩, by decide, by decide, by decide, by decide, by decide, by decide, by decide, rfl, by decide⟩,
    ⟨rfl, rfl⟩, by decide⟩

/-- The last secondary mark is exactly the loss time old, and one millisecond older. -/
def losingEdge : State := { losing with tracker := { losing.tracker with secondaryRec := some ⟨505, 300⟩ } }
def losingSilent : State := { losing with tracker := { losing.tracker with secondaryRec := some ⟨505, 299⟩ } }
theorem meets_PrimaryLossChoosesTheSource :
    (Ready losingEdge ∧ losingEdge.tracker.state = .primary ∧ losingEdge.tracker.lossDeadline = some 600 ∧
      reached losingEdge.now 600 = true ∧ losingEdge.settings.epochMode = .dual ∧
      losingEdge.tracker.secondaryRec = some ⟨505, 300⟩ ∧
      elapsed losingEdge.now 300 ≤ losingEdge.settings.lossCount * losingEdge.tracker.period ∧ logOpen losingEdge) ∧
    Ready losingSilent ∧ losingSilent.tracker.state = .primary ∧ losingSilent.tracker.lossDeadline = some 600 ∧
      reached losingSilent.now 600 = true ∧ losingSilent.tracker.secondaryRec = some ⟨505, 299⟩ ∧
      losingSilent.settings.lossCount * losingSilent.tracker.period < elapsed losingSilent.now 299 :=
  ⟨⟨⟨rfl, rfl⟩, by decide, by decide, by decide, by decide, by decide, by decide, rfl, by decide⟩, ⟨rfl, rfl⟩, by decide⟩
theorem meets_SecondaryLossEntersFreeRun :
    Ready losingSecondary ∧ losingSecondary.tracker.state = .secondary ∧
      losingSecondary.tracker.lossDeadline = some 1140 ∧ reached losingSecondary.now 1140 = true ∧ logOpen losingSecondary :=
  ⟨⟨rfl, by decide⟩, by decide, by decide, by decide, by decide, by decide⟩

def freeOverrunning : State := { free with tracker := { free.tracker with passInProgress := true } }
theorem meets_FreeRunAdvancesTheEpoch :
    (Ready free ∧ free.tracker.state = .freeRun ∧ free.tracker.freeDeadline = some 1240 ∧ reached free.now 1240 = true ∧
      free.tracker.passInProgress = false) ∧
    Ready freeOverrunning ∧ freeOverrunning.tracker.state = .freeRun ∧ freeOverrunning.tracker.freeDeadline = some 1240 ∧
      reached freeOverrunning.now 1240 = true ∧ freeOverrunning.tracker.passInProgress = true :=
  ⟨⟨⟨by decide, by decide⟩, by decide⟩, ⟨by decide, by decide⟩, by decide⟩

/-! ### The pass, the cuts and the readings -/

/-- FRESH, last heard 201 ms ago with an interval of 100 and a stale count of 5; and the ages at which the clauses meet. -/
def aged (f : Freshness) (age : Nat) : State :=
  { State.reset with now := BitVec.ofNat 32 (1000 + age) }
    |>.setUnit 12 { pvUnit 700 0 0 with live := { freshness := f, lastArrival := some 1000 } }
theorem meets_FreshnessEvaluationAges :
    (∀ f ∈ [Freshness.fresh, .held, .stale], ((aged f 200).unit 12).kind ≠ .noUnit ∧
      ((aged f 200).unit 12).live.lastArrival = some 1000 ∧ ((aged f 200).unit 12).live.freshness = f) ∧
    elapsed (aged .fresh 200).now 1000 ≤ 2 * ((aged .fresh 200).unit 12).interval ∧
    2 * ((aged .fresh 201).unit 12).interval < elapsed (aged .fresh 201).now 1000 ∧
    elapsed (aged .held 500).now 1000 ≤ ((aged .held 500).unit 12).stale * ((aged .held 500).unit 12).interval ∧
    ((aged .held 501).unit 12).stale * ((aged .held 501).unit 12).interval < elapsed (aged .held 501).now 1000 ∧
    (State.reset.unit 12).kind = .noUnit := by decide
/-- PV unit 12 and the reference meter 40 were last heard 501 ms ago. -/
def silentMeter : State :=
  { aged .fresh 501 with service := { mode := .active, settings := { reference := some 40 } } }
    |>.setUnit 40 { meterUnit 50000 with live := { freshness := .fresh, lastArrival := some 1000 } }
theorem test_stale_units_are_recorded :
    kinds (evaluateFreshness silentMeter) 2 = [some .unitStale, some .unitStale] ∧
    [0, 1].map (fun n : LogNo => ((evaluateFreshness silentMeter).events.log.get n).map fun e => (e.unit, e.value, e.detail)) =
      [some (some 12, some 501, some 2), some (some 40, some 501, some 5)] ∧
    (evaluateFreshness silentMeter).isLatched .referenceStale = true := by decide
theorem meets_FreshnessEvaluationAges_records :
    (∃ turns : UnitNo → Bool, (∀ u : UnitNo, turns u = true ↔ (silentMeter.unit u).live.freshness ≠ .stale ∧
        ((evaluateFreshness silentMeter).unit u).live.freshness = .stale) ∧
      turns 12 = true ∧ (∀ v : UnitNo, v < 12 → turns v = false) ∧ (silentMeter.unit 12).live.lastArrival = some 1000 ∧
      turns 40 = true ∧ silentMeter.settings.reference = some 40 ∧ (silentMeter.unit 40).kind = .meter ∧
      logOpen silentMeter) ∧
    ∀ u : UnitNo, ((evaluateFreshness (aged .fresh 200)).unit u).live.freshness ≠ .stale :=
  ⟨⟨fun u => decide (u = 12 ∨ u = 40), by decide, by decide, by decide, by decide, by decide, by decide, by decide, rfl,
    by decide⟩, by decide⟩
/-- A start is wanted: G3 alone is STOPPED, permitted START as given, with the credit given. -/
def wanting (permits : PermitSet) (credit : Nat) : State :=
  { caseA with balance := { published := { startWanted := true } } }
    |>.setUnit 3 { kind := .genset, rating := 600, permits := permits, credit := credit, live := { freshness := .fresh } }
theorem absent_is_reached {o : Option Time} {P : Time → Prop} (h : o = none) : ∀ d : Time, o = some d → P d :=
  fun d hd => by rw [h] at hd; cases hd
/-- A gen-set of a lower merit rank, unit 9, has no credit and is asked before G3. -/
def wantingBehind (credit : Nat) : State :=
  (wanting { start := true } credit).setUnit 9 ((wanting { start := true } 0).unit 3)
    |>.setUnit 3 { (wanting { start := true } credit).unit 3 with genset := { meritRank := 1 } }
theorem startReaches_of (s : State) (u : UnitNo) (h : MayStart s u)
    (others : ∀ v : UnitNo, (s.unit v).kind = .genset → (s.unit v).gensetJob.dispatch = .stopped →
      v = u ∨ judgeRequest s v .start .dispatch = .refused .noCredit) : StartReaches s u :=
  ⟨h, fun v hv ha => (others v hv.stopped.1 hv.stopped.2).elim
    (fun e => by subst e; rcases ha with ha | ⟨-, ha⟩ <;> exact absurd ha (lt_irrefl _)) Or.inl⟩
theorem mayStart_wanting : MayStart (wanting { start := true } 0) 3 ∧ MayStart (wanting { start := true } 1) 3 ∧
    MayStart (wantingBehind 0) 3 ∧ MayStart (wantingBehind 1) 3 := by
  refine ⟨?_, ?_, ?_, ?_⟩ <;> exact ⟨⟨rfl, rfl⟩, absent_is_reached rfl, absent_is_reached rfl, rfl⟩
/-- Other orders hold the eight slots that are not kept for URGENT orders (R64). -/
def wantingSlots : State :=
  { wanting { start := true } 1 with
    orders := { slots := Vector.ofFn fun i : SlotNo => if i.val < 8 then some (capOrder 5 0 1) else none } }
def wantingHalted : State := { wanting { start := true } 1 with service := { mode := .halted } }
theorem startReaches_wanting : StartReaches (wanting { start := true } 1) 3 ∧ StartReaches (wantingBehind 1) 3 ∧
    StartReaches wantingSlots 3 ∧ StartReaches wantingHalted 3 :=
  ⟨startReaches_of _ _ mayStart_wanting.2.1 (by decide), startReaches_of _ _ mayStart_wanting.2.2.2 (by decide),
    startReaches_of _ _ ⟨⟨rfl, rfl⟩, absent_is_reached rfl, absent_is_reached rfl, rfl⟩ (by decide),
    startReaches_of _ _ ⟨⟨rfl, rfl⟩, absent_is_reached rfl, absent_is_reached rfl, rfl⟩ (by decide)⟩
theorem passedOver_wanting : ∀ v : UnitNo, MayStart (wantingBehind 0) v → PassedOver (wantingBehind 0) v := by
  have h : ∀ v : UnitNo, ((wantingBehind 0).unit v).kind = .genset → ((wantingBehind 0).unit v).gensetJob.dispatch = .stopped →
      judgeRequest (wantingBehind 0) v .start .dispatch = .refused .noCredit := by decide
  exact fun v hv => Or.inl (h v hv.stopped.1 hv.stopped.2)

/-- G2 is the stop candidate, confirmed, with G1 ONLINE beside it. -/
def stoppable : State :=
  { caseA with balance := { published := { stopCandidate := some 2, stopCount := 30 } } }
theorem stopGates_stoppable : StopGates stoppable 2 :=
  ⟨by decide, by decide, by decide, absent_is_reached rfl, by decide, by decide, by decide, by decide,
    ⟨1, by decide, by decide, by decide⟩⟩

/-- F7 SHED on top of the stack, counted and allowed, its last restoration exactly one interval ago; CLOSE permitted or not. -/
def restorable (permits : PermitSet) : State :=
  { caseA with
    dispatcher := {}
    balance := { published := { restoreAllowed := true }, restoreFeeder := some 7 }
    shed := { stack := [⟨7, .manual, 120, 0⟩], lastRestore := some 990000 } }
    |>.setUnit 7 { closedFeeder 0 with permits := permits, feederJob := { shed := .shed } }
theorem restoreGates_restorable : RestoreGates (restorable { close := true }) ⟨7, .manual, 120, 0⟩ :=
  ⟨by decide, by decide, by decide, by decide, by decide, by decide, by decide, by decide,
    fun d h => by
      have : d = 990000 := by
        have e : (restorable { close := true }).shed.lastRestore = some 990000 := rfl
        rw [e] at h; exact (Option.some.inj h).symm
      subst this; decide⟩

/-- A CLOSE_UNIT step for storage unit 8 whose CLOSE is still to be asked for. -/
def closing (permits : PermitSet) (credit : Nat) : State :=
  { waitingStep with seqr := { waitingStep.seqr with
      progress := { waitingStep.progress with stepState := .issued, toIssue := [(8, .close)] } } }
    |>.setUnit 8 { kind := .storage, permits := permits, credit := credit, live := { freshness := .fresh } }

theorem test_start_decision_creates_a_start :
    ((startDecision (wanting { start := true } 1)).unit 3).gensetJob.dispatch = .startPending := by decide
theorem test_start_decision_passes_over_no_credit :
    let t := startDecision (wantingBehind 1)
    ((t.unit 9).gensetJob.dispatch, (t.unit 3).gensetJob.dispatch, t.dispatcher.commit, t.dispatcher.startRetry) =
      (.stopped, .startPending, [1, 2, 3], false) := by decide
theorem test_stop_decision_creates_a_stop : ((stopDecision stoppable).unit 2).gensetJob.dispatch = .stopPending := by decide
theorem test_restore_decision_creates_a_close :
    let t := restoreDecision (restorable { close := true })
    ((t.unit 7).feederJob.shed, t.shed.lastRestore) = (.restoring, some 1000000) := by decide

theorem meets_PassCompletionPublishesAndHandsOn :
    (Ready passing ∧ passing.balance.working = some (takeSnapshot caseA)) ∧
    (caseA.balance.published.startWanted = false ∧ (wanting {} 1).balance.published.startWanted = true ∧
      underWay (wanting {} 1) < 2 ∧ ∀ u : UnitNo, ((wanting {} 1).unit u).gensetJob.dispatch = .stopped →
        ((wanting {} 1).unit u).permits.start = true → ((wanting {} 1).unit u).kind ≠ .genset) ∧
    (StartReaches (wanting { start := true } 1) 3 ∧ underWay (wanting { start := true } 1) < 2 ∧
      judgeRequest (wanting { start := true } 1) 3 .start .dispatch = .created 0 ∧
      3 ∉ (wanting { start := true } 1).dispatcher.commit) ∧
    (StartReaches (wantingBehind 1) 3 ∧ MayStart (wantingBehind 1) 9 ∧ AskedBefore (wantingBehind 1) 9 3 ∧
      PassedOver (wantingBehind 1) 9 ∧ judgeRequest (wantingBehind 1) 3 .start .dispatch = .created 0 ∧
      underWay (wantingBehind 1) < 2 ∧ (wantingBehind 1).balance.published.startWanted = true) ∧
    (StartReaches wantingSlots 3 ∧ judgeRequest wantingSlots 3 .start .dispatch = .refused .noSlot ∧
      underWay wantingSlots < 2 ∧ wantingSlots.balance.published.startWanted = true) ∧
    (StartReaches wantingHalted 3 ∧ judgeRequest wantingHalted 3 .start .dispatch = .refused .wrongMode ∧
      underWay wantingHalted < 2 ∧ wantingHalted.balance.published.startWanted = true) ∧
    ((∃ u : UnitNo, MayStart (wantingBehind 0) u ∧ judgeRequest (wantingBehind 0) u .start .dispatch = .refused .noCredit) ∧
      (∀ v : UnitNo, MayStart (wantingBehind 0) v → PassedOver (wantingBehind 0) v) ∧
      underWay (wantingBehind 0) < 2 ∧ (wantingBehind 0).balance.published.startWanted = true) ∧
    (stoppable.balance.published.stopCandidate = some 2 ∧ StopGates stoppable 2 ∧
      judgeRequest stoppable 2 .stop .dispatch = .created 0 ∧ 2 ∈ stoppable.dispatcher.commit ∧
      caseA.balance.published.stopCandidate = none) ∧
    (RestoreGates (restorable { close := true }) ⟨7, .manual, 120, 0⟩ ∧
      judgeRequest (restorable { close := true }) 7 .close .shed = .created 0 ∧ caseA.shed.stack.getLast? = none ∧
      judgeRequest (restorable {}) 7 .close .shed = .refused .notPermitted) ∧
    ((closing { close := true } 1).progress.planState = .running ∧ (closing { close := true } 1).progress.stepState = .issued ∧
      (closing { close := true } 1).progress.cancelPending = false ∧
      ((closing { close := true } 1).seqr.plan.get 5).action = .closeUnit ∧
      ((closing { close := true } 1).seqr.plan.get 5).argument = (8 : UnitNo).val ∧
      (closing { close := true } 1).progress.closeSeen = none ∧ (closing { close := true } 1).progress.orders = [] ∧
      (closing { close := true } 1).progress.toIssue = [(8, .close)] ∧
      ((closing { close := true } 1).unit 8).live.values.breaker = .opn ∧
      judgeRequest (closing { close := true } 1) 8 .close .plan = .created 0 ∧
      judgeRequest (closing {} 1) 8 .close .plan = .refused .notPermitted ∧
      judgeRequest (closing { close := true } 0) 8 .close .plan = .refused .noCredit) :=
  ⟨⟨⟨rfl, rfl⟩, rfl⟩, by decide, ⟨startReaches_wanting.1, by decide⟩,
    ⟨startReaches_wanting.2.1, ⟨⟨rfl, rfl⟩, absent_is_reached rfl, absent_is_reached rfl, rfl⟩, Or.inl (by decide),
      Or.inl (by decide), by decide⟩,
    ⟨startReaches_wanting.2.2.1, by decide⟩, ⟨startReaches_wanting.2.2.2, by decide⟩,
    ⟨⟨3, mayStart_wanting.2.2.1, by decide⟩, passedOver_wanting, by decide⟩,
    ⟨by decide, stopGates_stoppable, by decide⟩, ⟨restoreGates_restorable, by decide⟩, by decide⟩

/-- Case A's snapshot, on a dead bus, with the frequency at and below the stage-1 threshold, and with the rate at its limit. -/
def snapA : Snapshot := takeSnapshot caseA
def snapAt (f : Nat) : Snapshot := takeSnapshot (caseA.setUnit 40 (meterUnit f))
def outcomeOf (sn : Snapshot) : BalanceRec := (passResult {} sn).published
theorem meets_PublishedRecordIsConsistent :
    ({ snapA with dead := true }.dead = true) ∧
    (snapA.dead = false ∧ (outcomeOf (snapAt 49499)).fValid = true ∧ (outcomeOf (snapAt 49499)).f < (snapAt 49499).stage1) ∧
    ((outcomeOf { snapA with rocof := some (-1000) }).rocof = some (-1000) ∧
      (-1000 : Int) ≤ -(snapA.settings.rocofLimit : Int)) ∧
    ((outcomeOf (snapAt 49500)).fValid = true ∧ (snapAt 49500).stage1 ≤ (outcomeOf (snapAt 49500)).f ∧
      (outcomeOf (snapAt 49500)).rocof = none) ∧
    (outcomeOf snapA).rmProspect < 0 ∧ (outcomeOf snapA).stopCandidate = some 2 ∧
    (outcomeOf { snapA with commit := [] }).stopCandidate = none := by decide

/-- A unit under hold, one without credit, every non-URGENT place taken, and a QUEUED cap that can be rewritten. -/
def feederOrders : State :=
  { inMode .active with
    egress := { setpoint := [11] }
    orders := { slots := Vector.ofFn fun i : SlotNo =>
      if i.val < 8 then some { capOrder 9 0 1 with target := 9 }
      else if i = 11 then some { capOrder 2 100 1 with state := .queued } else none } }
    |>.setUnit 2 { pvUnit 700 0 0 with credit := 2 } |>.setUnit 9 (pvUnit 700 0 0)
    |>.setUnit 10 { pvUnit 700 0 0 with live := { freshness := .fresh, hold := some 5 } }
    |>.setUnit 20 { closedFeeder 10 with permits := { opn := true, close := true } }
/-- Two PV units hold caps: one with its window inverted, one that may reach its rating. -/
def releasable (m : Mode) : State :=
  inMode m |>.setUnit 1 { pvUnit 700 50 600 with pvJob := { commanded := some 650, setpoint := .idle } }
    |>.setUnit 2 { pvUnit 700 0 600 with winLow := 5, winHigh := 4, pvJob := { commanded := some 9, setpoint := .idle } }
/-- A capped unit that may be told CLEAR_CAP alone. -/
def withoutCap : State :=
  (releasable .active).setUnit 1 { (releasable .active).unit 1 with permits := { clearCap := true } }
/-- G1 loaded far above its minimum, the frequency as given. -/
def releasing (f : Nat) : State :=
  { releasable .active with balance := { published := { fValid := true, f := f } } }.setUnit 3 (onlineGenset 800 800)
theorem meets_CutsTotalTheDemand :
    (1 ∈ eligibleUnits threePv ∧ totalHeadroom threePv ≤ 850 ∧ 849 < totalHeadroom threePv) ∧
    (eligible threePv 4 = false ∧ eligible threePv 1 = true ∧ 0 < allocatedCut threePv 100 1 ∧
      (threePv.unit 1).pvJob.commanded = none ∧ eligible (releasable .active) 1 = true ∧
      ((releasable .active).unit 1).pvJob.commanded = some 650 ∧ 50 < 650 ∧ eligible threePv 3 = true ∧
      allocatedCut threePv 100 3 = 0) ∧
    ((pvUnit 700 50 600).winLow ≤ (pvUnit 700 50 600).winHigh ∧ ((releasable .active).unit 2).winHigh < 5) ∧
    (((releasable .active).unit 1).rating ≤ 650 + (releasable .active).settings.releaseStep ∧
      ((releasable .active).unit 1).ceiling = ((releasable .active).unit 1).rating ∧
      ¬ ((releasable .active).unit 1).rating ≤ 649 + (releasable .active).settings.releaseStep) ∧
    (∀ m ∈ [Mode.active, .restore], reachable (releasable m) 2 = true ∧
      ((releasable m).unit 2).curtailable m = false ∧ ((releasable m).unit 2).pvJob.commanded = some 9) ∧
    (reachable withoutCap 1 = true ∧ (withoutCap.unit 1).curtailable withoutCap.mode = true ∧
      (withoutCap.unit 1).permits.setCap = false ∧ (withoutCap.unit 1).pvJob.commanded = some 650) ∧
    reachable threePv 4 = false ∧ judgeRequest (releasable .active) 1 .setCap .curtail = .created 0 ∧
    judgeRequest feederOrders 2 .setCap .curtail = .coalesced 11 ∧
    judgeRequest feederOrders 9 .setCap .curtail = .refused .noCredit := by decide

/-- U2 ORDERED, with its SET_CAP still QUEUED in slot 11, or SENT from there. -/
def recapping (x : OrderState) : State :=
  (feederOrders.setPv 2 { commanded := some 100, setpoint := .ordered, slot := some 11 }).setSlot 11
    (some { capOrder 2 100 1 with state := x })
theorem rewritable_queued : Rewritable (recapping .queued) 2 11 :=
  ⟨{ capOrder 2 100 1 with state := .queued }, rfl, rfl, Or.inl rfl, rfl, by decide, rfl, rfl, by decide⟩
/-- The first two units share 100 kW with 1 kW left over, and 85 kW with nothing left over; the third has no headroom. -/
theorem meets_CutsTotalTheDemand_shares :
    (Eligible threePv 1 ∧ Eligible threePv 2 ∧ Eligible threePv 3 ∧ ¬ Eligible threePv 4) ∧
    (Reachable (recapping .queued) 2 ∧ ¬ Reachable (recapping .sent) 2 ∧ ¬ Reachable feederOrders 10) ∧
    (∃ (h : UnitNo → Nat) (r : Nat), h = cutHeadroom threePv ∧ 100 < totalHeadroom threePv ∧
      overEligible threePv (fun u => 100 * h u / totalHeadroom threePv) + r = 100 ∧ r = 1 ∧ 0 < h 1 ∧ 0 < h 2 ∧ h 3 = 0 ∧
      overEligible threePv (fun v => if v < 1 ∧ 0 < h v then 1 else 0) = 0 ∧
      overEligible threePv (fun v => if v < 2 ∧ 0 < h v then 1 else 0) = 1) ∧
    (∃ (h : UnitNo → Nat) (r : Nat), h = cutHeadroom threePv ∧
      overEligible threePv (fun u => 85 * h u / totalHeadroom threePv) + r = 85 ∧ r = 0) ∧
    totalHeadroom threePv = 850 := by
  have idle : ∀ u : UnitNo, u.val ∈ [1, 2, 3] → Eligible threePv u := by
    intro u hu
    have h : u = 1 ∨ u = 2 ∨ u = 3 := by revert u; decide
    rcases h with rfl | rfl | rfl <;>
      exact ⟨⟨rfl, Or.inl rfl, absent_is_reached rfl, by decide, Or.inl ⟨rfl, by decide⟩⟩, rfl, by decide, by decide⟩
  refine ⟨⟨idle 1 (by decide), idle 2 (by decide), idle 3 (by decide), fun h => absurd h.reachable.isPv (by decide)⟩,
    ⟨⟨rfl, Or.inl rfl, absent_is_reached rfl, by decide, Or.inr ⟨rfl, 11, rfl, rewritable_queued⟩⟩, fun h => ?_,
      fun h => absurd (h.noHold 5 rfl) (by decide)⟩,
    ⟨_, 1, rfl, by decide⟩, ⟨_, 0, rfl, by decide⟩, by decide⟩
  rcases h.room with ⟨e, -⟩ | ⟨-, i, e, o, es, -, -, -, -, q, -⟩
  · exact absurd e (by decide)
  · cases Option.some.inj e; cases Option.some.inj es; exact absurd q (by decide)

/-- The three units when CD exceeds their headroom of 850 by 150, the shortfall before as given. -/
def short (m : Mode) (before : Nat) : State :=
  { threePv with
    service := { mode := m }
    balance := { published := { cd := 1000 } }
    alloc := { planLimit := some 30, lastShortfall := before } }
/-- The same proposals as a definition, so that a decision's hypotheses are met for every unit. -/
theorem proposes_decision (s : State) (u : UnitNo) : Proposes s u (decisionProposal s u) := by
  constructor <;> intros <;> simp_all [decisionProposal]
theorem meets_CutsTotalTheDemand_decision :
    ((inMode .halted).mode = .halted ∧ (inMode .observe).mode = .observe) ∧
    (∀ m ∈ [Mode.active, .restore], ∀ n ∈ [0, 7], (short m n).mode = m ∧ (short m n).settings.curtailEnable = true ∧
      0 < (short m n).balance.published.cd ∧ (short m n).alloc.lastShortfall = n) ∧
    (short .active 0).balance.published.cd - totalHeadroom (short .active 0) = 150 ∧
    (∀ u : UnitNo, Proposes (short .active 0) u (decisionProposal (short .active 0) u)) ∧
    logOpen { requestsMade (short .active 0) (decisionProposal (short .active 0)) with alloc := { lastShortfall := 150 } } ∧
    (threePv.balance.published.cd = 0 ∧ releaseTest threePv = false) ∧ releaseTest (releasing 49999) = true ∧
    eligible threePv 4 = false ∧ (inMode .restore).mode = .restore ∧ (inMode .observe).mode ≠ .restore :=
  ⟨by decide, by decide, by decide, proposes_decision _, ⟨by decide, by decide⟩, by decide, by decide, by decide, by decide,
    by decide⟩
theorem meets_AllocatorOrderEnd :
    (2 : UnitNo) ≠ (capOrder 1 535 21).target ∧ (capOrder 1 535 21).kind ≠ .clearCap ∧
      ({ capOrder 1 535 21 with kind := .clearCap, value := none } : Order).kind = .clearCap := by decide

/-- Unit 12's reading at the edges of the sequence window, its record closed. -/
def meterReading : ReadingMsg :=
  { port := .pa, src := 0, unit := 40, seq := 8, epoch := 1201, body := .meter 50000 400 }
theorem meets_AcceptedReadingIsStored :
    (Ready silentPv ∧ silentPv.mode ≠ .halted ∧ (silentPv.unit 12).kind = bodyKind reading49.body ∧
      (silentPv.unit 12).link = some reading49.src ∧ reading49.epoch = silentPv.tracker.epoch ∧
      (silentPv.unit 12).live.heard = false) ∧
    (Ready freshPv ∧ freshPv.mode ≠ .halted ∧ (freshPv.unit 12).kind = bodyKind reading49.body ∧
      (freshPv.unit 12).link = some reading49.src ∧ ({ reading49 with epoch := 806 } : ReadingMsg).epoch = freshPv.tracker.epoch - 1 ∧
      1 ≤ ((32816 : Num16) - (freshPv.unit 12).live.lastSeq).toNat ∧
      ((32816 : Num16) - (freshPv.unit 12).live.lastSeq).toNat ≤ 32767) ∧
    Ready caseA ∧ (caseA.unit 40).kind = bodyKind meterReading.body ∧ (caseA.unit 40).link = some meterReading.src ∧
      meterReading.epoch = caseA.tracker.epoch ∧ (caseA.unit 40).live.lastArrival = none :=
  ⟨⟨⟨rfl, rfl⟩, by decide⟩, ⟨⟨by decide, by decide⟩, by decide⟩, ⟨rfl, rfl⟩, by decide⟩

theorem meets_AcceptedReadingIsStored_clamp :
    ReadingClamped ((leaves (.reading reading49) silentPv).unit 12).live reading49.body ∧
    ¬ ReadingClamped ((leaves (.reading meterReading) caseA).unit 40).live meterReading.body :=
  ⟨Or.inr (Or.inl (by decide)), by
    rintro (h | h)
    · exact absurd h (by decide)
    · exact absurd h (by decide)⟩
/-- A feeder's reading, and its record before it: OPEN or CLOSED, with the Shed Controller items given. -/
def feederReading7 (b : Breaker) : ReadingMsg :=
  { port := .pa, src := 0, unit := 7, seq := 1, epoch := 0, body := .feeder 90 b }
def feederBefore (b : Breaker) (j : FeederJob) : State :=
  { inMode .active with shed := { stack := if stacked j.shed then [⟨7, .manual, 120, 3⟩] else [] } }.setUnit 7
    { closedFeeder 80 with live := { freshness := .held, lastArrival := some 0, values := { load := 80, breaker := b } }, feederJob := j }
/-- The feeder RESTORING off the stack. -/
def restoringOff : State := { feederBefore .opn { shed := .restoring } with shed := {} }
theorem meets_AcceptedReadingIsStored_feeder :
    (∀ b ∈ [Breaker.opn, .closed], Ready (feederBefore .opn { shed := .closed }) ∧
      checkReading (feederBefore .opn { shed := .closed }) (feederReading7 b) = .accepted ∧
      bodyKind (feederReading7 b).body = .feeder ∧ (feederBefore .opn { shed := .closed }).planRunning = false) ∧
    (∀ b ∈ [Breaker.opn, .closed], ∀ x ∈ [ShedState.unknown, .closed, .opening, .shed, .restoring, .openOther, .openPlan],
      ((feederBefore b { shed := x }).unit 7).feederJob.shed = x ∧ ((feederBefore b { shed := x }).unit 7).live.values.breaker = b) ∧
    (((feederBefore .opn { shed := .opening, settling := some .opn }).unit 7).feederJob.openOrder = none ∧
      ((feederBefore .opn { shed := .restoring, settling := some .close }).unit 7).feederJob.settling = some .close) ∧
    7 ∈ (feederBefore .opn { shed := .restoring }).shed.stack.map StackEntry.feeder ∧
    7 ∉ restoringOff.shed.stack.map StackEntry.feeder ∧ logOpen (feederBefore .closed { shed := .shed }) :=
  ⟨fun _ _ => ⟨⟨rfl, rfl⟩, by simp_all; rename_i h; rcases h with rfl | rfl <;> decide, rfl, by decide⟩, by decide, by decide,
    by decide, by decide, ⟨rfl, by decide⟩⟩

/-- A METER reading's arrival. -/
def arrivalIn (s : State) (m : ReadingMsg) (f v : Nat) : Arrival :=
  { meter := m.unit, frequency := f, voltage := v, time := s.now, interval := (s.unit m.unit).interval,
    gap := if recordOpen (s.unit m.unit) s.now then none else some (m.seq - (s.unit m.unit).live.lastSeq).toNat,
    sourceChanged := s.lastSource != some m.unit }
/-- The reference meter 40 heard 100 ms ago, the backup 41 never. -/
def metering (m : Mode) : State :=
  { inMode m with
    now := 5100
    lastSource := some 40
    service := { mode := m, settings := { reference := some 40, backup := some 41, curtailEnable := false } } }
    |>.setUnit 40 { meterUnit 50000 with live := {
        freshness := .fresh, lastSeq := 7, lastArrival := some 5000, values := { frequency := 50000, voltage := 400 } } }
    |>.setUnit 41 { kind := .meter }
def meterSays (f v : Nat) : ReadingMsg :=
  { port := .pa, src := 0, unit := 40, seq := 8, epoch := 0, body := .meter (BitVec.ofNat 32 f) (BitVec.ofNat 32 v) }
theorem meets_AcceptedReadingIsStored_meter :
    Ready (metering .active) ∧ checkReading (metering .active) (meterSays 50000 400) = .accepted ∧
    MeterTaken (metering .active) 40 ∧ ¬ MeterTaken (metering .active) 41 ∧
    ArrivalMade (metering .active) (meterSays 50000 400) 50000 400
      (arrivalIn (metering .active) (meterSays 50000 400) 50000 400) ∧
    (arrivalIn (metering .active) (meterSays 50000 400) 50000 400).gap = some 1 := by
  refine ⟨⟨rfl, rfl⟩, by decide, Or.inl rfl, ?_, ⟨⟨rfl, rfl, rfl, rfl⟩, rfl, by decide, ?_, ?_⟩, by decide⟩
  · rintro (h | ⟨-, h⟩)
    · exact absurd h (by decide)
    · rcases h 40 rfl with h | h
      · exact absurd h (by decide)
      · exact absurd rfl h.1
  · rintro (h | h)
    · exact absurd h (by decide)
    · exact absurd (h 5000 rfl) (by decide)
  · intro t _ h _
    rfl
theorem meets_FailedReadingIsDropped :
    (Ready freshPv ∧ freshPv.mode ≠ .halted ∧ (freshPv.unit 12).kind = bodyKind wrongSource.body ∧
      (freshPv.unit 12).link ≠ some wrongSource.src ∧ freshPv.isLatched .addressMismatch = false) ∧
    (Ready unlinked ∧ (unlinked.unit 40).kind = bodyKind meterReading.body ∧ (unlinked.unit 40).link ≠ some meterReading.src) ∧
    ((inMode .halted).mode = .halted ∧ Ready (inMode .halted)) ∧
    ((freshPv.unit 12).link = some reading49.src ∧ freshPv.tracker.state = .primary ∧ (805 : Num16) ≠ freshPv.tracker.epoch ∧
      (805 : Num16) ≠ freshPv.tracker.epoch - 1) ∧
    ((freshPv.unit 12).live.heard = true ∧ (freshPv.unit 12).live.lastArrival = some 1720 ∧
      elapsed freshPv.now 1720 ≤ (freshPv.unit 12).stale * (freshPv.unit 12).interval ∧
      32768 ≤ ((32817 : Num16) - (freshPv.unit 12).live.lastSeq).toNat) :=
  ⟨⟨⟨by decide, by decide⟩, by decide⟩, ⟨⟨rfl, rfl⟩, by decide⟩, ⟨rfl, rfl, rfl⟩, by decide⟩

/-- G4 with the Dispatcher items, the engine and the breaker given, its START or STOP in slot 3; and a reading of it. -/
def gensetAt (j : GensetJob) (e : Engine) (b : Breaker) : State :=
  inMode .active |>.setUnit 4 {
    onlineGenset 500 0 with
    live := { freshness := .fresh, lastArrival := some 0, values := { output := 70, engine := e, breaker := b } }
    gensetJob := j }
def ordered (d : DispatchState) (k : OrderKind) : GensetJob := { dispatch := d, openOrder := some ⟨k, 3, .dispatch⟩ }
def stopOf (x : OrderState) : Order :=
  { target := 4, kind := .stop, value := none, number := 1, owner := .dispatch, cls := .dispatch, planStep := none, state := x }
def gensetSays (e : Engine) (b : Breaker) : ReadingMsg :=
  { port := .pa, src := 0x4E, unit := 4, seq := 1, epoch := 0, body := .genset 70 b e .remote }

theorem test_running_genset_is_adopted :
    let t := leaves (.reading (gensetSays .running .closed)) (gensetAt { dispatch := .stopped, attempts := 1 } .stopped .opn)
    ((t.unit 4).gensetJob.dispatch, (t.unit 4).gensetJob.attempts, t.dispatcher.commit) = (.online, 0, [4]) ∧
    (t.events.log.get 0).map (fun e => (e.kind, e.value, e.detail)) = some (.gensetAdopted, some 70, some 0) := by decide
theorem test_stop_ends_at_the_reading :
    let t := leaves (.reading (gensetSays .stopped .opn)) (gensetAt { dispatch := .stopping, deadline := some 900 } .running .closed)
    ((t.unit 4).gensetJob.dispatch, (t.unit 4).gensetJob.deadline, (t.events.log.get 0).map fun e => (e.kind, e.detail)) =
      (.stopped, none, some (.gensetStopped, some 1)) := by decide
theorem test_queued_stop_is_withdrawn_by_a_trip :
    let t := leaves (.reading (gensetSays .faulted .opn))
      ((gensetAt (ordered .stopPending .stop) .running .closed).setSlot 3 (some (stopOf .waitingRetry)))
    (t.slot 3, (t.unit 4).gensetJob.trips, (t.unit 4).gensetJob.openOrder) = (none, 1, none) := by decide
theorem test_accepted_start_waits_for_the_engine :
    let t := handleTask (gensetAt (ordered .startPending .start) .stopped .opn)
      (.ended .dispatcher 3 { stopOf .sent with kind := .start } .accept)
    ((t.unit 4).gensetJob.dispatch, (t.unit 4).gensetJob.deadline) = (.starting, some 60000) := by decide

/-- G1 before its trip, last heard 4 ms ago. -/
def beforeTrip : State := tripping.setLive 1 { (tripping.unit 1).live with lastArrival := some 1500000 }
theorem meets_OpenBreakerTripsAnOnlineGenset :
    Ready beforeTrip ∧ checkReading beforeTrip tripReading = .accepted ∧
      tripReading.body = .genset 0 .opn .faulted .remote ∧ (beforeTrip.unit tripReading.unit).gensetJob.dispatch = .online ∧
      beforeTrip.planRunning = false ∧ (beforeTrip.unit tripReading.unit).live.freshness ≠ .stale ∧ logOpen beforeTrip :=
  ⟨⟨rfl, rfl⟩, by decide, by decide, by decide, by decide, by decide, rfl, by decide⟩

/-- G1 has tripped with 380 kW lost; feeder 21 goes first, then 20; feeder 22 is OPENING at 50 kW. -/
def picking (permits : PermitSet) : State :=
  { inMode .active with shed := { stack := [⟨22, .manual, 50, 0⟩] } }
    |>.setUnit 20 { closedFeeder 200 with permits := permits, credit := 1, feeder := { priority := 2 } }
    |>.setUnit 21 { closedFeeder 150 with permits := permits, credit := 1, feeder := { priority := 1 } }
    |>.setUnit 22 { closedFeeder 50 with feederJob := { shed := .opening, openOrder := some ⟨.opn, 4, .shed⟩ } }
    |>.setUnit 23 { closedFeeder 900 with feeder := { priority := 0, essential := true } }

theorem test_predictive_shed_chooses_by_priority :
    let t := predictiveShed (picking { opn := true }) 1 380
    (t.shed.stack.map StackEntry.feeder, t.shed.predictive) =
      ([22, 21, 20], some { amount := 380, covered := 400, chosen := [21, 20] }) ∧
    (t.events.log.get 0).map (fun e => (e.kind, e.value, e.detail)) = some (.predictiveShed, some 380, some 2) := by decide

/-- The feeder 22 of a predictive record is OPENING. -/
def chosenOpening : State :=
  { picking { opn := true } with
    shed := { stack := [⟨22, .predictive, 50, 0⟩], predictive := some { amount := 100, covered := 50, chosen := [22] } } }
def openOf (u : UnitNo) : Order :=
  { target := u, kind := .opn, value := none, number := 1, owner := .shed, cls := .urgent, planStep := none }
theorem test_chosen_feeder_is_replaced :
    let t := handleTask chosenOpening (.ended .shed 4 (openOf 22) .timedOut)
    (t.shed.stack.map StackEntry.feeder, t.shed.predictive, (t.unit 22).feederJob.shed) =
      ([21], some { amount := 100, covered := 150, chosen := [21], failed := [22] }, .closed) := by decide

theorem meets_OpenBreakerTripsAnOnlineGenset_shed :
    (MayShed (picking { opn := true }) 21 ∧ MayShed (picking { opn := true }) 20 ∧ ¬ MayShed (picking { opn := true }) 23) ∧
    InShedOrder (picking { opn := true }) [21, 20] ∧
    RoomToShed (picking { opn := true }) [21, 20] ∧ (∀ u ∈ [(21 : UnitNo), 20], mayOpen (picking { opn := true }) u = true) ∧
    mayOpen (picking {}) 20 = false ∧ (inMode .observe).mode = .observe ∧ logOpen (picking {}) ∧
    (chosenOpening.shed.predictive = some { amount := 100, covered := 50, chosen := [22] } ∧
      (chosenOpening.unit 22).feederJob.shed = .opening ∧
      (chosenOpening.unit 22).feederJob.openOrder = some ⟨.opn, 4, .shed⟩ ∧ (openOf 22).owner ≠ .plan ∧ logOpen chosenOpening) :=
  ⟨⟨⟨by decide, by decide, by decide, by decide⟩, ⟨by decide, by decide, by decide, by decide⟩,
      fun h => absurd h.plain (by decide)⟩,
    by unfold InShedOrder; decide, ⟨Or.inl rfl, rfl, by decide⟩, by decide, by decide, rfl,
    ⟨rfl, by decide⟩, ⟨by decide, by decide, by decide, by decide, rfl, by decide⟩⟩
theorem meets_OpenBreakerTripsAnOnlineGenset_rows :
    (∀ d ∈ [DispatchState.stopped, .unavailable, .startPending, .starting, .online, .stopPending, .stopping, .lockedOut],
      ∀ k ∈ [none, some OrderKind.start, some .stop], ∀ e ∈ [Engine.stopped, .cranking, .running, .faulted],
      ∀ b ∈ [Breaker.opn, .closed], ∃ r : UnitRec, r = (gensetAt { ordered d .stop with settling := k } e b).unit 4 ∧
        r.kind = .genset ∧ r.gensetJob.dispatch = d ∧ r.gensetJob.settling = k ∧ r.live.values.engine = e ∧
        r.live.values.breaker = b ∧ r.gensetJob.openOrder = some ⟨.stop, 3, .dispatch⟩) ∧
    RunsClosed ((gensetAt { dispatch := .stopped } .running .closed).unit 4) ∧
    ¬ RunsClosed ((gensetAt { dispatch := .stopped } .running .opn).unit 4) ∧
    (∃ s : State, s = (gensetAt (ordered .stopPending .stop) .running .opn).setSlot 3 (some (stopOf .waitingRetry)) ∧
      s.slot 3 = some (stopOf .waitingRetry) ∧ unsentYet s 3 (stopOf .waitingRetry) = true) ∧
    (gensetAt (ordered .stopPending .stop) .running .opn).slot 3 = none ∧
    (gensetAt (ordered .stopPending .start) .running .opn).unit 4 ≠ (gensetAt (ordered .stopPending .stop) .running .opn).unit 4 ∧
    ((onlineGenset 500 0).genset.maxAttempts ≤ min 3 (1 + 1) ∧ ¬ (onlineGenset 500 0).genset.maxAttempts ≤ min 3 (0 + 1)) ∧
    (logOpen (gensetAt {} .stopped .opn) ∧
      ∀ k : Fin 32, (gensetAt {} .stopped .opn).events.log.get ((gensetAt {} .stopped .opn).events.writeIndex + k) = none) ∧
    (Ready (gensetAt {} .stopped .opn) ∧ checkReading (gensetAt {} .stopped .opn) (gensetSays .running .closed) = .accepted ∧
      (gensetSays .running .closed).body = .genset 70 .closed .running .remote ∧ (gensetAt {} .stopped .opn).planRunning = false) :=
  ⟨fun _ _ _ _ _ _ _ _ => ⟨_, rfl, rfl, rfl, rfl, rfl, rfl, rfl⟩, ⟨rfl, rfl⟩, fun h => absurd h.2 (by decide),
    ⟨_, rfl, rfl, rfl⟩, rfl, by decide, by decide, ⟨⟨rfl, rfl⟩, by decide⟩, ⟨rfl, rfl⟩, by decide, rfl, by decide⟩
theorem meets_ForeignOrderHoldsTheUnit :
    (Ready freshPv ∧ freshPv.mode ≠ .halted ∧ (freshPv.unit technician.unit).kind ≠ .noUnit ∧
      (freshPv.unit technician.unit).holdCurrent freshPv.now = false ∧ logOpen freshPv) ∧
    (Ready observed ∧ (observed.unit technician.unit).holdCurrent observed.now = true) ∧
    (State.reset.unit technician.unit).kind = .noUnit :=
  ⟨⟨⟨by decide, by decide⟩, by decide, by decide, by decide, by decide, by decide⟩, ⟨⟨by decide, by decide⟩, by decide⟩,
    by decide⟩
theorem meets_ManualHoldEndsAtItsDeadline :
    Ready observed ∧ (observed.unit 12).live.hold = some 61800 ∧ reached observed.now 61800 = false ∧
      reached 61800 61800 = true := ⟨⟨by decide, by decide⟩, by decide⟩

/-! ### Orders and the deadlines of the jobs -/

/-- Every slot is taken. -/
def crammed : State := { feederOrders with orders := { slots := Vector.replicate 12 (some (capOrder 9 0 1)) } }
theorem test_request_fills_a_slot :
    ((requestOrder feederOrders 20 .opn none .shed none).1.slot 8).map (fun o => (o.number, o.cls, o.owner, o.attempt)) =
      some (1, .urgent, .shed, 1) := by decide
theorem test_request_coalesces :
    (((requestOrder feederOrders 2 .setCap (some 77) .curtail none).1.slot 11).map fun o => (o.value, o.number)) =
      some (some 77, 1) := by decide
theorem meets_RequestsAreJudgedInOrder_results :
    judgeRequest crammed 20 .opn .shed = .refused .noSlot ∧ orderClass .shed .opn = .urgent ∧
    judgeRequest feederOrders 20 .close .service = .refused .noSlot ∧ orderClass .service .close ≠ .urgent ∧
    judgeRequest feederOrders 9 .setCap .curtail = .refused .noCredit ∧
    (∀ o : Owner, ∃ x : Order, x = { capOrder 2 0 1 with owner := o } ∧ x.owner = o) ∧
    (∀ k ∈ [UnitKind.genset, .feeder, .storage, .pv], ∃ s : State, s = State.reset.setUnit 2 { kind := k } ∧
      (s.unit (capOrder 2 0 1).target).kind = k) :=
  ⟨by decide, rfl, by decide, by decide, by decide, fun _ => ⟨_, rfl, rfl⟩, fun _ _ => ⟨_, rfl, rfl⟩⟩
/-- Both ports transmit, and URGENT holds some entries. -/
def urging (n : Nat) : State :=
  bothBusy { feederOrders with egress := { feederOrders.egress with urgent := List.replicate n 7 } }
theorem test_order_joins_its_queue :
    ∀ n ∈ [0, 7], (requestOrder (urging n) 20 .opn none .shed none).1.egress.urgent = List.replicate n 7 ++ [8] := by decide
theorem test_order_joins_the_waiting_line :
    let t := (requestOrder (urging 8) 20 .opn none .shed none).1
    (t.egress.urgent.length, t.orders.waiting, (t.slot 8).map Order.state) = (8, [8], some .waitingRetry) := by decide
theorem meets_RequestsAreJudgedInOrder_joins :
    ∀ n ∈ [0, 7, 8], judgeRequest (urging n) 20 .opn .shed = .created 8 ∧ Busy (urging n) ∧
      (urging n).egress.urgent.length = n ∧ queueDepth (orderClass .shed .opn) = 8 := by
  intro n hn
  refine ⟨?_, busy_bothBusy _, ?_, rfl⟩ <;> revert n <;> decide
theorem meets_RequestsAreJudgedInOrder :
    (inMode .halted).mode = .halted ∧ feederOrders.mode = .active ∧
    (feederOrders.unit 2).permits.has .start = false ∧
    ((feederOrders.unit 10).permits.has .setCap = true ∧ (feederOrders.unit 10).holdCurrent feederOrders.now = true) ∧
    ((feederOrders.unit 2).permits.has .setCap = true ∧ (feederOrders.unit 2).holdCurrent feederOrders.now = false ∧
      judgeRequest feederOrders 2 .setCap .curtail = .coalesced 11) ∧
    ((feederOrders.unit 9).credit ≤ feederOrders.inFlight 9 ∧
      judgeRequest feederOrders 9 .setCap .curtail = .refused .noCredit) ∧
    (feederOrders.inFlight 20 < (feederOrders.unit 20).credit ∧ 8 ≤ feederOrders.nonUrgent ∧
      judgeRequest feederOrders 20 .close .service = .refused .noSlot) ∧
    (judgeRequest feederOrders 20 .opn .shed = .created 8 ∧ feederOrders.slot 8 = none ∧
      ∀ j : SlotNo, j < 8 → feederOrders.slot j ≠ none) ∧
    (∃ o : Order, feederOrders.slot 11 = some o ∧ o.target = 2 ∧ o.kind = .setCap ∧ o.attempt = 1 ∧
      o.inTx.isEmpty = true ∧ o.state = .queued ∧ o.pendingPort = none ∧ 11 ∈ feederOrders.queue o.cls) :=
  ⟨by decide, by decide, by decide, by decide, by decide, by decide, by decide, by decide, ⟨_, rfl, by decide⟩⟩
theorem meets_ReplyEndsItsOrder :
    (Ready capped ∧ capped.slot 1 = some (capOrder 2 265 8) ∧ (capOrder 2 265 8).state = .sent ∧
      (capOrder 2 265 8).target = (replyOf 2 8 .accept).unit ∧ (capOrder 2 265 8).number = (replyOf 2 8 .accept).number ∧
      (capped.unit 2).linkAddr = (replyOf 2 8 .accept).src ∧ logOpen capped ∧
      ∀ j : SlotNo, (capped.slot j).all
        (fun x => !(x.state == .sent && x.target == 2 && x.number == 8) || j == 1) = true) ∧
    ∀ j : SlotNo, (capped.slot j).all (fun x => !(x.state == .sent && x.target == 2 && x.number == 9)) = true :=
  ⟨⟨⟨rfl, rfl⟩, by decide, by decide, by decide, by decide, by decide, ⟨rfl, by decide⟩, by decide⟩, by decide⟩
/-- Feeder 7's order is in slot 4, with the restore-fail count given. -/
def feederEnd (x : ShedState) (n : Nat) (b : Breaker) : State :=
  feederBefore b { shed := x, restoreFail := n, openOrder := some ⟨if x = .opening then .opn else .close, 4, .shed⟩ }
/-- The plan waits for a CLOSE of unit 8, or a START of G4, in slot 3. -/
def planEnd (x : StepState) (k : OrderKind) (u : UnitNo) : State :=
  waitingStep.setProgress { waitingStep.progress with stepState := x, orders := [⟨3, u, k⟩] }
theorem meets_ReplyEndsItsOrder_jobs :
    (∀ x ∈ [OrderKind.start, .stop], ∀ d ∈ [DispatchState.startPending, .stopPending, .online], ∀ e ∈ [Engine.stopped, .running],
      ∃ s : State, s = gensetAt (ordered d x) e .closed ∧ (s.unit 4).gensetJob.openOrder = some ⟨x, 3, .dispatch⟩ ∧
        (s.unit 4).gensetJob.dispatch = d ∧ (s.unit 4).kind = .genset ∧ (s.unit 4).live.values.engine = e) ∧
    (∀ x : OpenOrder, ((gensetAt {} .stopped .opn).unit 4).gensetJob.openOrder = some x → x.slot ≠ 3) ∧
    (∀ x ∈ [ShedState.opening, .restoring, .shed], ∀ n ∈ [0, 1, 2], ∀ b ∈ [Breaker.opn, .closed],
      ∃ o : OpenOrder, ((feederEnd x n b).unit 7).feederJob.openOrder = some o ∧ o.slot = 4 ∧
        ((feederEnd x n b).unit 7).feederJob.shed = x ∧ ((feederEnd x n b).unit 7).feederJob.restoreFail = n ∧
        ((feederEnd x n b).unit 7).live.values.breaker = b) ∧
    ((openOf 7).owner ≠ .plan ∧ (∀ p : Predictive, (feederEnd .opening 0 .opn).shed.predictive = some p → 7 ∉ p.chosen) ∧
      (feederEnd .restoring 1 .opn).shed.stack.find? (fun y => y.feeder == 7) = some ⟨7, .manual, 120, 3⟩ ∧
      7 ∉ ({ feederEnd .restoring 1 .opn with shed := {} } : State).shed.stack.map StackEntry.feeder ∧
      logOpen (feederEnd .restoring 1 .opn)) ∧
    (∀ x ∈ [StepState.issued, .waiting, .done, .failed], ∀ y ∈ [(OrderKind.close, (8 : UnitNo)), (.start, 4)],
      (planEnd x y.1 y.2).progress.planState = .running ∧ (planEnd x y.1 y.2).progress.stepState = x ∧
        ⟨3, y.2, y.1⟩ ∈ (planEnd x y.1 y.2).progress.orders ∧
        (progressAfterEnd (planEnd x y.1 y.2).progress ⟨3, y.2, y.1⟩ .timedOut).cancelPending = false ∧
        (progressAfterEnd (planEnd x y.1 y.2).progress ⟨3, y.2, y.1⟩ .outcomeUnknown).cancelPending = true) ∧
    (⟨3, 8, .close⟩ : PlanOrder) ∉ waitingStep.progress.orders ∧ logOpen (planEnd .waiting .close 8) :=
  ⟨fun _ _ _ _ _ _ => ⟨_, rfl, rfl, rfl, rfl, rfl⟩, fun _ h => (nomatch h),
    fun _ _ _ _ _ _ => ⟨_, rfl, rfl, rfl, rfl, rfl⟩,
    ⟨by decide, fun _ h => (nomatch h), by decide, by decide, rfl, by decide⟩, by decide, by decide, rfl, by decide⟩
theorem test_plan_close_timed_out_fails_the_step :
    let o : Order := { stopOf .sent with target := 8, kind := .close, owner := .plan, planStep := some 5 }
    let t := handleTask (planEnd .waiting .close 8) (.ended .sequencer 3 o .timedOut)
    (t.progress.stepState, t.progress.failCause, t.progress.orders) = (.failed, some 3, []) := by decide
theorem meets_ReplyTimeoutRetriesOrEnds :
    (∀ a ∈ [2, 3], (unanswered .active a).slot 0 = some { capOrder 1 535 21 with attempt := a } ∧
      reached (unanswered .active a).now 20230 = true ∧ (unanswered .active a).mode = .active) ∧
    (capOrder 1 535 21).state = .sent ∧ (capOrder 1 535 21).deadline = some 20230 ∧
    2 ≤ (unanswered .active 2).settings.retryLimit ∧ (unanswered .active 3).settings.retryLimit < 3 ∧
    Ready (unanswered .active 2) ∧ Ready (unanswered .active 3) ∧ logOpen (unanswered .active 3) ∧
    (((leaves (.replyTimeout 0) (((unanswered .active 2).setTx .pa .forwarding).setTx .pb .forwarding)).slot 0).map
      fun o => (o.state, o.stamp)) = some (.queued, none) ∧ (capOrder 1 535 21).cls ≠ .report ∧
    (((leaves (.replyTimeout 0) (unanswered .active 2)).slot 0).map fun o => o.stamp.isSome) = some true :=
  ⟨by decide, by decide, by decide, by decide, by decide, ⟨rfl, rfl⟩, ⟨rfl, rfl⟩, ⟨rfl, by decide⟩, by decide, by decide,
    by decide⟩
theorem meets_StartTimeoutFailsTheAttempt :
    Ready starting ∧ (starting.unit 4).kind = .genset ∧ (starting.unit 4).gensetJob.dispatch = .starting ∧
      (starting.unit 4).gensetJob.deadline = some 300560 ∧ reached starting.now 300560 = true ∧
      starting.planRunning = false ∧ logOpen starting :=
  ⟨⟨rfl, rfl⟩, by decide, by decide, by decide, by decide, by decide, rfl, by decide⟩
theorem meets_StopTimeoutEndsTheStop (b : Breaker) :
    Ready (stopping b) ∧ ((stopping b).unit 4).kind = .genset ∧ ((stopping b).unit 4).gensetJob.dispatch = .stopping ∧
      ((stopping b).unit 4).gensetJob.deadline = some 500 ∧ reached (stopping b).now 500 = true ∧
      4 ∈ (stopping b).dispatcher.commit ∧ ((stopping b).unit 4).live.values.breaker = b ∧ logOpen (stopping b) := by
  cases b <;> exact ⟨⟨rfl, rfl⟩, by decide, by decide, by decide, by decide, by decide, by decide, rfl, by decide⟩

/-- An essential feeder RESTORING off the stack. -/
def restoringEssential : State :=
  { restoring 0 with shed := {} }.setUnit 1 { closedFeeder 0 with
      feeder := { essential := true }, feederJob := { shed := .restoring, deadline := some 645140 } }
theorem meets_RestoreTimeoutIsARestoreFailure :
    (∀ n ∈ [0, 1], ((restoring n).unit 1).kind = .feeder ∧ ((restoring n).unit 1).feederJob.shed = .restoring ∧
      ((restoring n).unit 1).feederJob.deadline = some 645140 ∧ reached (restoring n).now 645140 = true ∧
      (restoring n).shed.stack.find? (fun x => x.feeder == 1) = some ⟨1, .predictive, 200, 3⟩ ∧
      ((restoring n).unit 1).feederJob.restoreFail = n) ∧
    Ready (restoring 0) ∧ Ready (restoring 1) ∧ logOpen (restoring 1) ∧ Ready restoringEssential ∧
    (restoringEssential.unit 1).feederJob.shed = .restoring ∧ ∀ e ∈ restoringEssential.shed.stack, e.feeder ≠ 1 :=
  ⟨by decide, ⟨rfl, rfl⟩, ⟨rfl, rfl⟩, ⟨rfl, by decide⟩, ⟨rfl, rfl⟩, by decide⟩

/-- The step of section 9.9 with a cap of the Allocator's in a slot. -/
def waitingStepWithOrder : State := waitingStep.setSlot 3 (some (capOrder 12 0 1))
theorem meets_StepTimeoutFailsTheStep :
    Ready waitingStepWithOrder ∧ waitingStepWithOrder.progress.planState = .running ∧
      waitingStepWithOrder.progress.stepState = .waiting ∧ waitingStepWithOrder.progress.deadline = some 121800 ∧
      reached waitingStepWithOrder.now 121800 = true ∧ waitingStepWithOrder.slot 3 = some (capOrder 12 0 1) ∧
      (capOrder 12 0 1).owner ≠ .plan ∧ logOpen waitingStepWithOrder :=
  ⟨⟨rfl, rfl⟩, by decide, by decide, by decide, by decide, by decide, by decide, rfl, by decide⟩

/-- Step 5 has come to an end at an attempt, with no order left, and step 6 is next; the plan holds feeder 20, CLOSED, feeder 21, OPEN,
and the essential feeder 22, OPEN. -/
def planFeeder (load : Nat) (b : Breaker) (essential : Bool) : UnitRec :=
  { kind := .feeder, permits := { opn := true }, credit := 1, feeder := { essential := essential }
    live := { freshness := .fresh, values := { load := load, breaker := b } }, feederJob := { shed := .openPlan } }
def stepEnded (x : StepState) (policy : Policy) (next : PlanStep) (attempt : Nat) : State :=
  { waitingStep with
    seqr := {
      plan := (Vector.replicate 32 ({} : PlanStep)).set 5 { action := .waitStable, policy := policy } |>.set 6 next
      progress := { planState := .running, current := 5, stepState := x, attempt := attempt } } }
    |>.setUnit 20 (planFeeder 10 .closed false) |>.setUnit 21 (planFeeder 30 .opn false)
    |>.setUnit 22 (planFeeder 50 .opn true)
theorem test_end_hands_the_feeders_back :
    let t := handleTask (stepEnded .done .abort { action := .endPlan } 1) .planAdvance
    (t.mode, t.progress.planState, t.shed.stack.map fun e => (e.feeder, e.cause, e.load)) =
      (.active, .completed, [(21, .plan, 30)]) ∧
    [20, 21, 22].map (fun u => (t.unit u).feederJob.shed) = [.closed, .shed, .openOther] ∧
    (t.events.log.get 1).map (fun e => (e.kind, e.value, e.detail)) = some (.shedFailed, some 50, some 4) := by decide
theorem test_failed_step_is_retried :
    let t := handleTask (stepEnded .failed .retry {} 2) .planAdvance
    (t.progress.current, t.progress.attempt, t.progress.stepState, t.progress.deadline) =
      (5, 3, .waiting, some 181800) := by decide
theorem test_third_failure_aborts :
    let t := handleTask (stepEnded .failed .retry {} 3) .planAdvance
    (t.mode, t.progress.planState, t.progress.endCause, (t.unit 21).feederJob.shed) =
      (.observe, .aborted, some 2, .openOther) := by decide
theorem test_skip_without_end_aborts :
    let t := handleTask (stepEnded .failed .skip {} 1) .planAdvance
    (t.progress.planState, t.progress.endCause, t.progress.current) = (.aborted, some 3, 5) := by decide
theorem meets_StepTimeoutFailsTheStep_advance :
    (∀ x ∈ [StepState.done, .failed], ∀ p ∈ [Policy.retry, .skip, .abort], ∀ n ∈ [1, 2, 3],
      ∃ s : State, s = stepEnded x p { action := .endPlan } n ∧ s.mode = .restore ∧ s.progress.planState = .running ∧
        s.progress.cancelPending = false ∧ s.progress.orders = [] ∧ s.agenda = [] ∧ s.progress.stepState = x ∧
        s.progress.restartPending = false ∧ s.progress.current = 5 ∧ s.progress.attempt = n) ∧
    (∀ p ∈ [Policy.retry, .skip, .abort],
      ((stepEnded .failed p {} 1).seqr.plan.get (stepEnded .failed p {} 1).progress.current).policy = p) ∧
    ((6 : Fin 32).val = (stepEnded .done .abort {} 1).progress.current.val + 1 ∧
      ((stepEnded .done .abort {} 1).seqr.plan.get 6).action = .noAction) ∧
    (∀ a ∈ [StepAction.openAllFeeders, .startGenset, .waitStable, .closeUnit, .closeZone, .releasePv, .endPlan],
      ((stepEnded .done .abort { action := a, argument := 21 } 1).seqr.plan.get 6).action = a ∧
        ((stepEnded .done .abort { action := a, argument := 21 } 1).seqr.plan.get 6).argument = (21 : UnitNo).val) ∧
    (∃ s : State, s = stepEnded .done .abort {} 1 ∧ (∀ e ∈ s.shed.stack, (s.unit e.feeder).feederJob.shed ≠ .openPlan) ∧
      HeldOpen (s.unit 21) ∧ (s.unit 21).feeder.essential = false ∧ HeldOpen (s.unit 22) ∧
      (s.unit 22).feeder.essential = true ∧ s.events.overflow = false ∧ (∀ k : LogNo, s.events.log.get k = none) ∧
      (∀ g : UnitNo, (s.unit g).kind = .genset → (s.unit g).gensetJob.dispatch ≠ .stopPending) ∧
      Reads (s.unit 20) .closed ∧ ¬ Reads (s.unit 20) .opn ∧ Reads (s.unit 22) .opn ∧ mayOpen s 20 = true ∧
      s.inFlight 20 < (s.unit 20).credit ∧
      occupied s + ((List.finRange 64).filter fun v => (s.unit v).kind = .feeder).length ≤ 12 ∧
      judgeRequest s 8 .close .plan = .created 0 ∧ judgeRequest s 21 .close .plan = .refused .notPermitted) ∧
    ({ (stepEnded .done .abort {} 1).progress with restartPending := true }.restartPending = true ∧
      { (stepEnded .done .abort {} 1).progress with current := 31 }.current = 31) := by
  refine ⟨fun _ _ _ _ _ _ => ⟨_, rfl, rfl, rfl, rfl, rfl, rfl, rfl, rfl, rfl, rfl⟩, by decide, by decide, by decide,
    ⟨_, rfl, by decide, ⟨rfl, rfl, rfl⟩, rfl, ⟨rfl, rfl, rfl⟩, rfl, rfl, by decide, by decide, ⟨Or.inl rfl, rfl⟩,
      fun h => absurd h.2 (by decide), ⟨Or.inl rfl, rfl⟩, by decide, by decide, by decide, by decide, by decide⟩, rfl, rfl⟩

/-- Step 5 is the step given, its progress as given, in the plan of `stepEnded`; G4 is in a dispatch state. -/
def stepAt (p : PlanStep) (q : Progress) (d : DispatchState) : State :=
  { stepEnded .waiting .abort {} 1 with
    seqr := {
      plan := (Vector.replicate 32 ({} : PlanStep)).set 5 p
      progress := { q with planState := .running, current := 5, stepState := .waiting, deadline := some 121800 } } }
    |>.setUnit 4 { onlineGenset 500 0 with
        permits := { start := true }, credit := 1, live := { freshness := .fresh }, gensetJob := { dispatch := d } }
/-- A plan order as slot 3 holds it. -/
def planOrder (u : UnitNo) (k : OrderKind) (x : OrderState) : Order :=
  { stopOf x with target := u, kind := k, owner := .plan, planStep := some 5 }
theorem test_step_events :
    ((stepEvent (stepAt { action := .openAllFeeders } {} .stopped) .began).progress.orders = [⟨0, 20, .opn⟩]) ∧
    ([2999, 3000].map (fun n => (stepEvent (stepAt { action := .waitStable, hold := 3000 } { stableSince := some 0 } .stopped)
      (.arrival (arrival 50000 n (some 1) false))).progress.stepState) = [.waiting, .done]) ∧
    ([none, some OrderEnd.timedOut, some (.refuse .notReady)].map (fun e =>
      (stepEvent (stepAt { action := .startGenset, argument := 4 } { startEnd := e, foundStarted := true } .unavailable)
        .dispatch).progress.failCause) = [some 6, some 3, some 2]) ∧
    (stepEvent (stepAt { action := .startGenset, argument := 4 } {} .lockedOut) .began).progress.failCause = some 4 := by decide
theorem test_failed_step_withdraws_its_orders :
    [OrderState.waitingRetry, .sent].map (fun x => ((leaves .stepTimeout ((stepAt { action := .closeUnit, argument := 8 }
      { orders := [⟨3, 8, .close⟩] } .stopped).setSlot 3 (some (planOrder 8 .close x)))).slot 3).isSome) = [false, true] := by
  decide
theorem meets_StepTimeoutFailsTheStep_events :
    (∀ a ∈ [StepAction.openAllFeeders, .startGenset, .waitStable, .closeUnit, .closeZone, .releasePv, .endPlan, .noAction],
      ∀ d ∈ [DispatchState.stopped, .startPending, .starting, .online, .unavailable, .stopPending, .stopping, .lockedOut],
      ∃ s : State, s = stepAt { action := a, argument := 4 } {} d ∧ s.progress.planState = .running ∧
        s.progress.stepState = .waiting ∧ s.progress.cancelPending = false ∧
        (s.seqr.plan.get s.progress.current).action = a ∧ (s.seqr.plan.get s.progress.current).argument = (4 : UnitNo).val ∧
        (s.unit 4).kind = .genset ∧ (s.unit 4).gensetJob.dispatch = d) ∧
    StepDoneNow (stepAt { action := .waitStable, hold := 3000 } { stableSince := some 0 } .stopped)
      (.arrival (arrival 50000 3000 (some 1) false)) { action := .waitStable, hold := 3000 } ∧
    GensetLost (stepAt { action := .startGenset, argument := 4 } { startEnd := some .timedOut } .unavailable)
      { action := .startGenset, argument := 4 } 4 3 ∧
    (∃ s : State, s = stepAt { action := .startGenset, argument := 4 } {} .stopped ∧ underWay s < 2 ∧
      judgeRequest s 4 .start .plan = .created 0 ∧ (4, OrderKind.start) ∉ s.progress.toIssue ∧
      ¬ StepDoneNow s .began { action := .startGenset, argument := 4 } ∧
      ∀ (u : UnitNo) (cause : Nat), ¬ GensetLost s { action := .startGenset, argument := 4 } u cause) ∧
    (∀ x ∈ [none, some false, some true], ∃ s : State, s = stepAt { action := .closeUnit, argument := 8 } { closeSeen := x } .stopped ∧
      s.progress.closeSeen = x ∧ Reads (s.unit 8) .opn ∧ ¬ Reads (s.unit 20) .opn ∧ ¬ StepHolds s.progress 8 .close) ∧
    (∃ s : State, s = stepAt { action := .closeZone } { members := [20, 21], toIssue := [(21, .close)] } .stopped ∧
      [21].Sublist s.progress.members ∧ Reads (s.unit 20) .closed ∧ ¬ Reads (s.unit 21) .closed ∧
      ∃ x ∈ s.progress.toIssue, x.2 = .close) ∧
    (∃ s : State, s = (stepAt {} {} .stopped).setSlot 3 (some (planOrder 8 .close .waitingRetry)) ∧
      Withdrawable s 3 .plan 8 .close (planOrder 8 .close .waitingRetry) ∧ ∀ o : Order, ¬ Withdrawable s 4 .plan 8 .close o) ∧
    ((arrival 50301 5 (some 1) false).voltage = 400 ∧ (arrival 50000 5 none true).sourceChanged = true) := by
  refine ⟨fun _ _ _ _ => ⟨_, rfl, rfl, rfl, rfl, rfl, rfl, rfl, rfl⟩, ⟨_, 0, rfl, rfl, by decide⟩,
    ⟨⟨rfl, rfl, by decide⟩, ⟨rfl, by decide⟩, by decide, rfl⟩, ⟨_, rfl, by decide, by decide, by decide, ?_, ?_⟩, ?_,
    ⟨_, rfl, by decide, ⟨Or.inl rfl, rfl⟩, fun h => absurd h.2 (by decide), by decide⟩,
    ⟨_, rfl, ⟨rfl, rfl, rfl, rfl, by decide⟩, fun o h => (nomatch h.1)⟩, rfl, rfl⟩
  · rintro ⟨u, hu, -, hd⟩
    have : u = 4 := Fin.ext hu.symm
    subst this; exact absurd hd (by decide)
  · rintro u c ⟨-, -, h | h, -⟩ <;> exact absurd h (by decide)
  · intro x _
    refine ⟨_, rfl, rfl, ⟨Or.inl rfl, rfl⟩, fun h => (nomatch h.2), ?_⟩
    rintro (⟨y, h, -⟩ | h) <;> cases h

/-! ### Shedding and the Event Log -/

theorem meets_StageTimerFollowsItsTable :
    stage.threshold ≤ (arrival 49500 5 (some 1) false).frequency ∧
    ((arrival 49499 5 (some 1) false).frequency < stage.threshold ∧ 0 < stage.delay) ∧
    ({ stage with delay := 0 }.delay = 0 ∧ (arrival 49499 5 (some 1) false).gap ≠ none) ∧
    stage.threshold + stage.hysteresis ≤ (arrival 49600 5 (some 1) false).frequency ∧
    ((arrival 49599 5 none false).frequency < stage.threshold + stage.hysteresis ∧ (arrival 49599 5 none false).gap = none) ∧
    (stage.delay ≤ elapsed 1200 1000 ∧ elapsed 1199 1000 < stage.delay) := by decide

/-- Feeder 20 belongs to stage 1, of delay 0, and meter 40 in use says 49,400: the stage trips at once. -/
def underFrequency (m : Mode) : State :=
  { metering m with shed := { stages := (metering m).shed.stages.set 0 { threshold := 49500, delay := 0 } } }
    |>.setUnit 20 { closedFeeder 200 with permits := { opn := true }, credit := 1, feeder := { stage := 1 } }

theorem test_stage_trip_opens_its_feeder :
    let t := leaves (.reading (meterSays 49400 400)) (underFrequency .active)
    ((t.unit 20).feederJob.shed, t.shed.stack.map (fun e => (e.feeder, e.cause, e.load)), (t.shed.timers.get 0).state) =
      (.opening, [(20, .stage 0, 200)], .tripped) ∧
    (t.events.log.get 0).map (fun e => (e.kind, e.value, e.detail)) = some (.stageTripped, some 49400, some 1) := by decide
theorem test_observe_sheds_nothing :
    let t := leaves (.reading (meterSays 49400 400)) (underFrequency .observe)
    ((t.unit 20).feederJob.shed, t.shed.pending, (t.events.log.get 0).map EventRec.kind) = (.closed, [], some .stageTripped) := by
  decide

/-- The tracker and the timers as the reading leaves them. -/
def rocofThen : Rocof :=
  takeRocof {} (arrivalIn (underFrequency .active) (meterSays 49400 400) 49400 400) (underFrequency .active).settings.rocofLimit
def takenThen (k : Fin 6) : Timer :=
  if ((underFrequency .active).shed.stages.get k).enabled
  then takeTimer ((underFrequency .active).shed.stages.get k)
    (arrivalIn (underFrequency .active) (meterSays 49400 400) 49400 400) false ((underFrequency .active).shed.timers.get k)
  else (underFrequency .active).shed.timers.get k

/-- The bus reads 0 V since 2,000 ms, in a mode, with black start enabled or not and the restarts made. -/
def deadBus (m : Mode) (start : Bool) (restarts : Nat) (x : StepState) : State :=
  { waitingStep with
    service := { mode := m, settings := { blackStart := start, deadVoltage := 50 } }
    seqr := {
      waitingStep.seqr with
      lowSince := some 1000
      progress := { waitingStep.progress with restarts := restarts, stepState := x } } }
def lowArrival (t : Time) : Arrival := { arrival 0 t (some 1) false with voltage := 10 }

theorem meets_StageTimerFollowsItsTable_reading :
    Ready (underFrequency .active) ∧ checkReading (underFrequency .active) (meterSays 49400 400) = .accepted ∧
    MeterTaken (underFrequency .active) 40 ∧
    ArrivalMade (underFrequency .active) (meterSays 49400 400) 49400 400
      (arrivalIn (underFrequency .active) (meterSays 49400 400) 49400 400) ∧
    (underFrequency .active).planRunning = false ∧ (underFrequency .active).settings.deadVoltage ≤ 400 ∧
    rocofThen.lowCount < 2 ∧
    (∀ k : Fin 6, ((underFrequency .active).shed.timers.get k).state ≠ .tripped →
      ((takenThen k).state = .tripped ↔ k = 0)) ∧
    ((underFrequency .active).shed.timers.get 0).state ≠ .tripped ∧
    (MayShed (underFrequency .active) 20 ∧ RoomToShed (underFrequency .active) [20] ∧
      mayOpen (underFrequency .active) 20 = true) := by
  refine ⟨⟨rfl, rfl⟩, by decide, Or.inl rfl, ⟨⟨rfl, rfl, rfl, rfl⟩, rfl, by decide, ?_, fun _ _ _ _ => rfl⟩, by decide,
    by decide, by decide, by decide, by decide, ⟨⟨by decide, by decide, by decide, by decide⟩,
      ⟨Or.inl rfl, rfl, by decide⟩, by decide⟩⟩
  rintro (h | h)
  · exact absurd h (by decide)
  · exact absurd (h 5000 rfl) (by decide)
theorem meets_StageTimerFollowsItsTable_arrivals :
    (∀ m ∈ [Mode.halted, .observe, .active], (deadBus m false 0 .waiting).mode = m) ∧
    (deadBus .active true 0 .waiting).settings.blackStart = true ∧
    ((deadBus .restore true 0 .waiting).progress.stepState = .waiting ∧ min 4 (0 + 1) ≤ (deadBus .restore true 0 .done).settings.restartLimit) ∧
    (deadBus .restore true 1 .done).settings.restartLimit < min 4 (1 + 1) ∧
    ((lowArrival 3000).voltage < (deadBus .active true 0 .waiting).settings.deadVoltage ∧
      (deadBus .active true 0 .waiting).settings.deadConfirm ≤ elapsed 3000 1000 ∧
      ¬ (deadBus .active true 0 .waiting).settings.deadConfirm ≤ elapsed 2999 1000 ∧
      (∀ u : UnitNo, ((deadBus .active true 0 .waiting).unit u).kind ≠ .genset)) ∧
    ((State.reset.shed.stages.get 0).enabled = true ∧
      ({ State.reset with shed := { rocof := { lowCount := 2 } } } : State).shed.rocof.lowCount = 2 ∧
      (State.reset.shed.timers.get 0).state ≠ .tripped) ∧
    (deadBus .active true 0 .waiting).seqr.plan.get 5 = { action := .closeUnit, argument := 8, policy := .skip } := by decide
theorem test_dead_bus_starts_the_plan :
    let s := { deadBus .active true 0 .waiting with seqr := { waitingStep.seqr with
      plan := waitingStep.seqr.plan.set 0 { action := .waitStable }, progress := {}, lowSince := some 1000 } }
    let t := seqArrival s (lowArrival 3000)
    (t.mode, t.progress.planState, t.seqr.asserted) = (.restore, .running, true) ∧
    (t.events.log.get 0).map (fun e => (e.kind, e.value, e.detail)) = some (.busDead, some 10, some 1) := by decide
theorem meets_RocofTrackerFollowsArrivals :
    ((arrival 49999 5 none false).gap = none) ∧
    ((arrival 49999 5 (some 3) false).sourceChanged = false ∧ (arrival 49999 5 (some 3) false).gap = some 3 ∧
      ({ prevFrequency := some 50000, prevMeter := some 40 } : Rocof).prevMeter = some (arrival 49999 5 (some 3) false).meter ∧
      0 < 3 * (arrival 49999 5 (some 3) false).interval) := by decide
theorem meets_EventsAreWrittenOrLost :
    overflowed.events.overflow = true ∧
    (logged.events.overflow = false ∧ logged.events.log.get logged.events.writeIndex = none) ∧
    ({ logged.events with writeIndex := 0 }.overflow = false ∧ logged.events.log.get 0 = eventOf .gensetTripped) := by decide

/-! ### Service requests -/

def fullReport : Egress :=
  { report := List.replicate 16 { dst := 0x0C, ports := {}, body := .response 0 3 .done .nothing } }
theorem meets_RequestsAreTakenOrTurnedAway :
    (Ready guarded ∧ guarded.access.primaryController ≠ none ∧
      guarded.access.primaryController ≠ some (request 3 .nothing).src ∧
      guarded.access.backupController ≠ some (request 3 .nothing).src) ∧
    (Ready State.reset ∧ State.reset.access.primaryController = none ∧ State.reset.access.backupController = none ∧
      State.reset.service.queue.length < 16) ∧
    (Ready crowded ∧ crowded.access.primaryController = none ∧ crowded.access.backupController = none ∧
      16 ≤ crowded.service.queue.length ∧ crowded.egress.held = false ∧ crowded.egress.report.length < 16) ∧
    ({ crowded with egress := fullReport } : State).egress.report.length = 16 :=
  ⟨⟨⟨rfl, rfl⟩, by decide⟩, ⟨⟨rfl, rfl⟩, by decide⟩, ⟨⟨rfl, rfl⟩, by decide⟩, by decide⟩

/-- The head of a queue as every statement about a served request has it. -/
theorem head_of_reset (r : Request) : HeadIs (asked State.reset r) r [] :=
  asked_headIs State.reset r ⟨rfl, rfl⟩ (by decide) rfl

/-- A WRITE RECORD at the head of the queue. -/
theorem head_of_write (s : State) (table index : Nat) (mask : List Nat) (values : List FieldVal) (h : Ready s)
    (room : s.egress.report.length < 16) (held : s.egress.held = false) :
    HeadIs (asked s (request 1 (.write table index mask values))) (request 1 (.write table index mask values)) [] ∧
      (request 1 (.write table index mask values)).kind = 1 ∧
      (request 1 (.write table index mask values)).args = .write table index mask values :=
  ⟨asked_headIs s _ h room held, rfl, rfl⟩

/-- PV unit 5 is used by nothing; feeder 3 of the island is stacked; unit 2 holds a slot; meters fill their limit in `metered`. -/
def spare : State := State.reset.setUnit 5 (pvUnit 700 0 600)
def metered : State :=
  State.reset.setUnit 0 (meterUnit 0) |>.setUnit 1 (meterUnit 0) |>.setUnit 2 (meterUnit 0) |>.setUnit 3 (meterUnit 0)
def twice : State := (spare.setSlot 0 (some (capOrder 5 0 1))).setSlot 1 (some (capOrder 5 0 2))
def staleMeter : State := State.reset.setUnit 40 { meterUnit 0 with live := { freshness := .stale } }
theorem spare_unused : ¬ UnitUsed spare 5 := by
  have empty : ∀ i : SlotNo, spare.slot i = none := by decide
  rintro (⟨i, o, h, -⟩ | h | h | h | ⟨h, -⟩)
  · rw [empty i] at h; cases h
  · exact absurd h (by decide)
  · exact absurd h (by decide)
  · exact absurd h (by decide)
  · exact absurd h (by decide)
theorem spare_bounds : SlotBounds spare ∧ Permitted spare := by
  have empty : ∀ i : SlotNo, spare.slot i = none := by decide
  exact ⟨⟨by decide, by decide⟩, fun i o h => by rw [empty i] at h; cases h⟩
theorem island_used : UnitUsed island 2 := Or.inl ⟨0, _, rfl, rfl⟩

theorem meets_WriteRecordStoresOrRefuses :
    (Ready island ∧ Ready spare ∧ Ready metered ∧ Ready waitingStep ∧ island.egress.report.length < 16 ∧
      island.egress.held = false) ∧
    (SlotBounds island ∧ Permitted island ∧ SlotBounds spare ∧ Permitted spare) ∧
    (∀ k ∈ [UnitKind.genset, .pv, .feeder], kindFields k ≠ []) ∧ commonFields ≠ [] ∧ (spare.unit 5).kind ≠ .noUnit ∧
    (max 1 (min 4 0) < twice.inFlight 5 ∧ spare.inFlight 5 ≤ max 1 (min 4 0)) ∧
    (∃ (i : SlotNo) (o : Order), island.slot i = some o ∧ o.target = 2 ∧
      PermitSet.has ⟨false, false, false, false, false, false⟩ o.kind = false) ∧
    (UnitUsed island 2 ∧ ¬ UnitUsed spare 5) ∧
    ((UnitKind.meter, 4) ∈ kindLimits ∧ UnitKind.meter ≠ (metered.unit 5).kind ∧
      4 ≤ ((List.finRange 64).filter fun v => v ≠ 5 ∧ (metered.unit v).kind = .meter).length) ∧
    (UnitKind.genset ≠ (spare.unit 5).kind ∧ UnitKind.noUnit ≠ (spare.unit 5).kind ∧
      ((List.finRange 64).filter fun v => v ≠ 5 ∧ (spare.unit v).kind = .genset).length < 16) ∧
    ((island.unit 3).kind = .feeder ∧ true ≠ (island.unit 3).feeder.essential ∧
      3 ∈ island.shed.stack.map StackEntry.feeder) ∧
    (lastUnitField (spare.unit 5).kind < 11 ∧ lastUnitField (spare.unit 6).kind < 1) := by
  refine ⟨⟨⟨rfl, rfl⟩, ⟨rfl, rfl⟩, ⟨rfl, rfl⟩, ⟨rfl, rfl⟩, by decide, rfl⟩,
    ⟨meets_SlotBoundsKept.1, meets_SlotsHoldPermittedOrders.1, spare_bounds.1, spare_bounds.2⟩, ?_, by simp [commonFields],
    by decide, by decide, ⟨0, _, rfl, rfl, rfl⟩, ⟨island_used, spare_unused⟩, by decide, by decide, by decide, by decide⟩
  simp [kindFields]
theorem meets_WriteRecordStoresOrRefuses_tables :
    settingsFields ≠ [] ∧ settingsFlags ≠ [] ∧ stageFields ≠ [] ∧ planFields ≠ [] ∧
    (∃ f ∈ settingsFields, ∃ g ∈ settingsFields, f.number < g.number) ∧
    (State.reset.tracker.state = .unset ∧ governed.tracker.state ≠ .unset ∧ logOpen governed) ∧
    ((staleMeter.unit 40).kind = .meter ∧ (staleMeter.unit 40).live.freshness = .stale ∧
      staleMeter.settings.reference = none) ∧
    ((∀ x ∈ phaseCodes, ∃ j : Fin 16, (State.reset.egress.phases.set 0 QClass.setpoint).get j = x.2) ∧
      ∃ x ∈ phaseCodes, ∀ j : Fin 16, ((Vector.replicate 16 QClass.setpoint).set 0 .dispatch).get j ≠ x.2) ∧
    (∀ n ∈ [0, 1, 2, 3, 4], n ≤ 4 ∧ (n = 0 → 2 ≤ 7) ∧ (n = 3 → 2 ≤ 2)) ∧
    (waitingStep.progress.planState = .running ∧ State.reset.progress.planState ≠ .running ∧
      ((State.reset.seqr.plan.get 31).action, 0) ∈ argumentTops) ∧
    (maskRises [2, 6] = true ∧ (3, 1, 6) ∈ tableIndexes ∧ 0 < 1 ∧ 6 < 7) ∧
    HeadIs (asked waitingStep (request 1 (.write 2 31 [2] [.num 5]))) (request 1 (.write 2 31 [2] [.num 5])) [] ∧
    HeadIs (asked State.reset (request 1 (.write 8 0 [0] [.num 1]))) (request 1 (.write 8 0 [0] [.num 1])) [] := by
  refine ⟨by simp [settingsFields], by simp [settingsFlags], by simp [stageFields], by simp [planFields], ?_,
    ⟨rfl, by decide, rfl, by decide⟩, by decide, ⟨by decide, (3, .report), by decide, by decide⟩, by decide, by decide, by decide,
    (head_of_write waitingStep 2 31 _ _ ⟨rfl, rfl⟩ (by decide) rfl).1, head_of_reset _⟩
  exact ⟨_, List.mem_cons_self, _, List.mem_cons_of_mem _ List.mem_cons_self, by decide⟩

theorem meets_WriteRecordStoresOrRefuses_several :
    (∃ f ∈ commonFields ++ kindFields (spare.unit 5).kind, ∃ g ∈ commonFields ++ kindFields (spare.unit 5).kind,
      f.number < g.number ∧ f.number < 6) ∧
    (∃ g ∈ commonFields ++ kindFields .genset, lastUnitField .meter < g.number) ∧
    (∃ f ∈ planFields, ∃ g ∈ planFields, f.number < g.number ∧ f.number < 3) ∧ (∃ f ∈ settingsFields, f.number < 5) ∧
    (∃ b : Bool, b = true ∧ State.reset.progress.planState ≠ .running ∧ waitingStep.progress.planState = .running) ∧
    HeadIs (asked spare (request 1 (.write 1 5 [2, 3] [.num 5, .num 6]))) (request 1 (.write 1 5 [2, 3] [.num 5, .num 6])) [] := by
  refine ⟨⟨_, List.mem_append_left _ List.mem_cons_self,
      _, List.mem_append_left _ (List.mem_cons_of_mem _ List.mem_cons_self), by decide, by decide⟩,
    ⟨_, List.mem_append_right _ List.mem_cons_self, by decide⟩,
    ⟨_, List.mem_cons_self, _, List.mem_cons_of_mem _ List.mem_cons_self, by decide, by decide⟩,
    ⟨_, List.mem_cons_self, by decide⟩, ⟨true, rfl, by decide, by decide⟩, ?_⟩
  exact (head_of_write spare 1 5 _ _ ⟨rfl, rfl⟩ (by decide) rfl).1
theorem test_refused_field_refuses_the_whole_write :
    let t := leaves .writeRecord (asked spare (request 1 (.write 1 5 [2, 6, 11] [.num 50, .num 2, .num 1])))
    ((t.unit 5).rating, (t.unit 5).credit, statusOf t) = ((spare.unit 5).rating, (spare.unit 5).credit, some .badRequest) := by
  decide

theorem meets_ReadsChangeNothing :
    HeadIs (asked State.reset (request 2 (.read 1 63 8))) (request 2 (.read 1 63 8)) [] ∧ (1, 0, 63) ∈ tableIndexes ∧
      1 ≤ 8 ∧ 8 ≤ 8 ∧
    (∀ x ∈ tableIndexes, x.2.1 ≤ x.2.2) ∧ (7, 0, 0) ∈ tableIndexes ∧ 0 < 1 ∧
    HeadIs (asked State.reset (request 2 (.read 6 0 1))) (request 2 (.read 6 0 1)) [] ∧
    HeadIs (asked State.reset (request 2 (.read 1 0 9))) (request 2 (.read 1 0 9)) [] ∧
    HeadIs (asked State.reset (request 2 (.read 8 0 1))) (request 2 (.read 8 0 1)) [] ∧
    HeadIs (asked State.reset (request 3 .nothing)) (request 3 .nothing) [] ∧
    HeadIs (asked logged (request 4 (.slots [0, 31]))) (request 4 (.slots [0, 31])) [] ∧ (∀ n ∈ [0, 31], n < 32) ∧
    HeadIs (asked logged (request 4 (.slots [0, 32]))) (request 4 (.slots [0, 32])) [] ∧ (∃ n ∈ [0, 32], 32 ≤ n) ∧
    HeadIs (asked State.reset (request 3 .malformed)) (request 3 .malformed) [] ∧ argsFit 3 .malformed = false :=
  ⟨head_of_reset _, by decide, by decide, by decide, by decide, by decide, by decide, head_of_reset _, head_of_reset _,
    head_of_reset _, head_of_reset _, asked_headIs logged _ ⟨rfl, rfl⟩ (by decide) rfl, by decide,
    asked_headIs logged _ ⟨rfl, rfl⟩ (by decide) rfl, by decide, head_of_reset _, rfl⟩
theorem meets_AckEventsEmptiesTheListedSlots :
    HeadIs (asked logged (request 5 (.slots [0, 1, 2]))) (request 5 (.slots [0, 1, 2])) [] ∧ (∀ n ∈ [0, 1, 2], n < 32) ∧
    HeadIs (asked logged (request 5 (.slots [32]))) (request 5 (.slots [32])) [] ∧ (∃ n ∈ [32], 32 ≤ n) :=
  ⟨asked_headIs logged _ ⟨rfl, rfl⟩ (by decide) rfl, by decide, asked_headIs logged _ ⟨rfl, rfl⟩ (by decide) rfl, by decide⟩
theorem causes_of (s : State) (c : Condition) (p : Option Bool) (h : ∀ x ∈ [Condition.epochPrimaryLost, .epochFreeRun,
    .referenceStale, .queuePressure, .curtailShortfall], c ≠ x) (e : p = none) : CauseShown s c p :=
  ⟨fun k => absurd k (h _ (by simp)), fun k => absurd k (h _ (by simp)), fun k => absurd k (h _ (by simp)),
    fun k => absurd k (h _ (by simp)), fun k => absurd k (h _ (by simp)), fun _ _ _ _ _ => e⟩
theorem meets_ClearConditionsUnlatches_causes :
    CauseShown conditioned .epochFreeRun (some true) ∧ CauseShown conditioned .passOverrun none :=
  ⟨⟨fun h => absurd h (by decide), fun _ => by decide, fun h => absurd h (by decide), fun h => absurd h (by decide),
    fun h => absurd h (by decide), fun _ h => absurd rfl h⟩, causes_of _ _ _ (by decide) rfl⟩
theorem test_held_causes :
    let s : State := { conditioned with
      service := { settings := { reference := some 40 } }, alloc := { lastShortfall := 1 }, egress := { dispatch := List.replicate 7 0 } }
      |>.setUnit 40 { meterUnit 0 with live := { freshness := .stale } }
    [Condition.epochPrimaryLost, .epochFreeRun, .referenceStale, .queuePressure, .curtailShortfall, .gensetTrip].map
      (fun c => heldCause s c) = [some false, some true, some true, some true, some true, none] := by decide
theorem meets_ClearConditionsUnlatches :
    HeadIs (asked conditioned (request 6 (.conditions 0b1010#14))) (request 6 (.conditions 0b1010#14)) [] ∧
    conditioned.isLatched .passOverrun = true ∧ heldCause conditioned .epochFreeRun = some true ∧
    ({ conditioned with events := { latched := 0b100000#14 } } : State).isLatched .queuePressure = true :=
  ⟨asked_headIs conditioned _ ⟨rfl, rfl⟩ (by decide) rfl, by decide⟩
theorem meets_ClearOverflowMovesTheWriteIndex :
    (HeadIs (asked overflowed (request 7 .nothing)) (request 7 .nothing) [] ∧ overflowed.events.overflow = true ∧
      overflowed.events.log.get 3 = none) ∧
    HeadIs (asked logged (request 7 .nothing)) (request 7 .nothing) [] ∧ logged.events.overflow = false ∧
    ∀ i : LogNo, (Vector.replicate 32 (eventOf .busDead)).get i ≠ none :=
  ⟨⟨asked_headIs overflowed _ ⟨rfl, rfl⟩ (by decide) rfl, by decide, by decide⟩,
    asked_headIs logged _ ⟨rfl, rfl⟩ (by decide) rfl, by decide, by decide⟩
theorem meets_SetModeFollowsItsTable :
    HeadIs (asked observing (request 8 (.mode 4))) (request 8 (.mode 4)) [] ∧ 3 < 4 ∧
    (HeadIs (asked observing (request 8 (.mode 2))) (request 8 (.mode 2)) [] ∧ 2 = Mode.active.code ∧
      observing.mode = .observe ∧ observing.settings.reference = some 40 ∧ (observing.unit 40).kind = .meter ∧
      logOpen observing) ∧
    (HeadIs (asked cancelling (request 8 (.mode 0))) (request 8 (.mode 0)) [] ∧ cancelling.mode = .restore ∧
      0 = Mode.halted.code ∧ logOpen cancelling) ∧
    (HeadIs (asked (inMode .observe) (request 8 (.mode 2))) (request 8 (.mode 2)) [] ∧
      (inMode .observe).settings.reference = none) :=
  ⟨asked_headIs observing _ ⟨rfl, rfl⟩ (by decide) rfl, by decide,
    ⟨asked_headIs observing _ ⟨rfl, rfl⟩ (by decide) rfl, rfl, by decide, by decide, by decide, rfl, by decide⟩,
    ⟨asked_headIs cancelling _ ⟨rfl, rfl⟩ (by decide) rfl, by decide, rfl, rfl, by decide⟩,
    asked_headIs (inMode .observe) _ ⟨rfl, rfl⟩ (by decide) rfl, rfl⟩

/-- ACTIVE, both ports sending, with an unsent cap in slot 4, one SENT in slot 5 and one owed on PB in slot 6, and a primary
controller written; the tracker follows the primary. -/
def leaving : State :=
  { inMode .active with
    tracker := { epoch := 9, state := .primary }
    service := { mode := .active, access := { primaryController := some 0x0C } }
    egress := { setpoint := [4, 6] } }
    |>.setUnit 12 (pvUnit 700 0 100) |>.setTx .pa .forwarding |>.setTx .pb .forwarding
    |>.setSlot 4 (some { capOrder 12 50 1 with state := .queued, deadline := none }) |>.setSlot 5 (some (capOrder 12 60 2))
    |>.setSlot 6 (some { capOrder 12 70 3 with pendingPort := some .pb })
/-- Feeder 20 held by the plan, its breaker as given. -/
def planHeld (b : Breaker) : State :=
  cancelling.setUnit 20 { closedFeeder 10 with
    live := { freshness := .fresh, values := { load := 10, breaker := b } }, feederJob := { shed := .openPlan } }
theorem test_halting_the_plan_settles_its_feeders :
    [Breaker.opn, .closed].map (fun b =>
      ((leaves .setMode (asked (planHeld b) (request 8 (.mode 0)))).unit 20).feederJob.shed) = [.openOther, .closed] := by decide
theorem busy_of (s : State) (h : ∀ p ∈ [Port.pa, .pb], (s.port p).up = true ∧ (s.port p).tx ≠ .free) : Busy s
  | .pa => h .pa (by simp)
  | .pb => h .pb (by simp)
theorem test_leaving_active_discards :
    let t := leaves .setMode (asked leaving (request 8 (.mode 1)))
    (t.slot 4, (t.slot 5).isSome, (t.slot 6).bind Order.pendingPort, t.egress.setpoint) = (none, true, none, []) := by decide
theorem meets_SetModeFollowsItsTable_effects :
    (HeadIs (asked leaving (request 8 (.mode 0))) (request 8 (.mode 0)) [] ∧ leaving.mode = .active ∧ 0 = Mode.halted.code ∧
      leaving.tracker.state ≠ .unset ∧ logOpen leaving ∧
      (∀ k : Fin 32, k.val < 3 → leaving.events.log.get (leaving.events.writeIndex + k) = none)) ∧
    Busy leaving ∧
    ((∃ o : Order, leaving.slot 4 = some o ∧ unsentYet leaving 4 o = true) ∧
      (∃ o : Order, leaving.slot 5 = some o ∧ unsentYet leaving 5 o = false ∧ o.state = .sent) ∧
      ∃ o : Order, leaving.slot 6 = some o ∧ unsentYet leaving 6 o = false ∧ o.pendingPort ≠ none) ∧
    (leaving.access.primaryController.map fun a => (a, leaving.events.primarySide)).toList ≠ [] ∧
    (leaving.events.groups.get 0 = false ∧ leaving.egress.report.length + 1 + 1 ≤ 16) ∧
    (HeadIs (asked leaving (request 8 (.mode 1))) (request 8 (.mode 1)) [] ∧ 1 = Mode.observe.code) ∧
    Busy ((cancelling.setTx .pa .forwarding).setTx .pb .forwarding) ∧
    ((planHeld .closed).unit 20).feederJob.shed = .openPlan ∧ (inMode .observe).mode ≠ .active :=
  ⟨⟨asked_headIs leaving _ ⟨rfl, rfl⟩ (by decide) rfl, by decide, rfl, by decide, ⟨rfl, by decide⟩, by decide⟩,
    busy_of _ (by decide), ⟨⟨_, rfl, by decide⟩, ⟨_, rfl, by decide⟩, _, rfl, by decide⟩, by decide, by decide,
    ⟨asked_headIs leaving _ ⟨rfl, rfl⟩ (by decide) rfl, rfl⟩, busy_of _ (by decide), by decide, by decide⟩
theorem meets_CancelOrdersEndsTheWidenedScope :
    HeadIs (asked cancelling (request 9 (.scope 2 22))) (request 9 (.scope 2 22)) [] ∧
    HeadIs (asked cancelling (request 9 (.scope 1 8))) (request 9 (.scope 1 8)) [] ∧
    HeadIs (asked cancelling (request 9 (.scope 1 7))) (request 9 (.scope 1 7)) [] ∧
    HeadIs (asked cancelling (request 9 (.scope 0 0))) (request 9 (.scope 0 0)) [] ∧
    HeadIs (asked cancelling (request 9 (.scope 3 0))) (request 9 (.scope 3 0)) [] :=
  ⟨asked_headIs cancelling _ ⟨rfl, rfl⟩ (by decide) rfl, asked_headIs cancelling _ ⟨rfl, rfl⟩ (by decide) rfl,
    asked_headIs cancelling _ ⟨rfl, rfl⟩ (by decide) rfl, asked_headIs cancelling _ ⟨rfl, rfl⟩ (by decide) rfl,
    asked_headIs cancelling _ ⟨rfl, rfl⟩ (by decide) rfl⟩
/-- Unit 22 is asked for: slot 2 is inside, and slots 0, 1 and 3 hold orders of the same step; zone 7 and unit 0 hold nothing. -/
theorem meets_CancelOrdersEndsTheWidenedScope_sets :
    ∃ inside widened : SlotNo → Bool,
      (∀ i : SlotNo, inside i = true ↔ ∃ o : Order, cancelling.slot i = some o ∧
        ((2 : Nat) = 0 ∨ (2 : Nat) = 1 ∧ (cancelling.unit o.target).zone = 22 ∨ (2 : Nat) = 2 ∧ o.target.val = 22)) ∧
      (∀ i : SlotNo, widened i = true ↔ inside i = true ∨ ∃ (j : SlotNo) (o x : Order) (k : Fin 32), cancelling.slot i = some o ∧
        o.planStep = some k ∧ inside j = true ∧ cancelling.slot j = some x ∧ x.planStep = some k) ∧
      (some (22 : UnitNo)).map Fin.val = some 22 ∧ (∃ i : SlotNo, widened i = true ∧ inside i = false) ∧
      ∃ i : SlotNo, widened i = false ∧ (cancelling.slot i).isSome = true := by
  have plain : ∀ i : SlotNo, ((cancelling.slot i).any fun o => decide (o.target.val = 22)) = decide (i = 2) := by decide
  have steps : ∀ i : SlotNo, ((cancelling.slot i).bind Order.planStep) = if i.val < 4 then some 0 else none := by decide
  refine ⟨fun i => decide (i = 2), fun i => decide (i.val < 4), ?_, ?_, rfl, ⟨0, by decide, by decide⟩, 4, by decide, by decide⟩
  · intro i
    show decide (i = 2) = true ↔ _
    rw [← plain i]
    simp [Option.any_eq_true]
  · intro i
    have hi := steps i
    constructor
    · intro h
      have lt : i.val < 4 := of_decide_eq_true h
      rw [if_pos lt] at hi
      obtain ⟨o, ho, hk⟩ := Option.bind_eq_some_iff.mp hi
      exact Or.inr ⟨2, o, _, 0, ho, hk, rfl, rfl, rfl⟩
    · rintro (h | ⟨j, o, x, k, ho, hk, -⟩)
      · have : i = 2 := of_decide_eq_true h
        subst this; decide
      · rw [ho] at hi
        simp only [Option.bind_some, hk] at hi
        by_contra h
        rw [if_neg (fun lt => h (decide_eq_true lt))] at hi
        cases hi
theorem meets_PlanStartsAndAborts :
    (HeadIs (asked planned (request 10 .nothing)) (request 10 .nothing) [] ∧ planned.mode = .observe ∧
      planned.settings.reference = some 40 ∧ (planned.unit 40).kind = .meter ∧
      (planned.seqr.plan.get 0).action = .waitStable ∧ logOpen planned) ∧
    (HeadIs (asked (inMode .observe) (request 10 .nothing)) (request 10 .nothing) [] ∧
      (inMode .observe).settings.reference = none) ∧
    (HeadIs (asked cancelling (request 11 .nothing)) (request 11 .nothing) [] ∧ cancelling.mode = .restore ∧
      logOpen cancelling) ∧
    HeadIs (asked planned (request 11 .nothing)) (request 11 .nothing) [] ∧
    (observing.seqr.plan.get 0).action = .noAction ∧
    (((observing.seqr.plan.set 0 { action := .endPlan }).get 0).action = .endPlan) :=
  ⟨⟨asked_headIs planned _ ⟨rfl, rfl⟩ (by decide) rfl, by decide, by decide, by decide, by decide, rfl, by decide⟩,
    ⟨asked_headIs (inMode .observe) _ ⟨rfl, rfl⟩ (by decide) rfl, rfl⟩,
    ⟨asked_headIs cancelling _ ⟨rfl, rfl⟩ (by decide) rfl, by decide, rfl, by decide⟩,
    asked_headIs planned _ ⟨rfl, rfl⟩ (by decide) rfl, by decide⟩

/-- An essential feeder found open, CLOSE permitted. -/
def essentialOpen (m : Mode) : State :=
  (inMode m).setUnit 7 { closedFeeder 120 with
    permits := { close := true }, feeder := { essential := true }, feederJob := { shed := .openOther } }
/-- G4's STOP stands in slot 3, in a state. -/
def stopStanding (s : State) (x : OrderState) : State :=
  { s with orders := { s.orders with slots := s.orders.slots.set 3 (some (stopOf x)) } }
    |>.setUnit 4 { onlineGenset 500 0 with gensetJob := ordered .stopPending .stop }
theorem test_push_withdraws_a_stop :
    let t := leaves .releaseFeeder (asked (stopStanding released .waitingRetry) (request 12 (.unit 7)))
    (t.slot 3, (t.unit 4).gensetJob.dispatch, (t.unit 4).gensetJob.openOrder) = (none, .online, none) := by decide
theorem test_push_leaves_a_sent_stop :
    let t := leaves .releaseFeeder (asked (stopStanding released .sent) (request 12 (.unit 7)))
    ((t.slot 3).map Order.state, (t.unit 4).gensetJob.dispatch) = (some .sent, .stopPending) := by decide
/-- Slot 3 has another owner's order by now: the STOP's end is on its way, and the withdrawal is TOO_LATE (R75). -/
def stopReplaced : State :=
  (stopStanding released .sent).setSlot 3 (some { openOf 20 with state := .waitingRetry })
theorem test_withdrawal_leaves_another_order :
    let t := leaves .releaseFeeder (asked stopReplaced (request 12 (.unit 7)))
    ((t.slot 3).map Order.target, (t.unit 4).gensetJob.dispatch) = (some 20, .stopPending) := by decide
theorem meets_StopsWithdrawn_replaced :
    stopReplaced.slot 3 = some { openOf 20 with state := .waitingRetry } ∧ (openOf 20).owner ≠ .dispatch ∧
    (∀ o : Order, stopReplaced.slot 3 = some o → o.owner ≠ .dispatch ∨ o.target ≠ 4 ∨ o.kind ≠ .stop) ∧
    ∀ o : Order, ¬ Withdrawable stopReplaced 3 .dispatch 4 .stop o :=
  ⟨rfl, by decide, fun o h => by cases h; exact Or.inl (by decide),
    fun o h => by obtain ⟨e, w, -⟩ := h; cases e; exact absurd w (by decide)⟩
theorem meets_StopsWithdrawn :
    (∀ x ∈ [OrderState.waitingRetry, .sent], ∃ s : State, s = stopStanding released x ∧ (s.unit 4).kind = .genset ∧
      (s.unit 4).gensetJob.dispatch = .stopPending ∧ (s.unit 4).gensetJob.openOrder = some ⟨.stop, 3, .dispatch⟩ ∧
      s.slot 3 = some (stopOf x) ∧ (stopOf x).target = 4 ∧ (stopOf x).pendingPort = none ∧ 3 ∉ s.orders.waiting ∧
      unsentYet s 3 (stopOf x) = (x == .waitingRetry)) ∧
    OneStopAtMost (stopStanding released .sent) ∧ Busy (bothBusy (stopStanding (picking { opn := true }) .sent)) ∧
    (∃ s : State, s = bothBusy (stopStanding (picking { opn := true }) .sent) ∧ RoomToShed s [21, 20] ∧
      [21, 20].filter (fun u => mayOpen s u && decide (s.inFlight u < (s.unit u).credit)) ≠ []) := by
  refine ⟨fun x hx => ⟨_, rfl, rfl, rfl, rfl, rfl, rfl, rfl, ?_⟩, ?_, busy_bothBusy _, ⟨_, rfl, ⟨Or.inl rfl, rfl, by decide⟩, by decide⟩⟩
  · simp at hx; rcases hx with rfl | rfl <;> decide
  · have h : ∀ g : UnitNo, ((stopStanding released .sent).unit g).gensetJob.dispatch = .stopPending → g = 4 := by decide
    intro g k _ hg _ hk
    rw [h g hg, h k hk]
theorem meets_ReleasesFollowTheirTables :
    (HeadIs (asked released (request 12 (.unit 64))) (request 12 (.unit 64)) [] ∧ 64 ≤ 64) ∧
    (HeadIs (asked released (request 12 (.unit 7))) (request 12 (.unit 7)) [] ∧ (released.unit 7).kind = .feeder ∧
      (released.unit 7).feederJob.shed = .openOther ∧ (released.unit 7).feeder.essential = false ∧
      (released.unit 1).kind ≠ .feeder ∧ (cancelling.unit 20).feederJob.shed ≠ .openOther) ∧
    (HeadIs (asked (essentialOpen .active) (request 12 (.unit 7))) (request 12 (.unit 7)) [] ∧
      ((essentialOpen .active).unit 7).kind = .feeder ∧ ((essentialOpen .active).unit 7).feederJob.shed = .openOther ∧
      ((essentialOpen .active).unit 7).feeder.essential = true ∧ (essentialOpen .active).mode = .active ∧
      frozen (essentialOpen .active) = false ∧ judgeRequest (essentialOpen .active) 7 .close .service = .created 0) ∧
    ((essentialOpen .observe).mode ≠ .active ∧
      frozen { essentialOpen .active with events := { latched := 0b100#14 } } = true) ∧
    judgeRequest ((essentialOpen .active).setUnit 7 { (essentialOpen .active).unit 7 with permits := {} }) 7 .close .service =
      .refused .notPermitted ∧
    (HeadIs (asked released (request 13 (.unit 1))) (request 13 (.unit 1)) [] ∧ (released.unit 1).kind = .genset ∧
      (released.unit 1).gensetJob.dispatch = .lockedOut ∧ released.planRunning = false ∧
      (starting.unit 4).gensetJob.dispatch.committed = true) :=
  ⟨⟨asked_headIs released _ ⟨rfl, rfl⟩ (by decide) rfl, by decide⟩,
    ⟨asked_headIs released _ ⟨rfl, rfl⟩ (by decide) rfl, by decide⟩,
    ⟨asked_headIs (essentialOpen .active) _ ⟨rfl, rfl⟩ (by decide) rfl, by decide⟩, by decide, by decide,
    ⟨asked_headIs released _ ⟨rfl, rfl⟩ (by decide) rfl, by decide⟩⟩
/-- Both ports transmit, G1 is found ONLINE in ACTIVE with the tracker PRIMARY, one controller is written, and REPORT holds some
entries. -/
def resetting (n : Nat) : State :=
  bothBusy { caseA with
    egress := { report := List.replicate n noticeOnPa }
    service := { caseA.service with access := { primaryController := some 0x0C } } }
theorem test_engine_reset_records_in_order :
    kinds (leaves .engineReset (asked (resetting 0) (request 14 .nothing))) 4 =
      [some .engineReset, some .modeChanged, some .epochSourceChanged, none] ∧
    kinds (leaves .engineReset (asked (resetting 14) (request 14 .nothing))) 5 =
      [some .engineReset, some .conditionLatched, some .modeChanged, some .epochSourceChanged, none] ∧
    kinds (leaves .engineReset (asked (resetting 15) (request 14 .nothing))) 5 =
      [some .engineReset, some .modeChanged, some .epochSourceChanged, some .conditionLatched, none] := by decide
theorem meets_EngineResetKeepsTheConfiguration_records :
    (∀ n ∈ [11, 14, 15], Busy (resetting n) ∧ HeadIs (asked (resetting n) (request 14 .nothing)) (request 14 .nothing) [] ∧
      (resetting n).egress.report.length = n) ∧
    controllers (resetting 11) = 1 ∧ (resetRecords (resetting 11)).length = 3 := by
  refine ⟨fun n hn => ⟨busy_bothBusy _, asked_headIs _ _ ?_ ?_ ?_, ?_⟩, by decide, by decide⟩
  · exact ⟨rfl, rfl⟩
  · show (List.replicate n noticeOnPa).length < 16
    rw [List.length_replicate]; revert n; decide
  · rfl
  · exact List.length_replicate
theorem meets_EngineResetKeepsTheConfiguration :
    HeadIs (asked released (request 14 .nothing)) (request 14 .nothing) [] ∧ Busy (bothBusy released) ∧ logOpen released ∧
      logged.events.log.get 0 = eventOf .gensetTripped :=
  ⟨asked_headIs released _ ⟨rfl, rfl⟩ (by decide) rfl, busy_bothBusy _, ⟨rfl, by decide⟩, by decide⟩

end Sys2Proof.Tests
end

section
/-! The epoch window (R29): what `inWindow` admits while a master governs, and while none does. -/

namespace Sys2Proof.Machine

/-- While a master governs, the window is E and E − 1; the subtraction is on `Num16`, so it wraps from 0 to 65,535. -/
theorem inWindow_iff_of_governed {t : Tracker} (governed : t.state = .primary ∨ t.state = .secondary) (e : Num16) :
    inWindow t e = true ↔ e = t.epoch ∨ e = t.epoch - 1 := by
  rcases governed with primary | secondary
  · simp [inWindow, primary]
  · simp [inWindow, secondary]

/-- With no master heard, the window is open. -/
theorem inWindow_of_ungoverned {t : Tracker} (ungoverned : t.state = .freeRun ∨ t.state = .unset) (e : Num16) :
    inWindow t e = true := by
  rcases ungoverned with freeRun | unset
  · simp [inWindow, freeRun]
  · simp [inWindow, unset]

/-- Settles O29, by the two kinds of epoch state: governed by a master, and not. -/
theorem epochWindowHoldsTwoNumbers : Obligations.EpochWindowHoldsTwoNumbers := fun _ e =>
  ⟨fun governed => inWindow_iff_of_governed governed e, fun ungoverned => inWindow_of_ungoverned ungoverned e⟩

end Sys2Proof.Machine
end

section
/-! The end of an Allocator order (R119): one unit's PV job is rewritten, row by row as `capAfterEnd` reads, and its order
slot becomes absent in each. -/

namespace Sys2Proof.Machine

/-! ## The rows of R119 -/

/-- Every end leaves the order slot absent. -/
@[simp] theorem capAfterEnd_slot (j : PvJob) (o : Order) (e : OrderEnd) : (capAfterEnd j o e).slot = none := by
  cases e <;> rfl

/-- The held cap that an accepted order leaves is the order's value, or absent after a CLEAR_CAP. -/
theorem capAfterEnd_accept_heldCap (j : PvJob) (o : Order) :
    (capAfterEnd j o .accept).heldCap = if o.kind = .clearCap then none else o.value := by
  simp [capAfterEnd]

/-! ## The unit whose order ended, and the others -/

/-- Nothing outside the unit records changes at the end of an Allocator order. -/
theorem allocatorEnd_eq_units (s : State) (o : Order) (e : OrderEnd) :
    allocatorEnd s o e = { s with units := (allocatorEnd s o e).units } := rfl

/-- The order's target keeps everything but its PV job. -/
theorem unit_allocatorEnd_target (s : State) (o : Order) (e : OrderEnd) :
    (allocatorEnd s o e).unit o.target =
      { s.unit o.target with pvJob := capAfterEnd (s.unit o.target).pvJob o e } := by
  rw [allocatorEnd, unit_setPv, if_pos rfl]

theorem unit_allocatorEnd_ne {o : Order} {v : UnitNo} (other : v ≠ o.target) (s : State) (e : OrderEnd) :
    (allocatorEnd s o e).unit v = s.unit v := by
  rw [allocatorEnd, unit_setPv, if_neg other]

/-- Settles O34: the frame, and then each end's row of R119 for the target's PV job. -/
theorem allocatorOrderEnd : Obligations.AllocatorOrderEnd := by
  intro s o e
  refine ⟨allocatorEnd_eq_units s o e, fun _ other => unit_allocatorEnd_ne other s e,
    capAfterEnd (s.unit o.target).pvJob o e, unit_allocatorEnd_target s o e, capAfterEnd_slot _ o e, ?_⟩
  cases e with
  | accept =>
    have held := capAfterEnd_accept_heldCap (s.unit o.target).pvJob o
    exact ⟨rfl, fun clears => held.trans (if_pos clears), fun sets => held.trans (if_neg sets), rfl⟩
  | refuse _ | timedOut | unsent _ | outcomeUnknown => exact ⟨rfl, rfl, rfl⟩

end Sys2Proof.Machine
end

section
/-! The ROCOF tracker (R149): an arrival restarts it or continues its run, and it offers its value to a pass. -/

namespace Sys2Proof.Machine

/-- An arrival that does not follow on from one before it starts the tracker again: no value, and a low count of 0. -/
theorem takeRocof_restarts {t : Rocof} {a : Arrival}
    (restarts : a.sourceChanged = true ∨ a.gap = none ∨ t.prevMeter ≠ some a.meter ∨ t.prevFrequency = none) (limit : Nat) :
    takeRocof t a limit =
      { t with prevFrequency := some a.frequency, prevMeter := some a.meter, latest := none, lowCount := 0 } := by
  unfold takeRocof
  split
  next same hasGap hasPrev sameMeter =>
    rcases restarts with changed | noGap | otherMeter | noPrev
    · simp [same] at changed
    · simp [hasGap] at noGap
    · exact absurd (beq_iff_eq.mp sameMeter) otherMeter
    · simp [hasPrev] at noPrev
  next => rfl

/-- An arrival that follows on from one of the same meter has a rate, which the low count judges against the limit. -/
theorem takeRocof_continues {t : Rocof} {a : Arrival} {gap prev : Nat} (same : a.sourceChanged = false)
    (hasGap : a.gap = some gap) (sameMeter : t.prevMeter = some a.meter) (hasPrev : t.prevFrequency = some prev) (limit : Nat) :
    takeRocof t a limit = { t with
      prevFrequency := some a.frequency
      latest := some (rocofOf a.frequency prev gap a.interval)
      valueMeter := some a.meter
      lowCount := if rocofOf a.frequency prev gap a.interval ≤ -(limit : Int) then bump 2 t.lowCount else 0 } := by
  simp [takeRocof, same, hasGap, sameMeter, hasPrev]

/-- The rate is truncated toward zero: what the division leaves is smaller than the divisor and has the sign of the change. -/
theorem rocofOf_truncates (f prev : Nat) {gap interval : Nat} (pos : 0 < gap * interval) :
    ∃ rest : Int, ((f : Int) - prev) * 1000 = rocofOf f prev gap interval * ((gap * interval : Nat) : Int) + rest ∧
      rest.natAbs < gap * interval ∧ (0 ≤ (f : Int) - prev → 0 ≤ rest) ∧ ((f : Int) - prev ≤ 0 → rest ≤ 0) := by
  refine ⟨(((f : Int) - prev) * 1000).tmod ((gap * interval : Nat) : Int), (Int.tdiv_mul_add_tmod _ _).symm, ?_, ?_, ?_⟩
  · rw [Int.natAbs_tmod]
    exact Nat.mod_lt _ pos
  · intro rising
    exact Int.tmod_nonneg _ (by omega)
  · intro falling
    have mirrored := Int.tmod_nonneg (a := -(((f : Int) - prev) * 1000)) ((gap * interval : Nat) : Int) (by omega)
    rw [Int.neg_tmod] at mirrored
    exact Int.neg_nonneg.mp mirrored

/-- The tracker offers its latest value only while its value meter is the meter in use. -/
theorem offeredRocof_eq (t : Rocof) (meter : Option UnitNo) :
    offeredRocof t meter = if t.valueMeter ≠ none ∧ t.valueMeter = meter then t.latest else none := by
  simp [offeredRocof, Option.isSome_iff_ne_none]

/-- Settles O48, by the two rows of R149, with the truncation of the second row's rate, and the value offered. -/
theorem rocofTrackerFollowsArrivals : Obligations.RocofTrackerFollowsArrivals := fun t a limit meter =>
  ⟨fun restarts => takeRocof_restarts restarts limit,
    fun gap prev same hasGap sameMeter hasPrev pos =>
      ⟨rocofOf a.frequency prev gap a.interval, takeRocof_continues same hasGap sameMeter hasPrev limit,
        rocofOf_truncates a.frequency prev pos⟩,
    offeredRocof_eq t meter⟩

end Sys2Proof.Machine
end

section
/-! The Event Log (R181, R183): an event raised is written at the write index, lost, or sets the overflow flag, and CLEAR
OVERFLOW moves the write index on to the first empty slot. -/

namespace Sys2Proof.Machine

/-! ## An event raised (R181) -/

/-- With the overflow flag set, an event raised is lost. -/
theorem recordEntry_of_overflow {s : State} (lost : s.events.overflow = true) (k : EventKind) (u : Option UnitNo)
    (x : Option Int) (d : Option Nat) : recordEntry s k u x d = s := by
  simp [recordEntry, writeLog, lost]

/-- A pending record at the write index stays, and the event raised sets the overflow flag. -/
theorem recordEntry_of_pending {s : State} {e : EventRec} (flag : s.events.overflow = false)
    (pending : s.events.log.get s.events.writeIndex = some e) (k : EventKind) (u : Option UnitNo) (x : Option Int)
    (d : Option Nat) : recordEntry s k u x d = { s with events := { s.events with overflow := true } } := by
  simp [recordEntry, writeLog, flag, pending]

/-- With an empty slot at the write index the record is written there, and then judged for its notices. -/
theorem recordEntry_of_logOpen {s : State} (room : logOpen s) (k : EventKind) (u : Option UnitNo) (x : Option Int)
    (d : Option Nat) :
    recordEntry s k u x d = judgeNotice { s with events := { s.events with
      log := s.events.log.set s.events.writeIndex (some (recordNow s k u x d))
      writeIndex := s.events.writeIndex + 1 } } k s.events.writeIndex := by
  obtain ⟨flag, empty⟩ := room
  simp [recordEntry, writeLog, flag, empty, eventNow, recordNow]

@[simp] theorem judgeNotice_writeIndex (s : State) (k : EventKind) (i : LogNo) :
    (judgeNotice s k i).events.writeIndex = s.events.writeIndex := by
  obtain ⟨_, _, judged, -⟩ := judgeNotice_says s k i
  rw [judged]

@[simp] theorem judgeNotice_overflow (s : State) (k : EventKind) (i : LogNo) :
    (judgeNotice s k i).events.overflow = s.events.overflow := by
  obtain ⟨_, _, judged, -⟩ := judgeNotice_says s k i
  rw [judged]

/-- Settles O49, by the three cases of R181: the flag is set, the slot at the write index is empty, and it is pending. -/
theorem eventsAreWrittenOrLost : Obligations.EventsAreWrittenOrLost := by
  rintro s k u x d t rfl
  refine ⟨fun lost => recordEntry_of_overflow lost k u x d, fun flag empty => ?_,
    fun e flag pending => recordEntry_of_pending flag pending k u x d⟩
  have room : logOpen s := ⟨flag, empty⟩
  refine ⟨recordEntry_log room k u x d, fun i other => ?_, ?_⟩
  · rw [recordEntry_of_logOpen room, judgeNotice_log, vectorGet_set, if_neg other]
  · rw [recordEntry_of_logOpen room, judgeNotice_writeIndex, judgeNotice_overflow]
    exact ⟨rfl, flag⟩

/-! ## The search from the write index onward -/

theorem logFrom_eq_ofFn (i : LogNo) : logFrom i = List.ofFn (i + ·) := List.ofFn_eq_map.symm

/-- Wrapping from 31 to 0, the search passes every slot of the log. -/
theorem mem_logFrom (i j : LogNo) : j ∈ logFrom i := by
  rw [logFrom_eq_ofFn]
  exact List.mem_ofFn.mpr ⟨j - i, add_sub_cancel i j⟩

theorem find?_logFrom_eq_none {i : LogNo} {p : LogNo → Bool} : (logFrom i).find? p = none ↔ ∀ j, ¬ p j = true := by
  simp [List.find?_eq_none, mem_logFrom]

/-- What the search finds has the property, and no slot before it, counted from the start of the search, has. -/
theorem find?_logFrom_eq_some {i w : LogNo} {p : LogNo → Bool} :
    (logFrom i).find? p = some w ↔ p w = true ∧ ∀ k < w - i, ¬ p (i + k) = true := by
  have reached : i + (w - i) = w := add_sub_cancel i w
  conv_lhs => rw [← reached, logFrom_eq_ofFn]
  rw [List.find?_ofFn_eq_some_of_injective (add_right_injective i), reached]

/-! ## The answer to a request (R187) -/

/-- A request at the head of the queue is answered when its handler leaves no hand-off and the place of REPORT held for the
response (R187); the place is given back. -/
theorem act_serve_answered {s u : State} {r : Request} {rest : List Request} (h : HeadIs s r rest)
    {wanted : Request → Bool} (hw : wanted r = true) {handler : State → Request → Served} {status : Status}
    {result : Result} (served : handler (holdPlace (popRequest s rest) true) r = ⟨holdPlace u true, status, result⟩)
    (quiet : u.agenda = []) (free : u.egress.held = false) :
    act s (fun s => serve s wanted handler) = .next (joinReport u (responseTo r status result)) := by
  have given : holdPlace (settle (holdPlace u true)) false = u := by
    rw [settle_nil ((holdPlace_agenda u true).trans quiet)]
    simp [holdPlace, ← free]
  have left : serve s wanted handler = joinReport u (responseTo r status result) := by
    rw [serve_head h hw, served, given]
  rw [act_quiet h.ready.1 (by rw [left, joinReport_agenda, quiet]), left]

/-! ## CLEAR OVERFLOW (R183) -/

/-- Nothing but the flag and the write index changes when the flag is cleared. -/
theorem clearOverflowFlag_frame (s : State) : clearOverflowFlag s =
    { s with events := { s.events with overflow := false, writeIndex := (clearOverflowFlag s).events.writeIndex } } := rfl

/-- With no empty slot the write index stays. -/
theorem clearOverflowFlag_writeIndex_of_full {s : State} (full : ∀ i : LogNo, s.events.log.get i ≠ none) :
    (clearOverflowFlag s).events.writeIndex = s.events.writeIndex := by
  have noneFound : (logFrom s.events.writeIndex).find? (fun i => (s.events.log.get i).isNone) = none :=
    find?_logFrom_eq_none.mpr fun i => by simpa using full i
  simp [clearOverflowFlag, noneFound]

/-- With an empty slot the write index moves to one, and every slot that it passes is pending. -/
theorem clearOverflowFlag_writeIndex_of_empty {s : State} (empty : ∃ i : LogNo, s.events.log.get i = none) :
    s.events.log.get (clearOverflowFlag s).events.writeIndex = none ∧
      ∀ k : LogNo, k < (clearOverflowFlag s).events.writeIndex - s.events.writeIndex →
        s.events.log.get (s.events.writeIndex + k) ≠ none := by
  obtain ⟨i, isEmpty⟩ := empty
  cases found : (logFrom s.events.writeIndex).find? (fun i => (s.events.log.get i).isNone) with
  | none => exact absurd (by simp [isEmpty]) (find?_logFrom_eq_none.mp found i)
  | some w =>
    have moved : (clearOverflowFlag s).events.writeIndex = w := by simp [clearOverflowFlag, found]
    simpa [moved] using find?_logFrom_eq_some.mp found

/-- CLEAR OVERFLOW at the head of the queue is answered with the flag as it was found. -/
theorem clearOverflow_answered {s : State} {r : Request} {rest : List Request} (h : HeadIs s r rest)
    (kind : r.kind = 7) (args : r.args = .nothing) :
    Answered .clearOverflow s
      (if s.events.overflow = true then clearOverflowFlag (popRequest s rest) else popRequest s rest) r .done
      (.wasSet s.events.overflow) := by
  have wanted : isKind 7 r = true := by rw [isKind, kind, args]; rfl
  refine act_serve_answered h wanted (handler := serveOverflow) ?_ ?_ ?_
  · cases flag : s.events.overflow with
    | false => simp [serveOverflow, flag]
    | true => simp only [serveOverflow, holdPlace_events, popRequest_events, flag, if_true]; rfl
  · split <;> exact h.ready.2
  · split <;> exact h.held

/-- Settles O55, by the flag as it was found; the write index that the model's search leaves is the witness. -/
theorem clearOverflowMovesTheWriteIndex : Obligations.ClearOverflowMovesTheWriteIndex := by
  intro s r rest h kind args
  have answered := clearOverflow_answered h kind args
  constructor
  · intro flagClear
    simpa [flagClear] using answered
  · intro flagSet
    rw [if_pos flagSet, flagSet, clearOverflowFlag_frame] at answered
    exact ⟨(clearOverflowFlag (popRequest s rest)).events.writeIndex, answered,
      clearOverflowFlag_writeIndex_of_full (s := popRequest s rest),
      clearOverflowFlag_writeIndex_of_empty (s := popRequest s rest)⟩

end Sys2Proof.Machine
end

section
/-! What the blocks can do to the state between two commands: every update that a hand-off, a decision or a change of mode makes
is a chain of the moves named here. Each operation of the blocks is shown once to be such a chain (the files after this one),
and what no move changes, and what every move keeps, then holds of all of them. -/

namespace Sys2Proof.Machine

/-- A record of kind GENSET, or one whose Dispatcher items are not those of an empty record. -/
def HasGensetItems (r : UnitRec) : Prop := r.kind = .genset ∨ r.gensetJob ≠ {}

/-- A record of kind FEEDER, or one whose Shed Controller items are not those of an empty record. -/
def HasFeederItems (r : UnitRec) : Prop := r.kind = .feeder ∨ r.feederJob ≠ {}

/-- A feeder that a stacked state finds on the Shed Stack, or that is OPENING and so stands there, or an essential one in
RESTORING, which does not. -/
def StaysStacked (s : State) (u : UnitNo) (x : ShedState) : Prop :=
  onStack s u = true ∨ (s.unit u).feederJob.shed = .opening ∨
    (x = .restoring ∧ (s.unit u).kind = .feeder ∧ (s.unit u).feeder.essential = true)

/-- A feeder that may be pushed: one of the pending shed list, or a non-essential one outside the stacked states. -/
def MayBePushed (s : State) (u : UnitNo) : Prop :=
  isPending s u = true ∨
    ((s.unit u).kind = .feeder ∧ (s.unit u).feeder.essential = false ∧ stacked (s.unit u).feederJob.shed = false)

/-- One move of the ports, the recording, the Transactor, the Allocator or the Dispatcher. -/
inductive Duty : State → State → Prop
  /-- The work of the ports and of recording. -/
  | bus {s t : State} : RecordWork s t → Duty s t
  | alloc (s : State) (a : Allocator) : Duty s { s with alloc := a }
  | pv (s : State) (u : UnitNo) (j : PvJob) : Duty s (s.setPv u j)
  | startRetry (s : State) (b : Bool) : Duty s (setRetry s b)
  | agenda (s : State) (l : List Task) : Duty s { s with agenda := l }
  | gensetItems (s : State) (u : UnitNo) (j : GensetJob) : HasGensetItems (s.unit u) →
      j.dispatch = (s.unit u).gensetJob.dispatch → Duty s (s.setGenset u j)
  /-- A gen-set enters a dispatch state, and the Commitment List follows (R123). -/
  | gensetEnters (s : State) (u : UnitNo) (j : GensetJob) : HasGensetItems (s.unit u) →
      Duty s ((s.setGenset u j).setDispatcher
        { s.dispatcher with commit := commitAfter s.dispatcher.commit u j.dispatch })
  /-- A request is answered CREATED, and its order made. -/
  | orderMade {s t : State} {i : SlotNo} {u : UnitNo} {k : OrderKind} {v : Option Nat} {w : Owner} {st : Option (Fin 32)} :
      judgeRequest s u k w = .created i → RecordWork (granted s i u k v w st) t → Duty s t
  /-- A request is answered COALESCED, and its order rewritten. -/
  | coalesced {s : State} {i : SlotNo} {u : UnitNo} {k : OrderKind} {w : Owner} (v : Option Nat) :
      judgeRequest s u k w = .coalesced i → Duty s (rewriteSlot s i k v)
  | freed (s : State) (i : SlotNo) : Duty s (freeSlotAt s i)

/-- A chain of such moves. -/
def Duties : State → State → Prop := Relation.ReflTransGen Duty

/-- One move of a block. -/
inductive Move : State → State → Prop
  | duty {s t : State} : Duty s t → Move s t
  /-- The tracker moves on within its epoch and its pass. -/
  | tracker (s : State) (t : Tracker) : t.epoch = s.tracker.epoch → t.passInProgress = s.tracker.passInProgress →
      Move s (s.setTracker t)
  /-- The progress record changes while the plan state stays. -/
  | progress (s : State) (p : Progress) : p.planState = s.progress.planState → Move s (s.setProgress p)
  /-- The Shed Controller's items change, the stack kept and pending entries at most dropped. -/
  | shedItems (s : State) (b : Shed) : b.stages = s.shed.stages → b.stack = s.shed.stack →
      b.pending.Sublist s.shed.pending → Move s (s.setShedBlock b)
  | pendingAdded (s : State) (us : List UnitNo) (cause : ShedCause) : us.Nodup → (∀ u ∈ us, canShed s u = true) →
      Move s (addPending s us cause)
  | feederItems (s : State) (u : UnitNo) (j : FeederJob) : HasFeederItems (s.unit u) →
      j.shed = (s.unit u).feederJob.shed → Move s (s.setFeeder u j)
  /-- A feeder enters a state outside the stack. -/
  | shedLeaves (s : State) (u : UnitNo) (x : ShedState) : HasFeederItems (s.unit u) → stacked x = false →
      Move s (setShed s u x)
  /-- A stacked feeder enters another stacked state, or an essential one RESTORING. -/
  | shedStays (s : State) (u : UnitNo) (x : ShedState) : StaysStacked s u x → stacked x = true → Move s (setShed s u x)
  /-- A feeder enters a stacked state and is pushed (R142). -/
  | shedJoins (s : State) (u : UnitNo) (x : ShedState) (j : FeederJob) (e : StackEntry) : MayBePushed s u → stacked x = true →
      j.shed = x → e.feeder = u →
      Move s (((setShed s u x).setFeeder u j).setShedBlock
        { ((setShed s u x).setFeeder u j).shed with stack := ((setShed s u x).setFeeder u j).shed.stack ++ [e] })
  /-- The orders left by an ended plan lose their plan step (R175). -/
  | stripped (s : State) : Move s (stripSteps s)

/-- A chain of moves. -/
def Moves : State → State → Prop := Relation.ReflTransGen Move

/-- A move, or a change of the engine mode or of the plan state. -/
inductive Shift : State → State → Prop
  | move {s t : State} : Move s t → Shift s t
  | mode (s : State) (m : Mode) : Shift s { s with service := { s.service with mode := m } }
  | plan (s : State) (p : Progress) : Shift s (s.setProgress p)

/-- A chain of shifts. -/
def Shifts : State → State → Prop := Relation.ReflTransGen Shift

/-! ## Chains -/

theorem Duties.refl (s : State) : Duties s s := Relation.ReflTransGen.refl

theorem Duties.trans {s t u : State} (a : Duties s t) (b : Duties t u) : Duties s u := Relation.ReflTransGen.trans a b

theorem Duty.duties {s t : State} (h : Duty s t) : Duties s t := Relation.ReflTransGen.single h

theorem RecordWork.duties {s t : State} (h : RecordWork s t) : Duties s t := (Duty.bus h).duties

theorem PortWork.duties {s t : State} (h : PortWork s t) : Duties s t := h.record.duties

theorem Moves.refl (s : State) : Moves s s := Relation.ReflTransGen.refl

theorem Moves.trans {s t u : State} (a : Moves s t) (b : Moves t u) : Moves s u := Relation.ReflTransGen.trans a b

theorem Move.moves {s t : State} (h : Move s t) : Moves s t := Relation.ReflTransGen.single h

theorem Duties.moves {s t : State} (h : Duties s t) : Moves s t := by
  induction h with
  | refl => exact .refl s
  | tail _ last ih => exact ih.trans (Move.duty last).moves

theorem RecordWork.moves {s t : State} (h : RecordWork s t) : Moves s t := h.duties.moves

theorem PortWork.moves {s t : State} (h : PortWork s t) : Moves s t := h.record.moves

theorem Shifts.refl (s : State) : Shifts s s := Relation.ReflTransGen.refl

theorem Shifts.trans {s t u : State} (a : Shifts s t) (b : Shifts t u) : Shifts s u := Relation.ReflTransGen.trans a b

theorem Shift.shifts {s t : State} (h : Shift s t) : Shifts s t := Relation.ReflTransGen.single h

theorem Moves.shifts {s t : State} (h : Moves s t) : Shifts s t := by
  induction h with
  | refl => exact .refl s
  | tail _ last ih => exact ih.trans (Shift.move last).shifts

/-- What follows a chain for each element of a list makes one, when each may follow wherever the chain has led so far. -/
theorem foldl_chain {R : State → State → Prop} {α : Type} {f : State → α → State} {l : List α} {s : State}
    (h : ∀ t : State, Relation.ReflTransGen R s t → ∀ x ∈ l, Relation.ReflTransGen R t (f t x)) :
    Relation.ReflTransGen R s (l.foldl f s) := by
  have main : ∀ (l' : List α) (t : State), (∀ x ∈ l', x ∈ l) → Relation.ReflTransGen R s t →
      Relation.ReflTransGen R s (l'.foldl f t) := by
    intro l'
    induction l' with
    | nil => exact fun _ _ reached => reached
    | cons x xs ih =>
      exact fun t sub reached => ih (f t x) (fun y hy => sub y (List.mem_cons_of_mem _ hy))
        (reached.trans (h t reached x (sub x List.mem_cons_self)))
  exact main l s (fun _ hx => hx) .refl

theorem Duties.foldl {α : Type} {f : State → α → State} {l : List α} {s : State}
    (h : ∀ t : State, Duties s t → ∀ x ∈ l, Duties t (f t x)) : Duties s (l.foldl f s) := foldl_chain h

theorem Moves.foldl {α : Type} {f : State → α → State} {l : List α} {s : State}
    (h : ∀ t : State, Moves s t → ∀ x ∈ l, Moves t (f t x)) : Moves s (l.foldl f s) := foldl_chain h

/-! ## What no move changes -/

/-- A record without the three blocks' job items. -/
def bareRecord (r : UnitRec) : UnitRec := { r with gensetJob := {}, pvJob := {}, feederJob := {} }

/-- What neither a move nor a shift changes: the timebase, E and the pass in progress, the published pass, every record but for
its job items, the configuration, the commands and the deliveries that wait; conditions stay latched and records logged. -/
structure Frame (s t : State) : Prop where
  inReset   : t.inReset = s.inReset
  now       : t.now = s.now
  station   : t.frame.station = s.frame.station
  delivered : t.frame.delivered = s.frame.delivered
  epoch     : t.tracker.epoch = s.tracker.epoch
  pass      : t.tracker.passInProgress = s.tracker.passInProgress
  source    : t.lastSource = s.lastSource
  balance   : t.balance = s.balance
  records   : ∀ u : UnitNo, bareRecord (t.unit u) = bareRecord (s.unit u)
  settings  : t.service.settings = s.service.settings
  access    : t.service.access = s.service.access
  requests  : t.service.queue = s.service.queue
  stages    : t.shed.stages = s.shed.stages
  routing   : t.events.routing = s.events.routing
  phases    : t.egress.phases = s.egress.phases
  plan      : t.seqr.plan = s.seqr.plan
  schedule  : t.schedule = s.schedule
  pending   : t.pending = s.pending
  latched   : ∀ c : Condition, s.isLatched c = true → t.isLatched c = true
  log       : ∀ (i : LogNo) (r : EventRec), s.events.log.get i = some r → t.events.log.get i = some r

theorem Frame.refl (s : State) : Frame s s := by
  constructor <;> first | rfl | exact fun _ => rfl | exact fun _ h => h | exact fun _ _ h => h

theorem Frame.trans {s t u : State} (a : Frame s t) (b : Frame t u) : Frame s u where
  inReset := b.inReset.trans a.inReset
  now := b.now.trans a.now
  station := b.station.trans a.station
  delivered := b.delivered.trans a.delivered
  epoch := b.epoch.trans a.epoch
  pass := b.pass.trans a.pass
  source := b.source.trans a.source
  balance := b.balance.trans a.balance
  records u := (b.records u).trans (a.records u)
  settings := b.settings.trans a.settings
  access := b.access.trans a.access
  requests := b.requests.trans a.requests
  stages := b.stages.trans a.stages
  routing := b.routing.trans a.routing
  phases := b.phases.trans a.phases
  plan := b.plan.trans a.plan
  schedule := b.schedule.trans a.schedule
  pending := b.pending.trans a.pending
  latched c h := b.latched c (a.latched c h)
  log i r h := b.log i r (a.log i r h)

/-- What is written of one record but its job items is what stood there. -/
theorem Frame.of_setUnit {s : State} {u : UnitNo} {r : UnitRec} (h : bareRecord r = bareRecord (s.unit u)) :
    Frame s (s.setUnit u r) where
  inReset := rfl
  now := rfl
  station := rfl
  delivered := rfl
  epoch := rfl
  pass := rfl
  source := rfl
  balance := rfl
  records v := by
    rw [unit_setUnit]
    split
    · next same => rw [same, h]
    · rfl
  settings := rfl
  access := rfl
  requests := rfl
  stages := rfl
  routing := rfl
  phases := rfl
  plan := rfl
  schedule := rfl
  pending := rfl
  latched _ h := h
  log _ _ h := h

theorem RecordWork.frame' {s t : State} (h : RecordWork s t) : Frame s t where
  inReset := h.outside.inReset
  now := h.outside.now
  station := h.station
  delivered := h.delivered
  epoch := by rw [h.outside.tracker]
  pass := by rw [h.outside.tracker]
  source := h.outside.lastSource
  balance := h.outside.balance
  records u := by rw [h.unit u]
  settings := by rw [h.outside.service]
  access := by rw [h.outside.service]
  requests := by rw [h.outside.service]
  stages := by rw [h.outside.shed]
  routing := h.routing
  phases := h.phases
  plan := by rw [h.outside.seqr]
  schedule := h.outside.schedule
  pending := h.outside.pending
  latched := h.latched
  log := h.log

/-- Tidying rewrites the predictive record alone. -/
theorem tidyPredictive_eq (s : State) :
    ∃ p : Option Predictive, tidyPredictive s = s.setShedBlock { s.shed with predictive := p } := by
  unfold tidyPredictive
  split
  next absent => exact ⟨none, by rw [← absent]; rfl⟩
  next => exact ⟨_, rfl⟩

/-- A feeder's items as it enters a shed state (R143). -/
def enteredShed (j : FeederJob) (x : ShedState) : FeederJob :=
  { j with shed := x, restoreFail := if x = .closed then 0 else j.restoreFail }

/-- A feeder's change of shed state, as one update of its job items and of the stack, the pending list and the record. -/
theorem setShed_eq (s : State) (u : UnitNo) (x : ShedState) : ∃ p : Option Predictive,
    setShed s u x = (s.setFeeder u (enteredShed (s.unit u).feederJob x)).setShedBlock { s.shed with
      stack := if stacked x then s.shed.stack else s.shed.stack.filter fun e => e.feeder != u
      pending := if x = .closed then s.shed.pending else s.shed.pending.filter fun e => e.feeder != u
      predictive := p } := by
  unfold setShed
  obtain ⟨p, tidied⟩ := tidyPredictive_eq (((s.setFeeder u { (s.unit u).feederJob with
    shed := x, restoreFail := if x == .closed then 0 else (s.unit u).feederJob.restoreFail }).setShedBlock { s.shed with
      stack := if x == .closed || x == .openOther || x == .openPlan || x == .unknown then
        s.shed.stack.filter (fun e => e.feeder != u) else s.shed.stack
      pending := if x == .closed then s.shed.pending else s.shed.pending.filter (fun e => e.feeder != u) }))
  refine ⟨p, tidied.trans ?_⟩
  cases x <;> rfl

theorem stripSteps_slot (s : State) (i : SlotNo) :
    (stripSteps s).slot i = (s.slot i).map fun o => { o with planStep := none } := by
  simp [stripSteps, State.slot, vectorGet]

/-- The blocks and the working items that moves rewrite, all at once. -/
theorem Frame.of_blocks (s : State) (a : Allocator) (d : Dispatcher) (b : Shed) (p : Progress) (o : Transactor)
    (urgent dispatch setpoint : List SlotNo) (l : List Task) (t : Tracker) (m : Mode) (stages : b.stages = s.shed.stages)
    (epoch : t.epoch = s.tracker.epoch) (pass : t.passInProgress = s.tracker.passInProgress) :
    Frame s { s with
      alloc := a, dispatcher := d, shed := b, seqr := { s.seqr with progress := p }, orders := o, agenda := l, tracker := t
      egress := { s.egress with urgent := urgent, dispatch := dispatch, setpoint := setpoint }
      service := { s.service with mode := m } } where
  inReset := rfl
  now := rfl
  station := rfl
  delivered := rfl
  epoch := epoch
  pass := pass
  source := rfl
  balance := rfl
  records _ := rfl
  settings := rfl
  access := rfl
  requests := rfl
  stages := stages
  routing := rfl
  phases := rfl
  plan := rfl
  schedule := rfl
  pending := rfl
  latched _ h := h
  log _ _ h := h

theorem Frame.of_shed (s : State) (b : Shed) (stages : b.stages = s.shed.stages) : Frame s (s.setShedBlock b) :=
  .of_blocks s s.alloc s.dispatcher b s.progress s.orders s.egress.urgent s.egress.dispatch s.egress.setpoint s.agenda s.tracker
    s.mode stages rfl rfl

theorem Frame.of_orders (s : State) (o : Transactor) (urgent dispatch setpoint : List SlotNo) :
    Frame s { s with
      orders := o, egress := { s.egress with urgent := urgent, dispatch := dispatch, setpoint := setpoint } } :=
  .of_blocks s s.alloc s.dispatcher s.shed s.progress o urgent dispatch setpoint s.agenda s.tracker s.mode rfl rfl rfl

theorem Frame.of_setFeeder (s : State) (u : UnitNo) (j : FeederJob) : Frame s (s.setFeeder u j) := .of_setUnit rfl

theorem Frame.of_setShed (s : State) (u : UnitNo) (x : ShedState) : Frame s (setShed s u x) := by
  obtain ⟨p, entered⟩ := setShed_eq s u x
  rw [entered]
  exact (Frame.of_setFeeder s u _).trans (.of_shed _ _ rfl)

theorem Duty.frame {s t : State} (h : Duty s t) : Frame s t := by
  cases h with
  | bus work => exact work.frame'
  | alloc a =>
    exact .of_blocks s a s.dispatcher s.shed s.progress s.orders s.egress.urgent s.egress.dispatch s.egress.setpoint s.agenda
      s.tracker s.mode rfl rfl rfl
  | pv u j | gensetItems u j => exact .of_setUnit rfl
  | startRetry b =>
    exact .of_blocks s s.alloc { s.dispatcher with startRetry := b } s.shed s.progress s.orders s.egress.urgent s.egress.dispatch
      s.egress.setpoint s.agenda s.tracker s.mode rfl rfl rfl
  | agenda l =>
    exact .of_blocks s s.alloc s.dispatcher s.shed s.progress s.orders s.egress.urgent s.egress.dispatch s.egress.setpoint l
      s.tracker s.mode rfl rfl rfl
  | gensetEnters u j =>
    exact (Frame.of_setUnit (u := u) (r := { s.unit u with gensetJob := j }) rfl).trans
      (.of_blocks (s.setGenset u j) s.alloc _ s.shed s.progress s.orders s.egress.urgent s.egress.dispatch s.egress.setpoint
        s.agenda s.tracker s.mode rfl rfl rfl)
  | orderMade _ work =>
    exact (Frame.of_orders s _ s.egress.urgent s.egress.dispatch s.egress.setpoint).trans work.frame'
  | coalesced v judged =>
    unfold rewriteSlot
    split
    · exact .refl s
    · exact .of_orders s _ s.egress.urgent s.egress.dispatch s.egress.setpoint
  | freed i => exact .of_orders s _ _ _ _

theorem Move.frame {s t : State} (h : Move s t) : Frame s t := by
  cases h with
  | duty d => exact d.frame
  | tracker t epoch pass =>
    exact .of_blocks s s.alloc s.dispatcher s.shed s.progress s.orders s.egress.urgent s.egress.dispatch s.egress.setpoint
      s.agenda t s.mode rfl epoch pass
  | progress p _ =>
    exact .of_blocks s s.alloc s.dispatcher s.shed p s.orders s.egress.urgent s.egress.dispatch s.egress.setpoint s.agenda
      s.tracker s.mode rfl rfl rfl
  | shedItems b stages => exact .of_shed s b stages
  | pendingAdded us cause => exact .of_shed s _ rfl
  | feederItems u j => exact .of_setUnit rfl
  | shedLeaves u x | shedStays u x => exact .of_setShed s u x
  | shedJoins u x j e => exact ((Frame.of_setShed s u x).trans (.of_setFeeder _ u j)).trans (.of_shed _ _ rfl)
  | stripped => exact .of_orders s _ s.egress.urgent s.egress.dispatch s.egress.setpoint

theorem Duties.frame {s t : State} (h : Duties s t) : Frame s t := by
  induction h with
  | refl => exact .refl s
  | tail _ last ih => exact ih.trans last.frame

theorem Moves.frame {s t : State} (h : Moves s t) : Frame s t := by
  induction h with
  | refl => exact .refl s
  | tail _ last ih => exact ih.trans last.frame

theorem Shift.frame {s t : State} (h : Shift s t) : Frame s t := by
  cases h with
  | move m => exact m.frame
  | mode m =>
    exact .of_blocks s s.alloc s.dispatcher s.shed s.progress s.orders s.egress.urgent s.egress.dispatch s.egress.setpoint
      s.agenda s.tracker m rfl rfl rfl
  | plan p =>
    exact .of_blocks s s.alloc s.dispatcher s.shed p s.orders s.egress.urgent s.egress.dispatch s.egress.setpoint s.agenda
      s.tracker s.mode rfl rfl rfl

theorem Shifts.frame {s t : State} (h : Shifts s t) : Frame s t := by
  induction h with
  | refl => exact .refl s
  | tail _ last ih => exact ih.trans last.frame

theorem Frame.kind {s t : State} (h : Frame s t) (u : UnitNo) : (t.unit u).kind = (s.unit u).kind :=
  (congrArg UnitRec.kind (h.records u) :)

theorem Frame.live {s t : State} (h : Frame s t) (u : UnitNo) : (t.unit u).live = (s.unit u).live :=
  (congrArg UnitRec.live (h.records u) :)

theorem Frame.feeder {s t : State} (h : Frame s t) (u : UnitNo) : (t.unit u).feeder = (s.unit u).feeder :=
  (congrArg UnitRec.feeder (h.records u) :)

theorem Frame.permits {s t : State} (h : Frame s t) (u : UnitNo) : (t.unit u).permits = (s.unit u).permits :=
  (congrArg UnitRec.permits (h.records u) :)

theorem Frame.credit {s t : State} (h : Frame s t) (u : UnitNo) : (t.unit u).credit = (s.unit u).credit :=
  (congrArg UnitRec.credit (h.records u) :)

theorem Frame.config {s t : State} (h : Frame s t) : SameConfig s t where
  settings := h.settings
  access := h.access
  stages := h.stages
  routing := h.routing
  phases := h.phases
  plan := h.plan
  units u := congrArg (fun r : UnitRec => { r with live := {} }) (h.records u)

/-! ## The engine mode and the plan state -/

/-- What the Transactor, the Allocator and the Dispatcher leave as it was: the tracker, the Shed Controller, the Sequencer, the
Service Unit, and the Shed Controller's items of every record. -/
structure Apart (s t : State) : Prop where
  tracker : t.tracker = s.tracker
  shed    : t.shed = s.shed
  seqr    : t.seqr = s.seqr
  service : t.service = s.service
  feeders : ∀ u : UnitNo, (t.unit u).feederJob = (s.unit u).feederJob

theorem Apart.refl (s : State) : Apart s s := ⟨rfl, rfl, rfl, rfl, fun _ => rfl⟩

theorem Apart.trans {s t u : State} (a : Apart s t) (b : Apart t u) : Apart s u where
  tracker := b.tracker.trans a.tracker
  shed := b.shed.trans a.shed
  seqr := b.seqr.trans a.seqr
  service := b.service.trans a.service
  feeders v := (b.feeders v).trans (a.feeders v)

theorem Apart.of_record {s t : State} (h : RecordWork s t) : Apart s t :=
  ⟨h.outside.tracker, h.outside.shed, h.outside.seqr, h.outside.service, fun u => by rw [h.unit u]⟩

theorem Apart.of_setUnit {s : State} {u : UnitNo} {r : UnitRec} (h : r.feederJob = (s.unit u).feederJob) :
    Apart s (s.setUnit u r) :=
  ⟨rfl, rfl, rfl, rfl, fun v => by
    rw [unit_setUnit]
    split
    · next same => rw [same, h]
    · rfl⟩

theorem Duty.apart {s t : State} (h : Duty s t) : Apart s t := by
  cases h with
  | bus work => exact .of_record work
  | orderMade _ work => exact Apart.trans (t := granted s _ _ _ _ _ _) ⟨rfl, rfl, rfl, rfl, fun _ => rfl⟩ (.of_record work)
  | pv u j | gensetItems u j => exact .of_setUnit rfl
  | gensetEnters u j =>
    exact (Apart.of_setUnit (u := u) (r := { s.unit u with gensetJob := j }) rfl).trans ⟨rfl, rfl, rfl, rfl, fun _ => rfl⟩
  | coalesced v =>
    unfold rewriteSlot
    split
    · exact .refl s
    · exact ⟨rfl, rfl, rfl, rfl, fun _ => rfl⟩
  | _ => exact ⟨rfl, rfl, rfl, rfl, fun _ => rfl⟩

theorem Duties.apart {s t : State} (h : Duties s t) : Apart s t := by
  induction h with
  | refl => exact .refl s
  | tail _ last ih => exact ih.trans last.apart

/-- Moves change neither the engine mode nor the plan state. -/
theorem Move.mode_plan {s t : State} (h : Move s t) :
    t.mode = s.mode ∧ t.progress.planState = s.progress.planState := by
  cases h with
  | duty d => exact ⟨congrArg Service.mode d.apart.service, by rw [State.progress, d.apart.seqr]; rfl⟩
  | progress p same => exact ⟨rfl, same⟩
  | shedLeaves u x | shedStays u x =>
    obtain ⟨p, entered⟩ := setShed_eq s u x
    rw [entered]
    exact ⟨rfl, rfl⟩
  | shedJoins u x j e =>
    obtain ⟨p, entered⟩ := setShed_eq s u x
    rw [entered]
    exact ⟨rfl, rfl⟩
  | _ => exact ⟨rfl, rfl⟩

theorem Moves.mode_plan {s t : State} (h : Moves s t) :
    t.mode = s.mode ∧ t.progress.planState = s.progress.planState := by
  induction h with
  | refl => exact ⟨rfl, rfl⟩
  | tail _ last ih => exact ⟨last.mode_plan.1.trans ih.1, last.mode_plan.2.trans ih.2⟩

theorem Moves.mode {s t : State} (h : Moves s t) : t.mode = s.mode := h.mode_plan.1

theorem Moves.planState {s t : State} (h : Moves s t) : t.progress.planState = s.progress.planState := h.mode_plan.2

theorem Moves.planRunning {s t : State} (h : Moves s t) : t.planRunning = s.planRunning := by
  rw [State.planRunning, State.planRunning, h.planState]

theorem Moves.planMode {s t : State} (h : Moves s t) : PlanMode t ↔ PlanMode s := by
  rw [PlanMode, PlanMode, h.mode, h.planState]

end Sys2Proof.Machine
end

section
/-! What every move keeps: the bounds on Order Slots (R64), the permitted-order sets (R67), the Commitment List (R123) and the
Shed Stack (R142). -/

namespace Sys2Proof.Machine

/-! ## The Order Slots -/

/-- Every order in a slot stood there before, with its target, its class and, when its kind has changed, a kind that its target
permits (R67, R68). -/
def SlotsOf (s t : State) : Prop :=
  ∀ (i : SlotNo) (o' : Order), t.slot i = some o' → ∃ o : Order, s.slot i = some o ∧ o.target = o'.target ∧ o.cls = o'.cls ∧
    (o.kind = o'.kind ∨ (s.unit o'.target).permits.has o'.kind = true)

theorem SlotsOf.of_slots {s t : State} (h : ∀ i : SlotNo, t.slot i = s.slot i) : SlotsOf s t :=
  fun i o' holds => ⟨o', (h i).symm.trans holds, rfl, rfl, .inl rfl⟩

theorem SlotsOf.of_content {s t : State} (h : ∀ i : SlotNo, (t.slot i).map Order.content = (s.slot i).map Order.content) :
    SlotsOf s t := by
  intro i o' holds
  have same := h i
  rw [holds] at same
  obtain ⟨o, there, content⟩ := Option.map_eq_some_iff.mp same.symm
  simp only [Order.content, Prod.mk.injEq] at content
  obtain ⟨target, kind, -, -, -, cls, -⟩ := content
  exact ⟨o, there, target, cls, .inl kind⟩

/-- The slots whose orders have a property of target and class are no more than before. -/
theorem SlotsOf.count_le {s t : State} (h : SlotsOf s t) {p : Order → Bool}
    (hp : ∀ o o' : Order, o.target = o'.target → o.cls = o'.cls → p o' = true → p o = true) :
    (allSlots.filter fun i => (t.slot i).any p).length ≤ (allSlots.filter fun i => (s.slot i).any p).length := by
  refine (List.monotone_filter_right allSlots fun i holds => ?_).length_le
  obtain ⟨o', there, has⟩ := (Option.any_eq_true _ _).mp holds
  obtain ⟨o, before, target, cls, -⟩ := h i o' there
  rw [before]
  exact hp o o' target cls has

theorem SlotsOf.inFlight_le {s t : State} (h : SlotsOf s t) (u : UnitNo) : t.inFlight u ≤ s.inFlight u :=
  h.count_le fun _ _ target _ has => by simpa [target] using has

theorem SlotsOf.nonUrgent_le {s t : State} (h : SlotsOf s t) : t.nonUrgent ≤ s.nonUrgent :=
  h.count_le fun _ _ _ cls has => by simpa [cls] using has

theorem SlotsOf.slotBounds {s t : State} (h : SlotsOf s t) (credit : ∀ u : UnitNo, (t.unit u).credit = (s.unit u).credit)
    (bounds : SlotBounds s) : SlotBounds t where
  credit u := (h.inFlight_le u).trans ((bounds.credit u).trans (credit u).ge)
  nonUrgent := h.nonUrgent_le.trans bounds.nonUrgent

theorem SlotsOf.permitted {s t : State} (h : SlotsOf s t) (permits : ∀ u : UnitNo, (t.unit u).permits = (s.unit u).permits)
    (permitted : Permitted s) : Permitted t := by
  intro i o' holds
  obtain ⟨o, before, target, -, kind⟩ := h i o' holds
  rw [permits]
  rcases kind with same | allowed
  · rw [← target, ← same]
    exact permitted i o before
  · exact allowed

/-- A slot filled adds at most one to a count of the slots. -/
theorem filled_count_le {s t : State} {i : SlotNo} (h : ∀ j : SlotNo, j ≠ i → t.slot j = s.slot j) (p : Order → Bool) :
    (allSlots.filter fun j => (t.slot j).any p).length ≤ (allSlots.filter fun j => (s.slot j).any p).length + 1 := by
  have sub : (allSlots.filter fun j => (t.slot j).any p) ⊆ i :: allSlots.filter fun j => (s.slot j).any p := by
    intro j holds
    rw [List.mem_filter] at holds
    by_cases same : j = i
    · exact same ▸ List.mem_cons_self
    · exact List.mem_cons_of_mem _ (List.mem_filter.mpr ⟨holds.1, h j same ▸ holds.2⟩)
  exact (List.subperm_of_subset ((List.nodup_finRange 12).filter _) sub).length_le

/-- A slot filled with an order that has not the property adds nothing. -/
theorem filled_count_le_of_not {s t : State} {i : SlotNo} {o : Order} (h : ∀ j : SlotNo, j ≠ i → t.slot j = s.slot j)
    (filled : t.slot i = some o) {p : Order → Bool} (lacks : p o = false) :
    (allSlots.filter fun j => (t.slot j).any p).length ≤ (allSlots.filter fun j => (s.slot j).any p).length := by
  refine (List.monotone_filter_right allSlots fun j holds => ?_).length_le
  by_cases same : j = i
  · simp [same, filled, lacks] at holds
  · rwa [h j same] at holds

theorem granted_slot (s : State) (i j : SlotNo) (u : UnitNo) (k : OrderKind) (v : Option Nat) (w : Owner) (st : Option (Fin 32)) :
    (granted s i u k v w st).slot j = if j = i then some (newOrder s u k v w st) else s.slot j := by
  simp only [granted, State.slot, vectorGet_set]

@[simp] theorem granted_unit (s : State) (i : SlotNo) (u v : UnitNo) (k : OrderKind) (x : Option Nat) (w : Owner)
    (st : Option (Fin 32)) : (granted s i u k x w st).unit v = s.unit v := rfl

/-- An order that passed the checks of R66 keeps the bounds of R64. -/
theorem granted_slotBounds {s : State} {i : SlotNo} {u : UnitNo} {k : OrderKind} {w : Owner}
    (judged : judgeRequest s u k w = .created i) (v : Option Nat) (st : Option (Fin 32)) (bounds : SlotBounds s) :
    SlotBounds (granted s i u k v w st) := by
  obtain ⟨-, -, -, -, credit, room, -⟩ := judgeRequest_created judged
  have others : ∀ j : SlotNo, j ≠ i → (granted s i u k v w st).slot j = s.slot j := fun j other => by
    rw [granted_slot, if_neg other]
  have filled : (granted s i u k v w st).slot i = some (newOrder s u k v w st) := by rw [granted_slot, if_pos rfl]
  constructor
  · intro x
    by_cases same : x = u
    · subst same
      exact (filled_count_le others _).trans credit
    · refine (filled_count_le_of_not others filled ?_).trans (bounds.credit x)
      exact beq_eq_false_iff_ne.mpr fun e => same e.symm
  · rcases room with urgent | room
    · refine (filled_count_le_of_not others filled ?_).trans bounds.nonUrgent
      simp [newOrder, urgent]
    · exact (filled_count_le others _).trans room

theorem granted_permitted {s : State} {i : SlotNo} {u : UnitNo} {k : OrderKind} {w : Owner}
    (judged : judgeRequest s u k w = .created i) (v : Option Nat) (st : Option (Fin 32)) (permitted : Permitted s) :
    Permitted (granted s i u k v w st) := by
  obtain ⟨-, allowed, -⟩ := judgeRequest_created judged
  intro j o holds
  rw [granted_slot] at holds
  split at holds
  · cases holds
    exact allowed
  · exact permitted j o holds

/-- But for an order made, every order after a move stood in its slot before. -/
theorem Duty.slots {s t : State} (h : Duty s t) : SlotsOf s t ∨
    ∃ (i : SlotNo) (u : UnitNo) (k : OrderKind) (v : Option Nat) (w : Owner) (st : Option (Fin 32)),
      judgeRequest s u k w = .created i ∧ SlotsOf (granted s i u k v w st) t := by
  cases h with
  | orderMade judged work => exact .inr ⟨_, _, _, _, _, _, judged, .of_content work.slots⟩
  | bus work => exact .inl (.of_content work.slots)
  | coalesced v judged =>
    refine .inl fun j o' holds => ?_
    obtain ⟨-, allowed, found⟩ := judgeRequest_coalesced judged
    obtain ⟨-, o, there, target, -⟩ := coalesceSlot_some found
    rw [rewriteSlot, there] at holds
    simp only [slot_setSlot] at holds
    split at holds
    next same =>
      cases holds
      exact ⟨o, same ▸ there, rfl, rfl, .inr (target ▸ allowed)⟩
    next => exact ⟨o', holds, rfl, rfl, .inl rfl⟩
  | freed i =>
    refine .inl fun j o' holds => ?_
    rw [freeSlotAt_slot] at holds
    split at holds
    · cases holds
    · exact ⟨o', holds, rfl, rfl, .inl rfl⟩
  | _ => exact .inl (.of_slots fun _ => rfl)

theorem Move.slots {s t : State} (h : Move s t) : SlotsOf s t ∨
    ∃ (i : SlotNo) (u : UnitNo) (k : OrderKind) (v : Option Nat) (w : Owner) (st : Option (Fin 32)),
      judgeRequest s u k w = .created i ∧ SlotsOf (granted s i u k v w st) t := by
  cases h with
  | duty d => exact d.slots
  | shedLeaves u x | shedStays u x =>
    obtain ⟨p, entered⟩ := setShed_eq s u x
    exact .inl (.of_slots fun _ => by rw [entered]; rfl)
  | shedJoins u x j e =>
    obtain ⟨p, entered⟩ := setShed_eq s u x
    exact .inl (.of_slots fun _ => by rw [entered]; rfl)
  | stripped =>
    refine .inl fun j o' holds => ?_
    rw [stripSteps_slot] at holds
    obtain ⟨o, there, same⟩ := Option.map_eq_some_iff.mp holds
    exact ⟨o, there, by rw [← same], by rw [← same], .inl (by rw [← same])⟩
  | _ => exact .inl (.of_slots fun _ => rfl)

theorem Move.slotBounds {s t : State} (h : Move s t) (bounds : SlotBounds s) : SlotBounds t := by
  have credit := h.frame.credit
  rcases h.slots with kept | ⟨i, u, k, v, w, st, judged, kept⟩
  · exact kept.slotBounds credit bounds
  · exact kept.slotBounds credit (granted_slotBounds judged v st bounds)

theorem Move.permitted {s t : State} (h : Move s t) (permitted : Permitted s) : Permitted t := by
  have permits := h.frame.permits
  rcases h.slots with kept | ⟨i, u, k, v, w, st, judged, kept⟩
  · exact kept.permitted permits permitted
  · exact kept.permitted permits (granted_permitted judged v st permitted)

/-! ## The Commitment List -/

theorem CommitExact.kind {s : State} (h : CommitExact s) {u : UnitNo} (items : HasGensetItems (s.unit u)) :
    (s.unit u).kind = .genset :=
  items.elim id fun some => by_contra fun other => some (h.others u other)

/-- What keeps the list, the kinds and the Dispatcher's items keeps the Commitment List exact. -/
theorem CommitExact.of_same {s t : State} (h : CommitExact s) (commit : t.dispatcher.commit = s.dispatcher.commit)
    (units : ∀ u : UnitNo, (t.unit u).kind = (s.unit u).kind ∧ (t.unit u).gensetJob = (s.unit u).gensetJob) :
    CommitExact t where
  once := commit ▸ h.once
  exact u := by rw [commit, (units u).1, (units u).2, h.exact u]
  others u other := by
    rw [(units u).2]
    exact h.others u (by rwa [(units u).1] at other)

/-- Who stands on the Commitment List after a gen-set has entered a state (R123). -/
theorem mem_commitAfter {l : List UnitNo} {u v : UnitNo} {d : DispatchState} :
    v ∈ commitAfter l u d ↔ if v = u then d.committed = true else v ∈ l := by
  unfold commitAfter
  by_cases same : v = u
  · subst same
    by_cases on : d.committed = true <;> by_cases there : v ∈ l <;> simp [on, there]
  · by_cases on : d.committed = true <;> by_cases there : u ∈ l <;> simp [on, there, same]

theorem commitAfter_nodup {l : List UnitNo} (h : l.Nodup) (u : UnitNo) (d : DispatchState) : (commitAfter l u d).Nodup := by
  unfold commitAfter
  split
  · split
    · exact h
    · next absent =>
      exact List.nodup_append'.mpr ⟨h, List.nodup_singleton u, by simpa using absent⟩
  · exact h.filter _

theorem setShed_dispatcher (s : State) (u : UnitNo) (x : ShedState) : (setShed s u x).dispatcher = s.dispatcher := by
  obtain ⟨p, entered⟩ := setShed_eq s u x
  rw [entered]
  rfl

/-- What a record reads as after a feeder has entered a shed state. -/
theorem unit_setShed (s : State) (u v : UnitNo) (x : ShedState) : (setShed s u x).unit v =
    if v = u then { s.unit u with feederJob := enteredShed (s.unit u).feederJob x } else s.unit v := by
  obtain ⟨p, entered⟩ := setShed_eq s u x
  rw [entered]
  exact unit_setFeeder s u v _

theorem genset_setShed (s : State) (u : UnitNo) (x : ShedState) (v : UnitNo) :
    ((setShed s u x).unit v).kind = (s.unit v).kind ∧ ((setShed s u x).unit v).gensetJob = (s.unit v).gensetJob := by
  rw [unit_setShed]
  split
  · next same => exact same ▸ ⟨rfl, rfl⟩
  · exact ⟨rfl, rfl⟩

theorem Duty.commitExact {s t : State} (h : Duty s t) (exact : CommitExact s) : CommitExact t := by
  cases h with
  | gensetEnters u j items =>
    have genset := exact.kind items
    have unit (v : UnitNo) := unit_setGenset s u v j
    constructor
    · exact commitAfter_nodup exact.once u j.dispatch
    · intro v
      refine mem_commitAfter.trans ?_
      show _ ↔ ((s.setGenset u j).unit v).kind = _ ∧ ((s.setGenset u j).unit v).gensetJob.dispatch.committed = _
      rw [unit]
      split
      · simp [genset]
      · exact exact.exact v
    · intro v other
      change ((s.setGenset u j).unit v).kind ≠ _ at other
      show ((s.setGenset u j).unit v).gensetJob = _
      rw [unit] at other ⊢
      split at other
      · exact absurd genset other
      · next ne => rw [if_neg ne]; exact exact.others v other
  | gensetItems u j items same =>
    have genset := exact.kind items
    have unit (v : UnitNo) := unit_setGenset s u v j
    refine ⟨exact.once, fun v => ?_, fun v other => ?_⟩
    · rw [unit]
      split
      · next e => rw [same, ← e]; exact exact.exact v
      · exact exact.exact v
    · rw [unit] at other ⊢
      split at other
      · exact absurd genset other
      · next ne => rw [if_neg ne]; exact exact.others v other
  | bus work => exact exact.of_same (by rw [work.outside.dispatcher]) fun u => by rw [work.unit u]; exact ⟨rfl, rfl⟩
  | orderMade _ work => exact exact.of_same (by rw [work.outside.dispatcher]; rfl) fun u => by rw [work.unit u]; exact ⟨rfl, rfl⟩
  | pv u j =>
    refine exact.of_same rfl fun v => ?_
    rw [unit_setPv]
    split
    · next same => exact same ▸ ⟨rfl, rfl⟩
    · exact ⟨rfl, rfl⟩
  | coalesced v =>
    unfold rewriteSlot
    split <;> exact exact.of_same rfl fun _ => ⟨rfl, rfl⟩
  | _ => exact exact.of_same rfl fun _ => ⟨rfl, rfl⟩

theorem Move.commitExact {s t : State} (h : Move s t) (exact : CommitExact s) : CommitExact t := by
  cases h with
  | duty d => exact d.commitExact exact
  | feederItems u j =>
    refine exact.of_same rfl fun v => ?_
    rw [unit_setFeeder]
    split
    · next same => exact same ▸ ⟨rfl, rfl⟩
    · exact ⟨rfl, rfl⟩
  | shedLeaves u x | shedStays u x => exact exact.of_same (congrArg Dispatcher.commit (setShed_dispatcher s u x)) (genset_setShed s u x)
  | shedJoins u x j e =>
    refine exact.of_same (congrArg Dispatcher.commit (setShed_dispatcher s u x)) fun v => ?_
    change ((State.setFeeder _ u j).unit v).kind = _ ∧ ((State.setFeeder _ u j).unit v).gensetJob = _
    rw [unit_setFeeder]
    split
    · next same => exact same ▸ genset_setShed s v x v
    · exact genset_setShed s u x v
  | _ => exact exact.of_same rfl fun _ => ⟨rfl, rfl⟩

/-! ## The Shed Stack -/

theorem setShed_stack (s : State) (u : UnitNo) (x : ShedState) : (setShed s u x).shed.stack =
    if stacked x then s.shed.stack else s.shed.stack.filter fun e => e.feeder != u := by
  obtain ⟨p, entered⟩ := setShed_eq s u x
  rw [entered]
  rfl

theorem setShed_pending (s : State) (u : UnitNo) (x : ShedState) : (setShed s u x).shed.pending =
    if x = .closed then s.shed.pending else s.shed.pending.filter fun e => e.feeder != u := by
  obtain ⟨p, entered⟩ := setShed_eq s u x
  rw [entered]
  rfl

theorem onStack_iff (s : State) (u : UnitNo) : onStack s u = true ↔ u ∈ s.shed.stack.map StackEntry.feeder := by
  simp [onStack, List.mem_map]

theorem isPending_iff (s : State) (u : UnitNo) : isPending s u = true ↔ u ∈ s.shed.pending.map PendingShed.feeder := by
  simp [isPending, List.mem_map]

theorem StackExact.kind {s : State} (h : StackExact s) {u : UnitNo} (items : HasFeederItems (s.unit u)) :
    (s.unit u).kind = .feeder :=
  items.elim id fun some => by_contra fun other => some (h.others u other).1

/-- A feeder that is OPENING stands on the stack. -/
theorem StackExact.onStack_of_opening {s : State} (h : StackExact s) {u : UnitNo}
    (opening : (s.unit u).feederJob.shed = .opening) : onStack s u = true := by
  have items : HasFeederItems (s.unit u) := .inr fun empty => by simp [empty] at opening
  rw [onStack_iff, h.exact u, opening]
  refine ⟨h.kind items, ?_, rfl⟩
  by_contra essential
  exact (h.plain u (by simpa using essential)).1 opening

/-- What keeps the stack, which feeders are essential and their shed states, and at most drops pending entries, keeps the Shed
Stack exact. -/
theorem StackExact.of_essential {s t : State} (h : StackExact s)
    (stack : t.shed.stack.map StackEntry.feeder = s.shed.stack.map StackEntry.feeder)
    (pending : t.shed.pending.Sublist s.shed.pending)
    (units : ∀ u : UnitNo, (t.unit u).kind = (s.unit u).kind ∧ (t.unit u).feeder.essential = (s.unit u).feeder.essential ∧
      (t.unit u).feederJob.shed = (s.unit u).feederJob.shed ∧
      ((s.unit u).kind ≠ .feeder → (t.unit u).feederJob = (s.unit u).feederJob ∧ (t.unit u).feeder = (s.unit u).feeder)) :
    StackExact t where
  once := stack ▸ h.once
  exact u := by
    obtain ⟨kind, essential, shed, -⟩ := units u
    rw [stack, kind, essential, shed, h.exact u]
  plain u := by
    obtain ⟨-, essential, shed, -⟩ := units u
    rw [essential, shed]
    exact h.plain u
  pending := by
    refine ⟨h.pending.1.sublist (pending.map _), fun u there => ?_⟩
    obtain ⟨kind, essential, shed, -⟩ := units u
    rw [kind, essential, shed]
    exact h.pending.2 u ((pending.map _).subset there)
  others u other := by
    obtain ⟨kind, -, -, plain⟩ := units u
    rw [kind] at other
    obtain ⟨job, feeder⟩ := plain other
    rw [job, feeder]
    exact h.others u other

/-- What keeps the stack, the feeders' configuration and their shed states, and at most drops pending entries, keeps the Shed
Stack exact. -/
theorem StackExact.of_same {s t : State} (h : StackExact s)
    (stack : t.shed.stack.map StackEntry.feeder = s.shed.stack.map StackEntry.feeder)
    (pending : t.shed.pending.Sublist s.shed.pending)
    (units : ∀ u : UnitNo, (t.unit u).kind = (s.unit u).kind ∧ (t.unit u).feeder = (s.unit u).feeder ∧
      (t.unit u).feederJob.shed = (s.unit u).feederJob.shed ∧
      ((s.unit u).kind ≠ .feeder → (t.unit u).feederJob = (s.unit u).feederJob)) : StackExact t :=
  h.of_essential stack pending fun u =>
    have ⟨kind, feeder, shed, job⟩ := units u
    ⟨kind, by rw [feeder], shed, fun other => ⟨job other, feeder⟩⟩

theorem StackExact.of_units {s t : State} (h : StackExact s) (shed : t.shed = s.shed) (units : t.units = s.units) :
    StackExact t :=
  h.of_same (by rw [shed]) (by rw [shed]) fun u => by
    rw [unit_of_units units]
    exact ⟨rfl, rfl, rfl, fun _ => rfl⟩

/-- A feeder that enters a state outside the stack leaves the Shed Stack exact. -/
theorem StackExact.setShed_leaves {s : State} (h : StackExact s) {u : UnitNo} {x : ShedState}
    (items : HasFeederItems (s.unit u)) (out : stacked x = false) : StackExact (setShed s u x) := by
  have feeder := h.kind items
  constructor
  · rw [setShed_stack, if_neg (by simp [out])]
    exact h.once.sublist (List.filter_sublist.map _)
  · intro v
    rw [setShed_stack, if_neg (by simp [out]), unit_setShed]
    have mem : v ∈ (s.shed.stack.filter fun e => e.feeder != u).map StackEntry.feeder ↔
        v ≠ u ∧ v ∈ s.shed.stack.map StackEntry.feeder := by
      simp only [List.mem_map, List.mem_filter, bne_iff_ne]
      constructor
      · rintro ⟨e, ⟨there, ne⟩, rfl⟩
        exact ⟨ne, e, there, rfl⟩
      · rintro ⟨ne, e, there, rfl⟩
        exact ⟨e, ⟨there, ne⟩, rfl⟩
    rw [mem]
    split
    · next same => simp [same, enteredShed, out]
    · next other => rw [h.exact v]; simp [other]
  · intro v
    rw [unit_setShed]
    split
    · intro _
      constructor <;> (rintro rfl; cases out)
    · exact h.plain v
  · rw [setShed_pending]
    split
    · next closed =>
      refine ⟨h.pending.1, fun v there => ?_⟩
      obtain ⟨kind, plain, shut⟩ := h.pending.2 v there
      rw [unit_setShed]
      split
      · next same => exact ⟨same ▸ kind, same ▸ plain, closed⟩
      · exact ⟨kind, plain, shut⟩
    · refine ⟨h.pending.1.sublist (List.filter_sublist.map _), fun v there => ?_⟩
      obtain ⟨e, held, rfl⟩ := List.mem_map.mp there
      obtain ⟨held, other⟩ := List.mem_filter.mp held
      rw [unit_setShed, if_neg (by simpa using other)]
      exact h.pending.2 _ (List.mem_map.mpr ⟨e, held, rfl⟩)
  · intro v other
    rw [unit_setShed] at other ⊢
    split at other
    · exact absurd feeder other
    · next ne => rw [if_neg ne]; exact h.others v other

/-- A feeder that enters a stacked state, the stack then holding it unless it is essential, leaves the Shed Stack exact. -/
theorem StackExact.enters {s t : State} (h : StackExact s) {u : UnitNo} {r : UnitRec} (feeder : (s.unit u).kind = .feeder)
    (units : ∀ v : UnitNo, t.unit v = if v = u then r else s.unit v)
    (same : r.kind = (s.unit u).kind ∧ r.feeder = (s.unit u).feeder) (on : stacked r.feederJob.shed = true)
    (once : (t.shed.stack.map StackEntry.feeder).Nodup)
    (mem : ∀ v : UnitNo, v ∈ t.shed.stack.map StackEntry.feeder ↔
      if v = u then (s.unit u).feeder.essential = false else v ∈ s.shed.stack.map StackEntry.feeder)
    (pending : t.shed.pending = s.shed.pending.filter fun e => e.feeder != u)
    (plain : (s.unit u).feeder.essential = true → r.feederJob.shed = .restoring) : StackExact t := by
  obtain ⟨kind, config⟩ := same
  constructor
  · exact once
  · intro v
    rw [mem, units]
    split
    · simp [kind, config, on, feeder]
    · exact h.exact v
  · intro v
    rw [units]
    split
    · intro essential
      rw [plain (config ▸ essential)]
      decide
    · exact h.plain v
  · rw [pending]
    refine ⟨h.pending.1.sublist (List.filter_sublist.map _), fun v there => ?_⟩
    obtain ⟨e, held, rfl⟩ := List.mem_map.mp there
    obtain ⟨held, other⟩ := List.mem_filter.mp held
    rw [units, if_neg (by simpa using other)]
    exact h.pending.2 _ (List.mem_map.mpr ⟨e, held, rfl⟩)
  · intro v other
    rw [units] at other ⊢
    split at other
    · exact absurd (kind.trans feeder) other
    · next ne => rw [if_neg ne]; exact h.others v other

theorem setShed_pending_of_stacked {x : ShedState} (on : stacked x = true) (s : State) (u : UnitNo) :
    (setShed s u x).shed.pending = s.shed.pending.filter fun e => e.feeder != u := by
  rw [setShed_pending, if_neg (by rintro rfl; cases on)]

theorem setShed_stack_of_stacked {x : ShedState} (on : stacked x = true) (s : State) (u : UnitNo) :
    (setShed s u x).shed.stack = s.shed.stack := by
  rw [setShed_stack, if_pos on]

theorem StackExact.setShed_stays {s : State} (h : StackExact s) {u : UnitNo} {x : ShedState} (stays : StaysStacked s u x)
    (on : stacked x = true) : StackExact (setShed s u x) := by
  have standing : (onStack s u = true) ∨ (x = .restoring ∧ (s.unit u).kind = .feeder ∧ (s.unit u).feeder.essential = true) :=
    stays.elim .inl fun rest => rest.imp h.onStack_of_opening id
  have exact := h.exact u
  rw [← onStack_iff] at exact
  have feeder : (s.unit u).kind = .feeder := standing.elim (fun there => (exact.mp there).1) fun ⟨_, kind, _⟩ => kind
  refine h.enters feeder (fun v => unit_setShed s u v x) ⟨rfl, rfl⟩ on ?_ (fun v => ?_) (setShed_pending_of_stacked on s u) ?_
  · rw [setShed_stack_of_stacked on]
    exact h.once
  · rw [setShed_stack_of_stacked on]
    split
    next same =>
      rw [same, ← onStack_iff]
      rcases standing with there | ⟨-, -, essential⟩
      · exact ⟨fun _ => (exact.mp there).2.1, fun _ => there⟩
      · simp [essential, exact]
    next => rfl
  · intro essential
    rcases standing with there | ⟨restoring, -⟩
    · simp [essential, exact] at there
    · exact restoring

theorem StackExact.setShed_joins {s : State} (h : StackExact s) {u : UnitNo} {x : ShedState} {j : FeederJob} {e : StackEntry}
    (may : MayBePushed s u) (on : stacked x = true) (entered : j.shed = x) (named : e.feeder = u) :
    StackExact (((setShed s u x).setFeeder u j).setShedBlock
      { ((setShed s u x).setFeeder u j).shed with stack := ((setShed s u x).setFeeder u j).shed.stack ++ [e] }) := by
  have free : (s.unit u).kind = .feeder ∧ (s.unit u).feeder.essential = false ∧ stacked (s.unit u).feederJob.shed = false := by
    rcases may with waits | free
    · obtain ⟨kind, plain, closed⟩ := h.pending.2 u ((isPending_iff s u).mp waits)
      exact ⟨kind, plain, by rw [closed]; rfl⟩
    · exact free
  obtain ⟨feeder, plain, out⟩ := free
  have absent : u ∉ s.shed.stack.map StackEntry.feeder := by simp [h.exact u, out]
  have stack : ((setShed s u x).shed.stack ++ [e]).map StackEntry.feeder = s.shed.stack.map StackEntry.feeder ++ [u] := by
    rw [setShed_stack_of_stacked on, List.map_append, List.map_singleton, named]
  refine h.enters (u := u) (r := { s.unit u with feederJob := j }) feeder (fun v => ?_) ⟨rfl, rfl⟩ (entered ▸ on) ?_ (fun v => ?_)
    (setShed_pending_of_stacked on s u) ?_
  · show ((setShed s u x).setFeeder u j).unit v = _
    rw [unit_setFeeder, unit_setShed, unit_setShed, if_pos rfl]
    split <;> rfl
  · show (((setShed s u x).shed.stack ++ [e]).map StackEntry.feeder).Nodup
    rw [stack]
    exact List.nodup_append'.mpr ⟨h.once, List.nodup_singleton u, by simpa using absent⟩
  · show v ∈ ((setShed s u x).shed.stack ++ [e]).map StackEntry.feeder ↔ _
    rw [stack, List.mem_append, List.mem_singleton]
    split
    · next same => simp [same, plain]
    · next other => simp [other]
  · exact fun essential => by simp [plain] at essential

theorem Move.stackExact {s t : State} (h : Move s t) (exact : StackExact s) : StackExact t := by
  cases h with
  | duty d =>
    exact exact.of_same (by rw [d.apart.shed]) (by rw [d.apart.shed]) fun u =>
      ⟨d.frame.kind u, d.frame.feeder u, by rw [d.apart.feeders u], fun _ => d.apart.feeders u⟩
  | feederItems u j items same =>
    have feeder := exact.kind items
    refine exact.of_same rfl (List.Sublist.refl _) fun v => ?_
    rw [unit_setFeeder]
    split
    · next e =>
      subst e
      exact ⟨rfl, rfl, same, fun other => absurd feeder other⟩
    · exact ⟨rfl, rfl, rfl, fun _ => rfl⟩
  | shedItems b stages stack pending =>
    exact exact.of_same (congrArg _ stack) pending fun _ => ⟨rfl, rfl, rfl, fun _ => rfl⟩
  | pendingAdded us cause once sheddable =>
    obtain ⟨held, pending⟩ := exact.pending
    have added : (addPending s us cause).shed.pending.map PendingShed.feeder = s.shed.pending.map PendingShed.feeder ++ us := by
      simp [addPending, Function.comp_def]
    refine { exact with pending := ?_ }
    rw [added]
    refine ⟨List.nodup_append'.mpr ⟨held, once, fun u there new => ?_⟩, fun u there => ?_⟩
    · have := sheddable u new
      rw [← isPending_iff] at there
      simp [canShed, there] at this
    · rcases List.mem_append.mp there with old | new
      · exact pending u old
      · have may := sheddable u new
        simp only [canShed, Bool.and_eq_true, beq_iff_eq, Bool.not_eq_true'] at may
        obtain ⟨⟨⟨kind, closed⟩, plain⟩, -⟩ := may
        exact ⟨kind, plain, closed⟩
  | shedLeaves u x items out => exact exact.setShed_leaves items out
  | shedStays u x stays on => exact exact.setShed_stays stays on
  | shedJoins u x j e may on entered named => exact exact.setShed_joins may on entered named
  | _ => exact exact.of_units rfl rfl

/-! ## Chains of moves -/

theorem Moves.slotBounds {s t : State} (h : Moves s t) (bounds : SlotBounds s) : SlotBounds t := by
  induction h with
  | refl => exact bounds
  | tail _ last ih => exact last.slotBounds ih

theorem Moves.permitted {s t : State} (h : Moves s t) (permitted : Permitted s) : Permitted t := by
  induction h with
  | refl => exact permitted
  | tail _ last ih => exact last.permitted ih

theorem Moves.commitExact {s t : State} (h : Moves s t) (exact : CommitExact s) : CommitExact t := by
  induction h with
  | refl => exact exact
  | tail _ last ih => exact last.commitExact ih

theorem Moves.stackExact {s t : State} (h : Moves s t) (exact : StackExact s) : StackExact t := by
  induction h with
  | refl => exact exact
  | tail _ last ih => exact last.stackExact ih

end Sys2Proof.Machine
end

section
/-! The operations of the Order Transactor, the Allocator and the Dispatcher are chains of the moves named `Duty`. -/

namespace Sys2Proof.Machine

theorem Duties.alloc (s : State) (a : Allocator) : Duties s { s with alloc := a } := (Duty.alloc s a).duties

theorem Duties.deferAll (s : State) (l : List Task) : Duties s (s.deferAll l) := (Duty.agenda s _).duties

theorem Duties.defer (s : State) (t : Task) : Duties s (s.defer t) := (Duty.agenda s _).duties

theorem Duties.record (s : State) (k : EventKind) (u : Option UnitNo) (v : Option Int) (d : Option Nat) :
    Duties s (record s k u v d) := (record_work s k u v d).duties

theorem Duties.rise (s : State) (c : Condition) : Duties s (rise s c) := (rise_work s c).duties

/-! ## The Order Transactor -/

theorem requestOrder_duties (s : State) (u : UnitNo) (k : OrderKind) (v : Option Nat) (w : Owner) (st : Option (Fin 32)) :
    Duties s (requestOrder s u k v w st).1 := by
  have spec := (requestOrder_spec s u k v w st).2
  cases judged : judgeRequest s u k w with
  | created i =>
    rw [judged] at spec
    exact (Duty.orderMade judged spec).duties
  | coalesced i =>
    simp only [judged] at spec
    rw [spec]
    exact (Duty.coalesced v judged).duties
  | refused why =>
    cases why with
    | noSlot =>
      simp only [judged] at spec
      rw [spec]
      split
      · exact .rise s _
      · exact .refl s
    | wrongMode | notPermitted | held | noCredit =>
      simp only [judged] at spec
      rw [spec]
      exact .refl s

theorem requestOrder_eq_duties {s s' : State} {u : UnitNo} {k : OrderKind} {v : Option Nat} {w : Owner} {st : Option (Fin 32)}
    {a : Answer} (h : requestOrder s u k v w st = (s', a)) : Duties s s' := by
  have := requestOrder_duties s u k v w st
  rwa [h] at this

theorem freed_duties (s : State) (i : SlotNo) : Duties s (pump (refill (freeSlotAt s i))) :=
  (Duty.freed s i).duties.trans (freed_work s i).duties

theorem endOrder_duties (s : State) (i : SlotNo) (o : Order) (e : OrderEnd) : Duties s (endOrder s i o e) :=
  (freed_duties s i).trans (.deferAll _ _)

theorem withdraw_duties {s s' : State} {i : SlotNo} {w : Owner} {u : UnitNo} {k : OrderKind} {o : Option Order}
    (h : withdraw s i w u k = (s', o)) : Duties s s' := by
  rcases withdraw_spec s i w u k with ⟨kept, -⟩ | ⟨_, -, -, -, -, work⟩
  · obtain ⟨rfl, -⟩ := Prod.mk.inj (kept.symm.trans h)
    exact .refl _
  · rw [h] at work
    exact (Duty.freed s i).duties.trans work.duties

theorem freeAll_duties (s : State) (ends : List (SlotNo × Order × OrderEnd)) :
    Duties s (ends.foldl (fun s x => freeSlotAt s x.1) s) :=
  .foldl fun t _ x _ => (Duty.freed t x.1).duties

theorem endMany_duties (s : State) (ends : List (SlotNo × Order × OrderEnd)) (after : List Task) :
    Duties s (endMany s ends after) :=
  (freeAll_duties s ends).trans (((refill_work _).trans (pump_work _)).duties.trans (.deferAll _ _))

theorem mem_occupiedOrders {s : State} {i : SlotNo} {o : Order} : (i, o) ∈ occupiedOrders s ↔ s.slot i = some o := by
  simp only [occupiedOrders, List.mem_filterMap, Option.map_eq_some_iff, Prod.mk.injEq]
  constructor
  · rintro ⟨_, -, _, there, rfl, rfl⟩
    exact there
  · exact fun there => ⟨i, mem_allSlots i, o, there, rfl, rfl⟩

/-- Each occupied slot is listed once. -/
theorem occupiedOrders_nodup (s : State) : ((occupiedOrders s).map Prod.fst).Nodup := by
  have listed : ∀ l : List SlotNo,
      ((l.filterMap fun i => (s.slot i).map fun o => (i, o)).map Prod.fst).Sublist l := by
    intro l
    induction l with
    | nil => exact .slnil
    | cons i l ih =>
      cases there : s.slot i with
      | none => simpa [there] using ih.cons i
      | some o => simpa [there] using ih.cons_cons i
  exact (List.nodup_finRange 12).sublist (listed allSlots)

/-- An owed copy dropped, one slot's (R79). -/
def dropOne (s : State) (x : SlotNo × Order) : State :=
  if x.2.pendingPort.isSome then (s.dequeue x.1).setSlot x.1 (some { x.2 with pendingPort := none }) else s

theorem dropOne_slot_ne {j : SlotNo} {x : SlotNo × Order} (other : j ≠ x.1) (s : State) : (dropOne s x).slot j = s.slot j := by
  unfold dropOne
  split
  · rw [slot_setSlot_ne other, slot_dequeue]
  · rfl

theorem dropOne_work {s : State} {x : SlotNo × Order} (there : s.slot x.1 = some x.2) : PortWork s (dropOne s x) := by
  unfold dropOne
  split
  · have dequeued : PortWork s (s.dequeue x.1) :=
      (((portWork_setQueue s .urgent (s.egress.urgent.filter (· != x.1))).trans
        (portWork_setQueue _ .dispatch (s.egress.dispatch.filter (· != x.1)))).trans
        (portWork_setQueue _ .setpoint (s.egress.setpoint.filter (· != x.1)))).trans (portWork_leaveWaiting _ x.1)
    exact dequeued.trans (portWork_setSlot there rfl fun sent _ => ⟨sent, rfl⟩)
  · exact .refl s

theorem dropOwed_work (s : State) : PortWork s (dropOwed s) := by
  have main : ∀ (l : List (SlotNo × Order)) (t : State), (l.map Prod.fst).Nodup → (∀ x ∈ l, t.slot x.1 = some x.2) →
      PortWork t (l.foldl dropOne t) := by
    intro l
    induction l with
    | nil => exact fun t _ _ => .refl t
    | cons x l ih =>
      intro t once there
      obtain ⟨fresh, once⟩ := List.nodup_cons.mp once
      refine (dropOne_work (there x List.mem_cons_self)).trans (ih _ once fun y listed => ?_)
      have other : y.1 ≠ x.1 := fun same => fresh (same ▸ List.mem_map_of_mem listed)
      rw [dropOne_slot_ne other]
      exact there y (List.mem_cons_of_mem _ listed)
  exact main _ s (occupiedOrders_nodup s) fun x listed => mem_occupiedOrders.mp listed

theorem discardOrders_duties (s : State) : Duties s (discardOrders s) := (dropOwed_work s).duties.trans (endMany_duties _ _ _)

theorem cancelOrders_duties (s : State) (sc : Scope) : Duties s (cancelOrders s sc) := endMany_duties _ _ _

theorem recordCancelled_duties (s : State) (sc : Scope) (c : Cancelled) : Duties s (recordCancelled s sc c) := by
  unfold recordCancelled
  split
  · exact .refl s
  · exact .record _ _ _ _ _

/-! ## The Allocator -/

theorem takeAnswer_duties (s : State) (u : UnitNo) (cap : Option Nat) (a : Answer) : Duties s (takeAnswer s u cap a) := by
  cases a with
  | created i | coalesced i => exact (Duty.pv s u _).duties
  | refused why => exact .refl s

theorem askCap_duties (s : State) (u : UnitNo) (cap : Option Nat) : Duties s (askCap s u cap) := by
  unfold askCap
  split
  · exact .refl s
  · exact (requestOrder_duties _ _ _ _ _ _).trans (takeAnswer_duties _ _ _ _)

theorem askProposal_duties (s : State) (x : UnitNo × Proposal) : Duties s (askProposal s x) := by
  unfold askProposal
  split
  · exact .refl s
  · exact askCap_duties _ _ _
  · exact askCap_duties _ _ _

theorem askAll_duties (s : State) (propose : UnitNo → Proposal) : Duties s (askAll s propose) :=
  .foldl fun t _ x _ => askProposal_duties t x

theorem noteShortfall_duties (s : State) (shortfall n : Nat) : Duties s (noteShortfall s shortfall n) := by
  unfold noteShortfall
  simp only
  split
  · exact (Duties.alloc s _).trans ((Duties.record _ _ _ _ _).trans (.rise _ _))
  · exact .alloc s _

theorem allocatorCompletion_duties (s : State) : Duties s (allocatorCompletion s) := by
  unfold allocatorCompletion
  split
  · exact .alloc s _
  · exact .alloc s _
  · exact (askAll_duties s _).trans (noteShortfall_duties _ _ _)
  · exact (askAll_duties s _).trans (noteShortfall_duties _ _ _)

theorem limitSweep_duties (s : State) (pct : Nat) : Duties s (limitSweep s pct) := (Duties.alloc s _).trans (askAll_duties _ _)

theorem dropLimit_duties (s : State) : Duties s (dropLimit s) := .alloc s _

theorem allocatorEnd_duties (s : State) (o : Order) (e : OrderEnd) : Duties s (allocatorEnd s o e) := (Duty.pv s _ _).duties

theorem allocatorReading_duties (s : State) (u : UnitNo) : Duties s (allocatorReading s u) := by
  unfold allocatorReading
  simp only
  split
  · exact (Duty.pv s _ _).duties
  · exact .refl s

/-! ## Dispatch states -/

theorem setUnit_setUnit (s : State) (u : UnitNo) (r r' : UnitRec) : (s.setUnit u r).setUnit u r' = s.setUnit u r' := by
  simp [State.setUnit]

theorem setGenset_setGenset (s : State) (u : UnitNo) (j j' : GensetJob) :
    (s.setGenset u j).setGenset u j' = s.setGenset u j' := by
  simp [State.setGenset, setUnit_setUnit]

@[simp] theorem unit_setGenset_self (s : State) (u : UnitNo) (j : GensetJob) :
    (s.setGenset u j).unit u = { s.unit u with gensetJob := j } := by
  rw [unit_setGenset, if_pos rfl]

/-- A gen-set whose items are rewritten enters a dispatch state (R123, R128). -/
theorem enterDispatch_setGenset_duties {s : State} {u : UnitNo} (items : HasGensetItems (s.unit u)) (j : GensetJob)
    (d : DispatchState) : Duties s (enterDispatch (s.setGenset u j) u d) := by
  have entered : Duties s (((s.setGenset u j).setGenset u { j with dispatch := d }).setDispatcher
      { s.dispatcher with commit := commitAfter s.dispatcher.commit u d }) := by
    rw [setGenset_setGenset]
    exact (Duty.gensetEnters s u { j with dispatch := d } items).duties
  unfold enterDispatch
  simp only [unit_setGenset_self]
  split
  · exact entered.trans (.defer _ _)
  · exact entered

theorem setGenset_same (s : State) (u : UnitNo) : s.setGenset u (s.unit u).gensetJob = s := by
  have same : s.units.set u (s.unit u) = s.units := by
    ext i hi : 1
    rw [Vector.getElem_set]
    split
    · next e => subst e; rfl
    · rfl
  simp [State.setGenset, State.setUnit, same]

theorem enterDispatch_duties {s : State} {u : UnitNo} (items : HasGensetItems (s.unit u)) (d : DispatchState) :
    Duties s (enterDispatch s u d) := by
  have := enterDispatch_setGenset_duties items (s.unit u).gensetJob d
  rwa [setGenset_same] at this

theorem judgeAvailability_duties (s : State) (u : UnitNo) : Duties s (judgeAvailability s u) := by
  unfold judgeAvailability
  simp only
  split
  · next judged =>
    simp only [Bool.and_eq_true, beq_iff_eq] at judged
    exact enterDispatch_duties (.inl judged.1) _
  · exact .refl s

theorem enterStopped_setGenset_duties {s : State} {u : UnitNo} (items : HasGensetItems (s.unit u)) (j : GensetJob) :
    Duties s (enterStopped (s.setGenset u j) u) :=
  (enterDispatch_setGenset_duties items j .stopped).trans (judgeAvailability_duties _ _)

theorem setGenset_duties {s : State} {u : UnitNo} (items : HasGensetItems (s.unit u)) {j : GensetJob}
    (same : j.dispatch = (s.unit u).gensetJob.dispatch) : Duties s (s.setGenset u j) :=
  (Duty.gensetItems s u j items same).duties

theorem hasGensetItems_of_dispatch {r : UnitRec} {d : DispatchState} (h : r.gensetJob.dispatch = d) (ne : d ≠ .stopped) :
    HasGensetItems r :=
  .inr fun empty => ne (by rw [← h, empty])

theorem hasGensetItems_of_openOrder {r : UnitRec} {x : OpenOrder} (h : r.gensetJob.openOrder = some x) : HasGensetItems r :=
  .inr fun empty => by simp [empty] at h

theorem dispatchIs_iff {r : UnitRec} {d : DispatchState} :
    r.dispatchIs d = true ↔ r.kind = .genset ∧ r.gensetJob.dispatch = d := by
  simp [UnitRec.dispatchIs]

theorem hasGensetItems_of_dispatchIs {r : UnitRec} {d : DispatchState} (h : r.dispatchIs d = true) : HasGensetItems r :=
  .inl (dispatchIs_iff.mp h).1

/-! ## Starting -/

theorem startCreated_duties {s : State} {u : UnitNo} (items : HasGensetItems (s.unit u)) (i : SlotNo) (w : Owner) :
    Duties s (startCreated s u i w) := enterDispatch_setGenset_duties items _ _

theorem setRetry_duties (s : State) (b : Bool) : Duties s (setRetry s b) := (Duty.startRetry s b).duties

theorem askStarts_duties (us : List UnitNo) (s : State) (credit : Bool) (gensets : ∀ u ∈ us, (s.unit u).kind = .genset) :
    Duties s (askStarts s credit us) := by
  induction us generalizing s credit with
  | nil =>
    unfold askStarts
    split
    · exact setRetry_duties s true
    · exact .refl s
  | cons u us ih =>
    have rest {s' : State} (m : Duties s s') : ∀ v ∈ us, (s'.unit v).kind = .genset := fun v listed =>
      (m.frame.kind v).trans (gensets v (List.mem_cons_of_mem _ listed))
    unfold askStarts
    split
    next s' i asked =>
      have asking := requestOrder_eq_duties asked
      exact asking.trans (startCreated_duties (.inl ((asking.frame.kind u).trans (gensets u List.mem_cons_self))) _ _)
    next s' asked =>
      have asking := requestOrder_eq_duties asked
      exact asking.trans (ih _ _ (rest asking))
    next s' asked =>
      have asking := requestOrder_eq_duties asked
      exact asking.trans (ih _ _ (rest asking))
    next s' asked => exact (requestOrder_eq_duties asked).trans (setRetry_duties _ _)
    next s' _ _ _ _ _ asked => exact requestOrder_eq_duties asked

theorem mem_startCandidates {s : State} {u : UnitNo} (h : u ∈ startCandidates s) : (s.unit u).dispatchIs .stopped = true := by
  have listed := (sortBy_perm _ _).mem_iff.mp h
  simp only [List.mem_filter, Bool.and_eq_true] at listed
  exact listed.2.1.1.1

theorem startDecision_duties (s : State) : Duties s (startDecision s) := by
  unfold startDecision
  simp only
  refine (setRetry_duties s false).trans ?_
  split
  · split
    · exact .rise _ _
    · exact askStarts_duties _ _ _ fun u listed => (dispatchIs_iff.mp (mem_startCandidates listed)).1
  · exact .refl _

theorem planStartRequest_duties {s s' : State} {u : UnitNo} {st : Fin 32} {a : PlanStart}
    (h : planStartRequest s u st = (s', a)) : Duties s s' := by
  unfold planStartRequest at h
  split at h
  · cases h; exact .refl s
  next isGenset =>
    have kind : (s.unit u).kind = .genset := by simpa using isGenset
    split at h
    · cases h; exact .refl s
    · cases h; exact .refl s
    · cases h; exact .refl s
    · split at h
      · cases h; exact .refl s
      · split at h
        next asked =>
          cases h
          have asking := requestOrder_eq_duties asked
          exact asking.trans (startCreated_duties (.inl ((asking.frame.kind u).trans kind)) _ _)
        next asked => cases h; exact requestOrder_eq_duties asked
        next asked => cases h; exact requestOrder_eq_duties asked
    · cases h; exact .refl s

theorem failedAttempt_duties {s : State} {u : UnitNo} (items : HasGensetItems (s.unit u)) (cause : Nat) :
    Duties s (failedAttempt s u cause) := by
  unfold failedAttempt
  simp only
  refine .trans ?_ (judgeAvailability_duties _ u)
  split
  · exact (enterDispatch_setGenset_duties items _ _).trans ((Duties.record _ _ _ _ _).trans (.record _ _ _ _ _))
  · exact (enterDispatch_setGenset_duties items _ _).trans (.record _ _ _ _ _)

theorem startSucceeds_duties {s : State} {u : UnitNo} (items : HasGensetItems (s.unit u)) : Duties s (startSucceeds s u) :=
  (enterDispatch_setGenset_duties items _ _).trans (.record _ _ _ _ _)

theorem enterStarting_duties {s : State} {u : UnitNo} (items : HasGensetItems (s.unit u)) : Duties s (enterStarting s u) :=
  enterDispatch_setGenset_duties items _ _

/-- What entering a dispatch state does to the gen-set's own items. -/
theorem enterDispatch_unit_self (s : State) (u : UnitNo) (d : DispatchState) :
    (enterDispatch s u d).unit u = { s.unit u with gensetJob := { (s.unit u).gensetJob with dispatch := d } } := by
  unfold enterDispatch
  simp only
  split <;> exact unit_setUnit_self s u _

theorem enterStarting_items (s : State) (u : UnitNo) : HasGensetItems ((enterStarting s u).unit u) :=
  hasGensetItems_of_dispatch (d := .starting) (by rw [enterStarting, enterDispatch_unit_self]) (by decide)

theorem startingReading_duties {s : State} {u : UnitNo} (items : HasGensetItems (s.unit u)) : Duties s (startingReading s u) := by
  unfold startingReading
  split
  · exact startSucceeds_duties items
  · split
    · exact failedAttempt_duties items 4
    · exact .refl s

/-- The end of a START at a START_PENDING gen-set (R129). -/
theorem startOrderEnd_duties {s : State} {u : UnitNo} (pending : (s.unit u).gensetJob.dispatch = .startPending) (e : OrderEnd) :
    Duties s (startOrderEnd s u e) := by
  have items : HasGensetItems (s.unit u) := hasGensetItems_of_dispatch pending (by decide)
  have cleared : Duties s (s.setGenset u { (s.unit u).gensetJob with openOrder := none }) := setGenset_duties items rfl
  have still : HasGensetItems ((s.setGenset u { (s.unit u).gensetJob with openOrder := none }).unit u) :=
    hasGensetItems_of_dispatch (d := .startPending) (by simpa using pending) (by decide)
  refine cleared.trans ?_
  unfold startOrderEnd
  cases e with
  | accept =>
    simp only
    refine (enterStarting_duties still).trans ?_
    split
    · exact startSucceeds_duties (enterStarting_items _ _)
    · exact .refl _
  | refuse _ => exact failedAttempt_duties still 1
  | timedOut => exact failedAttempt_duties still 2
  | unsent _ => exact (enterDispatch_duties still _).trans (judgeAvailability_duties _ _)
  | outcomeUnknown => exact setGenset_duties still rfl

theorem startSettling_duties {s : State} {u : UnitNo} (items : HasGensetItems (s.unit u)) : Duties s (startSettling s u) := by
  have started : Duties s (startingReading (enterStarting s u) u) :=
    (enterStarting_duties items).trans (startingReading_duties (enterStarting_items s u))
  unfold startSettling
  split
  · exact started
  · exact started
  · exact enterStopped_setGenset_duties items _

/-! ## Stopping -/

theorem enterStopping_duties {s : State} {u : UnitNo} (items : HasGensetItems (s.unit u)) : Duties s (enterStopping s u) :=
  enterDispatch_setGenset_duties items _ _

theorem stopEnds_duties {s : State} {u : UnitNo} (items : HasGensetItems (s.unit u)) (detail : Nat) :
    Duties s (stopEnds s u detail) := by
  unfold stopEnds
  simp only
  split
  · exact (enterDispatch_setGenset_duties items _ _).trans (.record _ _ _ _ _)
  · exact (enterDispatch_setGenset_duties items _ _).trans ((Duties.record _ _ _ _ _).trans (judgeAvailability_duties _ _))

theorem enterStopping_items (s : State) (u : UnitNo) : HasGensetItems ((enterStopping s u).unit u) :=
  hasGensetItems_of_dispatch (d := .stopping) (by rw [enterStopping, enterDispatch_unit_self]) (by decide)

theorem stopOrderEnd_duties {s : State} {u : UnitNo} (items : HasGensetItems (s.unit u)) (e : OrderEnd) :
    Duties s (stopOrderEnd s u e) := by
  have cleared : Duties s (s.setGenset u { (s.unit u).gensetJob with openOrder := none }) := setGenset_duties items rfl
  unfold stopOrderEnd
  simp only [unit_setGenset_self]
  split
  · exact cleared
  next pending =>
    have dispatch : (s.unit u).gensetJob.dispatch = .stopPending := by simpa using pending
    have still : HasGensetItems ((s.setGenset u { (s.unit u).gensetJob with openOrder := none }).unit u) :=
      hasGensetItems_of_dispatch (d := .stopPending) (by simpa using dispatch) (by decide)
    refine cleared.trans ?_
    split
    · refine (enterStopping_duties still).trans ?_
      split
      · exact stopEnds_duties (enterStopping_items _ _) 1
      · exact .refl _
    · exact setGenset_duties still (by simp)
    · exact enterDispatch_duties still _

theorem dispatcherEnd_duties (s : State) (i : SlotNo) (o : Order) (e : OrderEnd) : Duties s (dispatcherEnd s i o e) := by
  unfold dispatcherEnd
  simp only
  split
  · exact .refl s
  next x opened =>
    have items := hasGensetItems_of_openOrder opened
    split
    · exact .refl s
    · split
      · split
        next pending => exact startOrderEnd_duties (by simpa using pending) e
        next => exact setGenset_duties items rfl
      · exact stopOrderEnd_duties items e

/-- A withdrawal leaves every unit record as it was. -/
theorem withdraw_unit {s s' : State} {i : SlotNo} {w : Owner} {u : UnitNo} {k : OrderKind} {o : Option Order}
    (h : withdraw s i w u k = (s', o)) (v : UnitNo) : s'.unit v = s.unit v := by
  rcases withdraw_spec s i w u k with ⟨kept, -⟩ | ⟨_, -, -, -, -, work⟩
  · rw [(Prod.mk.inj (kept.symm.trans h)).1]
  · rw [h] at work
    exact work.unit v

theorem withdrawStop_duties (s : State) (u : UnitNo) : Duties s (withdrawStop s u).1 := by
  unfold withdrawStop
  split
  · exact .refl s
  next x opened =>
    split
    next withdrawn => exact withdraw_duties withdrawn
    next withdrawn =>
      have items := hasGensetItems_of_openOrder opened
      rw [← withdraw_unit withdrawn u] at items
      exact (withdraw_duties withdrawn).trans ((stopOrderEnd_duties items _).trans (.deferAll _ _))

theorem pushAnnounced_duties (s : State) : Duties s (pushAnnounced s) := by
  refine .foldl fun t _ u _ => ?_
  split
  · exact withdrawStop_duties t u
  · exact .refl t

theorem stopGates_items {s : State} {c : UnitNo} (h : stopGates s c = true) : (s.unit c).kind = .genset := by
  simp only [stopGates, Bool.and_eq_true] at h
  exact (dispatchIs_iff.mp h.1.1.1.1.1.1.1.2).1

theorem stopDecision_duties (s : State) : Duties s (stopDecision s) := by
  unfold stopDecision
  split
  · exact .refl s
  next c chosen =>
    split
    · exact .refl s
    next open_ =>
      have genset := stopGates_items (s := s) (c := c) (by simpa using open_)
      split
      next asked =>
        have asking := requestOrder_eq_duties asked
        exact asking.trans (enterDispatch_setGenset_duties (.inl ((asking.frame.kind c).trans genset)) _ _)
      next asked => exact requestOrder_eq_duties asked

theorem judgeAll_duties (s : State) : Duties s (allUnits.foldl judgeAvailability s) :=
  .foldl fun t _ u _ => judgeAvailability_duties t u

theorem dispatcherCompletion_duties (s : State) : Duties s (dispatcherCompletion s) := by
  unfold dispatcherCompletion
  simp only
  split
  · exact (judgeAll_duties s).trans ((startDecision_duties _).trans (stopDecision_duties _))
  · exact judgeAll_duties s

theorem dispatcherRelease_duties (s : State) : Duties s (dispatcherRelease s) := by
  unfold dispatcherRelease
  split
  · exact startDecision_duties s
  · exact .refl s

/-! ## Running gen-sets -/

theorem adopt_duties {s : State} {u : UnitNo} (items : HasGensetItems (s.unit u)) : Duties s (adopt s u) :=
  (enterDispatch_setGenset_duties items _ _).trans (.record _ _ _ _ _)

theorem tripState_duties {s : State} {u : UnitNo} (items : HasGensetItems (s.unit u)) (lost : Int) :
    Duties s (tripState s u lost) := by
  unfold tripState
  simp only
  refine .trans ?_ (judgeAvailability_duties _ u)
  split
  · exact (enterDispatch_setGenset_duties items _ _).trans ((Duties.record _ _ _ _ _).trans (.record _ _ _ _ _))
  · exact (enterDispatch_setGenset_duties items _ _).trans (.record _ _ _ _ _)

theorem releaseLockout_duties {s : State} {u : UnitNo} (items : HasGensetItems (s.unit u)) : Duties s (releaseLockout s u) := by
  unfold releaseLockout
  simp only
  split
  · exact enterStopped_setGenset_duties items _
  · refine .trans ?_ (judgeAvailability_duties _ u)
    exact setGenset_duties items rfl

end Sys2Proof.Machine
end

section
/-! The operations of the Shed Controller are chains of moves. -/

namespace Sys2Proof.Machine

theorem Moves.record (s : State) (k : EventKind) (u : Option UnitNo) (v : Option Int) (d : Option Nat) :
    Moves s (record s k u v d) := (record_work s k u v d).moves

theorem Moves.rise (s : State) (c : Condition) : Moves s (rise s c) := (rise_work s c).moves

theorem Moves.defer (s : State) (t : Task) : Moves s (s.defer t) := (Duties.defer s t).moves

theorem Moves.deferAll (s : State) (l : List Task) : Moves s (s.deferAll l) := (Duties.deferAll s l).moves

theorem requestOrder_moves {s s' : State} {u : UnitNo} {k : OrderKind} {v : Option Nat} {w : Owner} {st : Option (Fin 32)}
    {a : Answer} (h : requestOrder s u k v w st = (s', a)) : Moves s s' := (requestOrder_eq_duties h).moves

/-! ## Records with Shed Controller items -/

/-- A feeder, or a record in a shed state that an empty record is not in. No change of the other items loses it. -/
def Tracked (r : UnitRec) : Prop := r.kind = .feeder ∨ r.feederJob.shed ≠ .unknown

theorem Tracked.items {r : UnitRec} (h : Tracked r) : HasFeederItems r :=
  h.imp id fun known empty => known (by rw [empty])

theorem Tracked.of_shed {r : UnitRec} {x : ShedState} (h : r.feederJob.shed = x) (known : x ≠ .unknown) : Tracked r :=
  .inr (h ▸ known)

@[simp] theorem unit_setFeeder_self (s : State) (u : UnitNo) (j : FeederJob) :
    (s.setFeeder u j).unit u = { s.unit u with feederJob := j } := by
  rw [unit_setFeeder, if_pos rfl]

theorem setFeeder_same (s : State) (u : UnitNo) : s.setFeeder u (s.unit u).feederJob = s := by
  have same : s.units.set u (s.unit u) = s.units := by
    ext i hi : 1
    rw [Vector.getElem_set]
    split
    · next e => subst e; rfl
    · rfl
  simp [State.setFeeder, State.setUnit, same]

theorem setFeeder_moves {s : State} {u : UnitNo} (tracked : Tracked (s.unit u)) {j : FeederJob}
    (same : j.shed = (s.unit u).feederJob.shed) : Moves s (s.setFeeder u j) :=
  (Move.feederItems s u j tracked.items same).moves

theorem Tracked.setFeeder {s : State} {u : UnitNo} (h : Tracked (s.unit u)) {j : FeederJob}
    (same : j.shed = (s.unit u).feederJob.shed) : Tracked ((s.setFeeder u j).unit u) := by
  rw [unit_setFeeder_self]
  exact h.imp id fun known => same ▸ known

/-! ## Shed states, the stack and the predictive record -/

theorem shedItems_moves {s : State} {b : Shed} (stages : b.stages = s.shed.stages) (stack : b.stack = s.shed.stack)
    (pending : b.pending.Sublist s.shed.pending) : Moves s (s.setShedBlock b) :=
  (Move.shedItems s b stages stack pending).moves

theorem tidyPredictive_moves (s : State) : Moves s (tidyPredictive s) := by
  obtain ⟨p, tidied⟩ := tidyPredictive_eq s
  rw [tidied]
  exact shedItems_moves rfl rfl (.refl _)

theorem setPredictive_moves (s : State) (p : Option Predictive) : Moves s (s.setShedBlock { s.shed with predictive := p }) :=
  shedItems_moves rfl rfl (.refl _)

theorem setShed_leaves_moves {s : State} {u : UnitNo} {x : ShedState} (tracked : Tracked (s.unit u))
    (out : stacked x = false) : Moves s (setShed s u x) := (Move.shedLeaves s u x tracked.items out).moves

theorem setShed_stays_moves {s : State} {u : UnitNo} {x : ShedState} (stays : StaysStacked s u x) (on : stacked x = true) :
    Moves s (setShed s u x) := (Move.shedStays s u x stays on).moves

/-- A feeder entered into a stacked state, its items rewritten, is pushed (R142). -/
theorem push_moves {s : State} {u : UnitNo} {x : ShedState} (may : MayBePushed s u) (on : stacked x = true) {j : FeederJob}
    (entered : j.shed = x) (cause : ShedCause) : Moves s (push ((setShed s u x).setFeeder u j) u cause) :=
  (Move.shedJoins s u x j _ may on entered rfl).moves.trans (pushAnnounced_duties _).moves

theorem clearFeederWork_moves {s : State} {u : UnitNo} (tracked : Tracked (s.unit u)) : Moves s (clearFeederWork s u) :=
  setFeeder_moves tracked rfl

theorem stateByBreaker_out (s : State) (u : UnitNo) : stacked (stateByBreaker s u) = false := by
  unfold stateByBreaker
  split <;> rfl

/-! ## Choosing feeders -/

/-- The feeders chosen are the first of the candidates. -/
theorem chooseFeeders_prefix (s : State) (amount covered : Int) (us : List UnitNo) :
    (chooseFeeders s amount covered us).1 <+: us := by
  induction us generalizing covered with
  | nil => exact List.prefix_refl []
  | cons u us ih =>
    unfold chooseFeeders
    split
    · exact (List.prefix_cons_inj u).mpr (ih _)
    · exact List.nil_prefix

/-- Feeders that a shed may take, in ascending priority, may be added to the pending list, and so may any of them. -/
theorem addPending_moves {s : State} {p : UnitNo → Bool} (hp : ∀ u : UnitNo, p u = true → canShed s u = true)
    {us : List UnitNo} (chosen : us.Sublist (byPriority s (allUnits.filter p))) (cause : ShedCause) :
    Moves s (addPending s us cause) := by
  have sorted := sortBy_perm (fun u => (s.unit u).feeder.priority) (allUnits.filter p)
  have once : (byPriority s (allUnits.filter p)).Nodup := sorted.nodup_iff.mpr ((List.nodup_finRange 64).filter _)
  refine (Move.pendingAdded s us cause (once.sublist chosen) fun u listed => hp u ?_).moves
  exact (List.mem_filter.mp (sorted.mem_iff.mp (chosen.subset listed))).2

theorem replaceChosen_moves (s : State) (p : Predictive) (u : UnitNo) (load : Nat) : Moves s (replaceChosen s p u load) := by
  unfold replaceChosen
  split
  · exact .refl s
  · simp only
    have added := addPending_moves (s := s) (p := fun v => canShed s v && !(p.failed ++ [u]).contains v)
      (fun v may => (Bool.and_eq_true_iff.mp may).1)
      (chooseFeeders_prefix s p.amount (p.covered - load) (shedCandidates s (p.failed ++ [u]))).sublist .predictive
    split
    · refine .trans (.trans ?_ (tidyPredictive_moves _)) (.rise _ _)
      exact added.trans (shedItems_moves rfl rfl (.refl _))
    · refine .trans ?_ (tidyPredictive_moves _)
      exact added.trans (shedItems_moves rfl rfl (.refl _))

theorem replaceIfChosen_moves (s : State) (p : Option Predictive) (u : UnitNo) (load : Nat) :
    Moves s (replaceIfChosen s p u load) := by
  cases p with
  | none => exact .refl s
  | some p => exact replaceChosen_moves s p u load

/-! ## Serving the pending shed list -/

theorem pendingOpened_moves {s : State} {e : PendingShed} (waits : isPending s e.feeder = true) (i : SlotNo) :
    Moves s (pendingOpened s e i) := by
  refine push_moves (.inl waits) rfl ?_ e.cause
  rw [unit_setShed, if_pos rfl]
  rfl

theorem pendingRefused_moves (s : State) (e : PendingShed) : Moves s (pendingRefused s e) := by
  have dropped : Moves s (tidyPredictive (s.setShedBlock
      { s.shed with pending := s.shed.pending.filter fun x => x.feeder != e.feeder })) := by
    refine .trans ?_ (tidyPredictive_moves _)
    exact shedItems_moves rfl rfl List.filter_sublist
  unfold pendingRefused
  simp only
  split
  · exact dropped.trans (replaceIfChosen_moves _ _ _ _)
  · exact dropped

theorem dropPending_moves (s : State) : Moves s (dropPending s) := by
  refine .trans ?_ (tidyPredictive_moves _)
  exact shedItems_moves rfl rfl (List.nil_sublist _)

theorem serveN_moves (n k : Nat) (s : State) : Moves s (serveN n k s) := by
  induction n generalizing k s with
  | zero => exact .refl s
  | succ n ih =>
    unfold serveN
    split
    · exact .refl s
    next e found =>
      split
      next s' i asked =>
        have asking := requestOrder_eq_duties asked
        have waits : isPending s' e.feeder = true := by
          rw [isPending_iff, asking.apart.shed]
          exact List.mem_map_of_mem (List.mem_of_getElem? found)
        exact asking.moves.trans ((pendingOpened_moves waits i).trans (ih _ _))
      next asked => exact (requestOrder_moves asked).trans (ih _ _)
      next asked => exact (requestOrder_moves asked).trans (ih _ _)
      next asked => exact requestOrder_moves asked
      next asked => exact (requestOrder_moves asked).trans (dropPending_moves _)
      next asked => exact (requestOrder_moves asked).trans ((pendingRefused_moves _ e).trans (ih _ _))

theorem servePending_moves (s : State) : Moves s (servePending s) := serveN_moves _ _ s

/-- Feeders that a shed may take are added to the list, and the list is served. -/
theorem shedFeeders_moves {s : State} {p : UnitNo → Bool} (hp : ∀ u : UnitNo, p u = true → canShed s u = true)
    {us : List UnitNo} (chosen : us.Sublist (byPriority s (allUnits.filter p))) (cause : ShedCause) :
    Moves s (shedFeeders s us cause) := by
  unfold shedFeeders
  split
  · exact .refl s
  · exact (addPending_moves hp chosen cause).trans (servePending_moves _)

/-! ## Ends of orders -/

theorem shedFailed_moves {s : State} {u : UnitNo} (tracked : Tracked (s.unit u)) (detail : Nat) :
    Moves s (shedFailed s u detail) := by
  have replaced : Moves s (replaceIfChosen (record (setShed s u (stateByBreaker s u)) .shedFailed (some u)
      (some (loadAtShed s u : Int)) (some detail)) s.shed.predictive u (loadAtShed s u)) :=
    (setShed_leaves_moves tracked (stateByBreaker_out s u)).trans ((Moves.record _ _ _ _ _).trans
      (replaceIfChosen_moves _ _ _ _))
  unfold shedFailed
  simp only
  split
  · exact replaced.trans (servePending_moves _)
  · exact replaced

theorem openEnd_moves {s : State} {u : UnitNo} (opening : (s.unit u).feederJob.shed = .opening) (e : OrderEnd) :
    Moves s (openEnd s u e) := by
  have tracked := Tracked.of_shed opening (by decide)
  cases e with
  | accept => exact setShed_stays_moves (.inr (.inl opening)) rfl
  | refuse _ => exact shedFailed_moves tracked 1
  | timedOut => exact shedFailed_moves tracked 2
  | unsent _ => exact setShed_leaves_moves tracked (stateByBreaker_out s u)
  | outcomeUnknown => exact setFeeder_moves tracked rfl

theorem restoreSucceeds_moves {s : State} {u : UnitNo} (tracked : Tracked (s.unit u)) : Moves s (restoreSucceeds s u) := by
  refine .trans (.trans (clearFeederWork_moves tracked) ?_) (.record _ _ _ _ _)
  exact setShed_leaves_moves (tracked.setFeeder rfl) rfl

theorem restoreReturns_moves {s : State} {u : UnitNo} (tracked : Tracked (s.unit u)) : Moves s (restoreReturns s u) := by
  refine (clearFeederWork_moves tracked).trans ?_
  unfold restoreReturns
  split
  next there => exact setShed_stays_moves (.inl there) rfl
  next => exact setShed_leaves_moves (tracked.setFeeder rfl) rfl

theorem restoreFails_moves {s : State} {u : UnitNo} (tracked : Tracked (s.unit u)) : Moves s (restoreFails s u) := by
  unfold restoreFails
  split
  · exact restoreReturns_moves tracked
  next there =>
    have on : onStack s u = true := by simpa using there
    simp only
    have cleared := clearFeederWork_moves tracked
    have still : Tracked ((clearFeederWork s u).unit u) := tracked.setFeeder rfl
    have counted : Moves s ((clearFeederWork s u).setFeeder u { ((clearFeederWork s u).unit u).feederJob with
        restoreFail := bump 2 ((clearFeederWork s u).unit u).feederJob.restoreFail }) :=
      cleared.trans (setFeeder_moves still rfl)
    split
    · refine .trans (counted.trans ?_) (.record _ _ _ _ _)
      exact setShed_leaves_moves (still.setFeeder rfl) rfl
    · exact counted.trans (setShed_stays_moves (.inl on) rfl)

theorem closeEnd_moves {s : State} {u : UnitNo} (restoring : (s.unit u).feederJob.shed = .restoring) (e : OrderEnd) :
    Moves s (closeEnd s u e) := by
  have tracked := Tracked.of_shed restoring (by decide)
  cases e with
  | accept =>
    have timed : Moves s (s.setFeeder u
        { (s.unit u).feederJob with deadline := some (s.later (s.unit u).feeder.restoreTimeout) }) := setFeeder_moves tracked rfl
    unfold closeEnd
    simp only
    split
    · exact timed.trans (restoreSucceeds_moves (tracked.setFeeder rfl))
    · exact timed
  | refuse _ => exact restoreFails_moves tracked
  | timedOut => exact restoreFails_moves tracked
  | unsent _ => exact restoreReturns_moves tracked
  | outcomeUnknown => exact setFeeder_moves tracked rfl

theorem shedOrderEnd_moves (s : State) (i : SlotNo) (o : Order) (e : OrderEnd) : Moves s (shedOrderEnd s i o e) := by
  unfold shedOrderEnd
  simp only
  split
  · exact .refl s
  next x opened =>
    split
    · exact .refl s
    · have items : HasFeederItems (s.unit o.target) := .inr fun empty => by simp [empty] at opened
      have cleared : Moves s (s.setFeeder o.target { (s.unit o.target).feederJob with openOrder := none }) :=
        (Move.feederItems s o.target { (s.unit o.target).feederJob with openOrder := none } items rfl).moves
      split
      next opening => exact cleared.trans (openEnd_moves opening e)
      next restoring => exact cleared.trans (closeEnd_moves restoring e)
      next => exact cleared

/-! ## Stage shedding and the ROCOF trigger -/

theorem setTimer_moves (s : State) (n : Fin 6) (t : Timer) : Moves s (setTimer s n t) := shedItems_moves rfl rfl (.refl _)

theorem stageTripped_moves (s : State) (n : Fin 6) (f detail : Nat) (cause : ShedCause) :
    Moves s (stageTripped s n f detail cause) :=
  (Moves.record _ _ _ _ _).trans
    (shedFeeders_moves (p := fun u => canShed _ u && (UnitRec.feeder (State.unit _ u)).stage == n.val + 1)
      (fun _ may => (Bool.and_eq_true_iff.mp may).1) (.refl _) cause)

theorem takeStage_moves (a : Arrival) (s : State) (n : Fin 6) : Moves s (takeStage a s n) := by
  unfold takeStage
  simp only
  split
  · exact .refl s
  · split
    · exact (setTimer_moves _ _ _).trans (stageTripped_moves _ _ _ _ _)
    · exact setTimer_moves _ _ _

theorem takeTrigger_moves (s : State) (a : Arrival) : Moves s (takeTrigger s a) := by
  unfold takeTrigger
  simp only
  split
  · exact (setTimer_moves _ _ _).trans (stageTripped_moves _ _ _ _ _)
  · exact .refl s

theorem shedArrival_moves (s : State) (a : Arrival) : Moves s (shedArrival s a) := by
  unfold shedArrival
  refine .trans (.trans ?_ (Moves.foldl fun t _ n _ => takeStage_moves a t n)) (takeTrigger_moves _ a)
  exact shedItems_moves rfl rfl (.refl _)

theorem predictiveShed_moves (s : State) (u : UnitNo) (lost : Int) : Moves s (predictiveShed s u lost) := by
  have served : ∀ (amount : Int) (picked : List UnitNo × Int),
      picked = chooseFeeders s amount (coveredNow s) (shedCandidates s []) →
      Moves s (if picked.1.isEmpty then s else shedFeeders (s.setShedBlock { s.shed with
        predictive := some { amount := amount, covered := picked.2, chosen := picked.1 } }) picked.1 .predictive) := by
    intro amount picked found
    split
    · exact .refl s
    · refine .trans (setPredictive_moves s (some { amount := amount, covered := picked.2, chosen := picked.1 })) ?_
      rw [found]
      refine shedFeeders_moves (p := fun v => canShed s v && !([] : List UnitNo).contains v) ?_ ?_ .predictive
      · exact fun v may => (Bool.and_eq_true_iff.mp may).1
      · exact (chooseFeeders_prefix s amount (coveredNow s) (shedCandidates s [])).sublist
  unfold predictiveShed
  simp only
  split
  · exact (served _ _ rfl).trans ((Moves.record _ _ _ _ _).trans (.rise _ _))
  · exact (served _ _ rfl).trans (.record _ _ _ _ _)

/-! ## Feeder readings -/

theorem settleOpening_moves {s : State} {u : UnitNo} (opening : (s.unit u).feederJob.shed = .opening) :
    Moves s (settleOpening s u) := by
  have tracked := Tracked.of_shed opening (by decide)
  have settled : Moves s (s.setFeeder u { (s.unit u).feederJob with settling := none }) := setFeeder_moves tracked rfl
  refine settled.trans ?_
  unfold settleOpening
  simp only
  split
  · exact setShed_stays_moves (.inr (.inl (by rw [unit_setFeeder_self]; exact opening))) rfl
  · exact setShed_leaves_moves (tracked.setFeeder rfl) rfl

theorem restoringReading_moves {s : State} {u : UnitNo} (tracked : Tracked (s.unit u)) (closes : Bool) :
    Moves s (restoringReading s u closes) := by
  unfold restoringReading
  simp only
  split
  · split
    · exact restoreSucceeds_moves tracked
    · exact restoreReturns_moves tracked
  · split
    · exact restoreSucceeds_moves tracked
    · exact .refl s

theorem feederReading_moves {s : State} {u : UnitNo} (feeder : (s.unit u).kind = .feeder) (before : Breaker) (was : Freshness) :
    Moves s (feederReading s u before was) := by
  have tracked : Tracked (s.unit u) := .inl feeder
  have enters {x : ShedState} (out : stacked x = false) : Moves s (setShed s u x) := setShed_leaves_moves tracked out
  unfold feederReading
  simp only
  split
  · exact enters (stateByBreaker_out s u)
  · split
    · exact enters rfl
    · exact .refl s
  next opening =>
    split
    · exact settleOpening_moves opening
    · exact .refl s
  · split
    · exact (enters rfl).trans (.record _ _ _ _ _)
    · exact .refl s
  · exact restoringReading_moves tracked _
  · split
    · exact enters rfl
    · exact .refl s
  · split
    · exact enters rfl
    · exact .refl s

/-! ## Restoration -/

theorem closeCreated_moves {s : State} {u : UnitNo} (stays : StaysStacked s u .restoring) (i : SlotNo) (w : Owner) :
    Moves s (closeCreated s u i w) := by
  refine (setShed_stays_moves stays rfl).trans (setFeeder_moves (.of_shed (x := .restoring) ?_ (by decide)) rfl)
  rw [unit_setShed, if_pos rfl]
  rfl

theorem restoreDecision_moves (s : State) : Moves s (restoreDecision s) := by
  unfold restoreDecision
  split
  · exact .refl s
  next e top =>
    simp only
    split
    · split
      next s' i asked =>
        have asking := requestOrder_eq_duties asked
        have on : onStack s' e.feeder = true := by
          rw [onStack_iff, asking.apart.shed]
          exact List.mem_map_of_mem (List.mem_of_getLast? top)
        refine asking.moves.trans ((closeCreated_moves (.inl on) i .shed).trans ?_)
        exact shedItems_moves rfl rfl (.refl _)
      next asked => exact requestOrder_moves asked
    · exact .refl s

theorem shedCompletion_moves (s : State) : Moves s (shedCompletion s) := by
  unfold shedCompletion
  simp only
  split
  · exact (servePending_moves s).trans (restoreDecision_moves _)
  · exact servePending_moves s

/-! ## Release, claims and the plan's release -/

theorem releaseToStack_moves {s : State} {u : UnitNo} (may : MayBePushed s u) (cause : ShedCause) :
    Moves s (releaseToStack s u cause) := by
  refine push_moves may rfl ?_ cause
  rw [unit_setShed, if_pos rfl]
  rfl

theorem claim_moves {s : State} {u : UnitNo} (feeder : (s.unit u).kind = .feeder) : Moves s (claim s u) :=
  (clearFeederWork_moves (.inl feeder)).trans (setShed_leaves_moves (.setFeeder (.inl feeder) rfl) rfl)

theorem shedIs_iff {r : UnitRec} {x : ShedState} : r.shedIs x = true ↔ r.kind = .feeder ∧ r.feederJob.shed = x := by
  simp [UnitRec.shedIs]

theorem push_setShed_moves {s : State} {u : UnitNo} (may : MayBePushed s u) (cause : ShedCause) :
    Moves s (push (setShed s u .shed) u cause) := by
  have entered : ((setShed s u .shed).unit u).feederJob.shed = .shed := by
    rw [unit_setShed, if_pos rfl]
    rfl
  have := push_moves may rfl entered cause
  rwa [setFeeder_same] at this

theorem releaseClaimed_moves {s : State} {u : UnitNo} (held : (s.unit u).shedIs .openPlan = true) (completed : Bool) :
    Moves s (releaseClaimed completed s u) := by
  obtain ⟨feeder, claimed⟩ := shedIs_iff.mp held
  unfold releaseClaimed
  split
  · exact setShed_leaves_moves (.inl feeder) rfl
  · split
    next pushed =>
      have plain : (s.unit u).feeder.essential = false := by
        simp only [Bool.and_eq_true, Bool.not_eq_true'] at pushed
        exact pushed.2
      exact push_setShed_moves (.inr ⟨feeder, plain, by rw [claimed]; rfl⟩) .plan
    · exact setShed_leaves_moves (.inl feeder) rfl

/-- A push leaves every feeder's items as they were. -/
theorem push_feederJob (s : State) (u : UnitNo) (cause : ShedCause) (v : UnitNo) :
    ((push s u cause).unit v).feederJob = (s.unit v).feederJob :=
  (pushAnnounced_duties _).apart.feeders v

theorem releaseClaimed_other {s : State} {u v : UnitNo} (other : v ≠ u) (completed : Bool) :
    ((releaseClaimed completed s u).unit v).feederJob = (s.unit v).feederJob := by
  have entered (x : ShedState) : (setShed s u x).unit v = s.unit v := by rw [unit_setShed, if_neg other]
  unfold releaseClaimed
  split
  · rw [entered]
  · split
    · rw [push_feederJob, entered]
    · rw [entered]

theorem planRelease_moves (s : State) (completed : Bool) : Moves s (planRelease s completed) := by
  have main : ∀ (us : List UnitNo) (t : State), us.Nodup → (∀ u ∈ us, (t.unit u).shedIs .openPlan = true) →
      Moves t (us.foldl (releaseClaimed completed) t) := by
    intro us
    induction us with
    | nil => exact fun t _ _ => .refl t
    | cons u us ih =>
      intro t once held
      obtain ⟨fresh, once⟩ := List.nodup_cons.mp once
      have released := releaseClaimed_moves (held u List.mem_cons_self) completed
      refine released.trans (ih _ once fun v listed => ?_)
      have other : v ≠ u := fun same => fresh (same ▸ listed)
      rw [shedIs_iff, released.frame.kind, releaseClaimed_other other]
      exact shedIs_iff.mp (held v (List.mem_cons_of_mem _ listed))
  have sorted := sortBy_perm (fun u => (s.unit u).feeder.priority) (planFeeders s)
  refine main _ s (sorted.nodup_iff.mpr ((List.nodup_finRange 64).filter _)) fun u listed => ?_
  exact (List.mem_filter.mp (sorted.mem_iff.mp listed)).2

theorem shedModeLeft_moves (s : State) : Moves s (shedModeLeft s) := shedItems_moves rfl rfl (List.nil_sublist _)

end Sys2Proof.Machine
end

section
/-! Changes of mode, the Restoration Sequencer and the hand-offs of a step are chains of shifts, and keep PLAN RUNNING and
RESTORE together (R164). -/

namespace Sys2Proof.Machine

/-! ## The tracker and the mode -/

theorem setTracker_moves {s : State} {t : Tracker} (epoch : t.epoch = s.tracker.epoch)
    (pass : t.passInProgress = s.tracker.passInProgress) : Moves s (s.setTracker t) := (Move.tracker s t epoch pass).moves

theorem sourceChanged_work (s : State) (left : EpochState) : RecordWork s (sourceChanged s left) := by
  unfold sourceChanged
  simp only
  split
  · exact record_work _ _ _ _ _
  · exact (record_work _ _ _ _ _).trans (rise_work _ _)

theorem restartTracker_moves (s : State) (unset : Option Time) : Moves s (restartTracker s unset) := by
  have cleared : Moves s (s.setTracker (clearedTracker s.tracker unset)) := setTracker_moves rfl rfl
  unfold restartTracker
  simp only
  split
  · exact cleared
  · exact cleared.trans (sourceChanged_work _ _).moves

theorem trackerMode_moves (s : State) (left : Mode) : Moves s (trackerMode s left) := by
  unfold trackerMode
  split
  · exact restartTracker_moves s none
  · split
    · exact setTracker_moves rfl rfl
    · exact .refl s

theorem ordersModeLeft_moves (s : State) (left : Mode) : Moves s (ordersModeLeft s left) := by
  unfold ordersModeLeft
  split
  · exact (discardOrders_duties s).moves.trans ((shedModeLeft_moves _).trans (setRetry_duties _ _).moves)
  · exact .refl s

theorem limitModeChanged_moves (s : State) (left : Mode) : Moves s (limitModeChanged s left) := by
  unfold limitModeChanged
  split
  · exact (limitSweep_duties s 0).moves
  · split
    · exact (dropLimit_duties s).moves
    · exact .refl s

theorem retryModeLeft_moves (s : State) (left : Mode) : Moves s (retryModeLeft s left) := by
  unfold retryModeLeft
  split
  · exact (setRetry_duties s false).moves
  · exact .refl s

/-- After a change of mode has been made, the blocks that it is handed to move on. -/
theorem changeMode_moves (s : State) (m : Mode) : Moves { s with service := { s.service with mode := m } } (changeMode s m) := by
  unfold changeMode
  split
  next same =>
    have stays : s.service.mode = m := by simpa [State.mode] using same
    rw [← stays]
    exact .refl s
  next =>
    exact (Moves.record _ _ _ _ _).trans ((trackerMode_moves _ _).trans ((ordersModeLeft_moves _ _).trans
      ((retryModeLeft_moves _ _).trans (limitModeChanged_moves _ _))))

theorem changeMode_shifts (s : State) (m : Mode) : Shifts s (changeMode s m) :=
  (Shift.mode s m).shifts.trans (changeMode_moves s m).shifts

@[simp] theorem changeMode_mode (s : State) (m : Mode) : (changeMode s m).mode = m := (changeMode_moves s m).mode

@[simp] theorem changeMode_planState (s : State) (m : Mode) :
    (changeMode s m).progress.planState = s.progress.planState := (changeMode_moves s m).planState

/-! ## Chains that keep PLAN RUNNING and RESTORE together -/

/-- A chain of shifts after which the plan is RUNNING exactly in RESTORE, if it was so before it (R164). -/
structure PlanShifts (s t : State) : Prop where
  shifts   : Shifts s t
  planMode : PlanMode s → PlanMode t

theorem PlanShifts.refl (s : State) : PlanShifts s s := ⟨.refl s, id⟩

theorem PlanShifts.trans {s t u : State} (a : PlanShifts s t) (b : PlanShifts t u) : PlanShifts s u :=
  ⟨a.shifts.trans b.shifts, fun h => b.planMode (a.planMode h)⟩

theorem Moves.planShifts {s t : State} (h : Moves s t) : PlanShifts s t := ⟨h.shifts, h.planMode.mpr⟩

/-! ## The current step -/

theorem setProgress_moves {s : State} {p : Progress} (same : p.planState = s.progress.planState) :
    Moves s (s.setProgress p) := (Move.progress s p same).moves

theorem setProgress_shifts {s : State} {p : Progress} (same : p.planState = s.progress.planState) :
    PlanShifts s (s.setProgress p) := (setProgress_moves same).planShifts

theorem addIssue_moves (s : State) (u : UnitNo) (k : OrderKind) : Moves s (addIssue s u k) := setProgress_moves rfl

theorem followLists_moves (s : State) : Moves s (followLists s) := by
  unfold followLists
  simp only
  split
  · exact setProgress_moves rfl
  · exact .refl s

theorem withdrawPlan_duties (s : State) (x : PlanOrder) : Duties s (withdrawPlan s x) := by
  unfold withdrawPlan
  split
  next withdrawn => exact withdraw_duties withdrawn
  next withdrawn => exact (withdraw_duties withdrawn).trans (.deferAll _ _)

theorem stepFail_moves (s : State) (cause : Nat) (u : Option UnitNo) : Moves s (stepFail s cause u) := by
  unfold stepFail
  simp only
  split
  · exact .refl s
  · refine .trans (.trans (.trans ?_ (Duties.foldl fun t _ x _ => withdrawPlan_duties t x).moves) (.record _ _ _ _ _)) (.defer _ _)
    exact setProgress_moves rfl

theorem stepDone_moves (s : State) : Moves s (stepDone s) := by
  refine .trans (.trans ?_ (.record _ _ _ _ _)) (.defer _ _)
  exact setProgress_moves rfl

/-! ## What each action does at an event -/

theorem takeFeeder_moves (s : State) (u : UnitNo) : Moves s (takeFeeder s u) := by
  unfold takeFeeder
  split
  · exact .refl s
  next kind =>
    have feeder : (s.unit u).kind = .feeder := by simpa using kind
    have claimed : Moves s (if (s.unit u).feederJob.shed == .openPlan then s else claim s u) := by
      split
      · exact .refl s
      · exact claim_moves feeder
    have wanted (t : State) : Moves t
        (if (t.unit u).readsOpen || t.progress.holds u .opn then t else addIssue t u .opn) := by
      split
      · exact .refl t
      · exact addIssue_moves t u .opn
    exact claimed.trans (wanted _)

theorem watchUnit_moves (s : State) (u : UnitNo) : Moves s (watchUnit s u) := by
  unfold watchUnit
  simp only
  split
  · exact .refl s
  · split
    · exact setProgress_moves rfl
    · split
      · refine .trans ?_ (addIssue_moves _ _ _)
        exact setProgress_moves rfl
      · exact .refl s

theorem takeZone_moves (s : State) : Moves s (takeZone s) := by
  have struck (l : List UnitNo) : Moves s (s.setProgress { s.progress with members := l }) := setProgress_moves rfl
  unfold takeZone
  simp only
  split
  · exact struck _
  · split
    · exact struck _
    · exact (struck _).trans (addIssue_moves _ _ _)

theorem noteGenset_moves (s : State) (u : UnitNo) : Moves s (noteGenset s u) := by
  unfold noteGenset
  simp only
  split
  · exact setProgress_moves rfl
  · exact .refl s

theorem prepare_moves (s : State) (t : Trigger) : Moves s (prepare s t) := by
  unfold prepare
  split
  · exact .foldl fun t _ u _ => takeFeeder_moves t u
  · exact noteGenset_moves s _
  · split
    · exact setProgress_moves rfl
    · exact .refl s
  · exact watchUnit_moves s _
  · exact takeZone_moves s
  · exact .refl s

theorem planStartRequest_moves {s s' : State} {u : UnitNo} {st : Fin 32} {a : PlanStart}
    (h : planStartRequest s u st = (s', a)) : Moves s s' := (planStartRequest_duties h).moves

theorem askStart_moves (s : State) (u : UnitNo) : Moves s (askStart s u) := by
  have again (t : State) : Moves t (if t.progress.holds u .start then t else addIssue t u .start) := by
    split
    · exact .refl t
    · exact addIssue_moves t u .start
  have settled (t : State) : Moves t (t.setProgress { t.progress with toIssue := [] }) := setProgress_moves rfl
  unfold askStart
  simp only
  split
  next asked =>
    refine .trans ((planStartRequest_moves asked).trans (settled _)) ?_
    exact setProgress_moves rfl
  next asked => exact (planStartRequest_moves asked).trans (settled _)
  next asked => exact (planStartRequest_moves asked).trans (settled _)
  next asked => exact (planStartRequest_moves asked).trans (stepFail_moves _ _ _)
  next asked => exact (planStartRequest_moves asked).trans (again _)
  next asked => exact (planStartRequest_moves asked).trans (stepFail_moves _ _ _)
  next asked => exact (planStartRequest_moves asked).trans (stepFail_moves _ _ _)
  next asked => exact (planStartRequest_moves asked).trans (again _)
  next asked => exact (planStartRequest_moves asked).trans (stepFail_moves _ _ _)
  next asked => exact (planStartRequest_moves asked).trans (again _)

theorem issueAll_moves (l : List (UnitNo × OrderKind)) (s : State) : Moves s (issueAll s l) := by
  induction l generalizing s with
  | nil => exact .refl s
  | cons x l ih =>
    unfold issueAll
    split
    next asked =>
      refine .trans (.trans (requestOrder_moves asked) ?_) (ih _)
      exact setProgress_moves rfl
    next asked => exact (requestOrder_moves asked).trans (stepFail_moves _ _ _)
    next asked => exact (requestOrder_moves asked).trans (stepFail_moves _ _ _)
    next asked => exact (requestOrder_moves asked).trans (ih _)

theorem serveStep_moves (s : State) (t : Trigger) (added : Bool) : Moves s (serveStep s t added) := by
  unfold serveStep
  split
  · split
    · exact askStart_moves s _
    · exact .refl s
  · split
    · exact issueAll_moves _ s
    · exact .refl s

/-- An event at a step makes only moves: the mode and the plan state stay. -/
theorem stepEvent_moves (s : State) (t : Trigger) : Moves s (stepEvent s t) := by
  unfold stepEvent
  simp only
  split
  · exact .refl s
  · refine (prepare_moves s t).trans ?_
    split
    · exact stepDone_moves _
    · split
      · exact stepFail_moves _ _ _
      · exact (serveStep_moves _ _ _).trans (followLists_moves _)

/-! ## How the plan ends -/

theorem planEnded_moves (s : State) (cause : Nat) : Moves s (planEnded s cause) := by
  refine .trans ?_ (.record _ _ _ _ _)
  exact setProgress_moves rfl

theorem stripSteps_moves (s : State) : Moves s (stripSteps s) := (Move.stripped s).moves

/-- A plan state entered, and then a mode, that agree on whether the plan runs. -/
theorem planState_mode_shifts (s : State) (x : PlanState) (m : Mode) (agree : x = .running ↔ m = .restore) :
    PlanShifts s (changeMode (s.setProgress { s.progress with planState := x }) m) where
  shifts := (Shift.plan s _).shifts.trans (changeMode_shifts _ _)
  planMode _ := by
    rw [PlanMode, changeMode_planState, changeMode_mode]
    exact agree

theorem planAbort_shifts (s : State) (cause : Nat) {m : Mode} (other : m ≠ .restore) : PlanShifts s (planAbort s cause m) :=
  ((planEnded_moves s cause).trans ((Moves.rise _ _).trans (planRelease_moves _ false))).planShifts.trans
    ((planState_mode_shifts _ .aborted m (by simp [other])).trans (stripSteps_moves _).planShifts)

theorem planComplete_shifts (s : State) : PlanShifts s (planComplete s) :=
  ((planEnded_moves s 0).trans ((planRelease_moves _ true).trans
    (Moves.foldl fun _ _ _ _ => Moves.record _ _ _ _ _))).planShifts.trans
    ((planState_mode_shifts _ .completed .active (by decide)).trans (stripSteps_moves _).planShifts)

/-! ## Beginning and moving on -/

theorem beginCloseUnit_moves (s : State) (u : UnitNo) : Moves s (beginCloseUnit s u) := by
  unfold beginCloseUnit
  simp only
  split
  · have claimed : Moves s (if (s.unit u).kind == .feeder then claim s u else s) := by
      split
      next feeder => exact claim_moves (by simpa using feeder)
      next => exact .refl s
    have wanted (t : State) : Moves t (if (t.unit u).readsClosed then t else addIssue t u .close) := by
      split
      · exact .refl t
      · exact addIssue_moves t u .close
    exact (claimed.trans (wanted _)).trans (stepEvent_moves _ _)
  · exact stepFail_moves _ _ _

theorem beginAction_shifts (s : State) : PlanShifts s (beginAction s) := by
  unfold beginAction
  simp only
  split
  · refine .trans ?_ (planComplete_shifts _)
    exact setProgress_shifts rfl
  · exact (beginCloseUnit_moves s _).planShifts
  · exact (stepFail_moves _ _ _).planShifts
  · refine .trans ?_ (stepEvent_moves _ _).planShifts
    exact setProgress_shifts rfl
  · exact ((limitSweep_duties _ _).moves.trans (stepEvent_moves _ _)).planShifts
  · exact (stepFail_moves _ _ _).planShifts
  · exact (stepEvent_moves _ _).planShifts

theorem stepBegin_shifts (s : State) (k attempt : Nat) : PlanShifts s (stepBegin s k attempt) := by
  have ends : PlanShifts s (planAbort s 3 .observe) := planAbort_shifts s 3 (by decide)
  unfold stepBegin
  split
  · split
    · exact ends
    · refine .trans ?_ (beginAction_shifts _)
      exact setProgress_shifts rfl
  · exact ends

theorem beginPlan_shifts (s : State) : PlanShifts s (beginPlan s) := by
  have begun : PlanShifts s (s.setProgress (begunProgress s 0 1)) := setProgress_shifts rfl
  unfold beginPlan
  simp only
  split
  · exact begun.trans (planAbort_shifts _ 3 (by decide))
  · exact begun.trans (beginAction_shifts _)

theorem planStart_shifts (s : State) : PlanShifts s (planStart s) := by
  have entered : PlanShifts s (changeMode (s.setProgress { s.progress with
      planState := .running, current := 0, restarts := 0, endCause := none, restartPending := false }) .restore) :=
    ⟨(Shift.plan s _).shifts.trans (changeMode_shifts _ _), fun _ => by
      rw [PlanMode, changeMode_planState, changeMode_mode]
      exact ⟨fun _ => rfl, fun _ => rfl⟩⟩
  exact entered.trans (beginPlan_shifts _)

theorem applyPolicy_shifts (s : State) : PlanShifts s (applyPolicy s) := by
  unfold applyPolicy
  simp only
  split
  · split
    · exact stepBegin_shifts _ _ _
    · exact planAbort_shifts s 2 (by decide)
  · exact stepBegin_shifts _ _ _
  · exact planAbort_shifts s 1 (by decide)

theorem planAdvance_shifts (s : State) : PlanShifts s (planAdvance s) := by
  unfold planAdvance
  simp only
  split
  · exact .refl s
  · split
    · refine .trans (.trans ?_ (limitSweep_duties _ 0).moves.planShifts) (beginPlan_shifts _)
      exact setProgress_shifts rfl
    · split
      · exact stepBegin_shifts _ _ _
      · exact applyPolicy_shifts s

/-! ## Ends and notices -/

theorem seqEnd_moves (s : State) (i : SlotNo) (o : Order) (e : OrderEnd) : Moves s (seqEnd s i o e) := by
  unfold seqEnd
  simp only
  split
  · exact .refl s
  · have noted : Moves s (s.setProgress (endNoted s.progress ⟨i, o.target, o.kind⟩ e)) := setProgress_moves rfl
    refine .trans (.trans (noted.trans ?_) (followLists_moves _)) (.defer _ _)
    split
    · split
      · exact .refl _
      · exact stepFail_moves _ _ _
    · exact stepEvent_moves _ _

theorem cancelNoticed_moves (s : State) : Moves s (cancelNoticed s) := by
  unfold cancelNoticed
  split
  · exact .refl s
  · refine .trans (.trans ?_ (stepFail_moves _ _ _)) (.defer _ _)
    exact setProgress_moves rfl

/-! ## The dead-bus detector -/

theorem deadAgain_shifts (s : State) (a : Arrival) : PlanShifts s (deadAgain s a) := by
  unfold deadAgain
  simp only
  split
  · refine .trans ?_ ((stepFail_moves _ _ _).trans (.defer _ _)).planShifts
    exact (Moves.record _ _ _ _ _).planShifts.trans (setProgress_shifts rfl)
  · refine .trans ?_ (planAbort_shifts _ 4 (by decide))
    exact (Moves.record _ _ _ _ _).planShifts.trans (setProgress_shifts rfl)

theorem detectorAsserts_shifts (s : State) (a : Arrival) : PlanShifts s (detectorAsserts s a) := by
  unfold detectorAsserts
  split
  · split
    · exact (Moves.record _ _ _ _ _).planShifts.trans (planStart_shifts _)
    · exact (Moves.record _ _ _ _ _).planShifts
  · exact deadAgain_shifts s a
  · exact (Moves.record _ _ _ _ _).planShifts

/-! ## The hand-offs of a step -/

theorem handEnd_moves (s : State) (job : Job) (i : SlotNo) (o : Order) (e : OrderEnd) : Moves s (handEnd s job i o e) := by
  cases job with
  | allocator => exact (allocatorEnd_duties s o e).moves
  | dispatcher => exact (dispatcherEnd_duties s i o e).moves
  | shed => exact shedOrderEnd_moves s i o e
  | sequencer => exact seqEnd_moves s i o e

theorem handRelease_moves (s : State) (job : Job) : Moves s (handRelease s job) := by
  cases job with
  | allocator => exact .refl s
  | dispatcher => exact (dispatcherRelease_duties s).moves
  | shed => exact servePending_moves s
  | sequencer => exact stepEvent_moves s _

theorem handCompletion_moves (s : State) (job : Job) : Moves s (handCompletion s job) := by
  cases job with
  | allocator => exact (allocatorCompletion_duties s).moves
  | dispatcher => exact (dispatcherCompletion_duties s).moves
  | shed => exact shedCompletion_moves s
  | sequencer => exact stepEvent_moves s _

/-- One hand-off taken by its receiver. -/
theorem handleTask_shifts (s : State) (t : Task) : PlanShifts s (handleTask s t) := by
  cases t with
  | ended job i o e => exact (handEnd_moves s job i o e).planShifts
  | released job u => exact (handRelease_moves s job).planShifts
  | completion job => exact (handCompletion_moves s job).planShifts
  | dispatchChange u left entered => exact (stepEvent_moves s _).planShifts
  | cancelNotice => exact (cancelNoticed_moves s).planShifts
  | planAdvance => exact planAdvance_shifts s

/-- Everything the hand-offs of a step do is a chain of shifts. -/
theorem settle_shifts (s : State) : PlanShifts s (settle s) := by
  refine settle_keeps (P := PlanShifts s) (fun t l reached => ?_) (fun t x _ reached => ?_) (.refl s)
  · exact reached.trans (Duty.agenda t l).duties.moves.planShifts
  · exact reached.trans (handleTask_shifts t x)

end Sys2Proof.Machine
end

section
/-! What every command keeps. `Kept i s t` puts together what the statements about all commands and the invariants ask of the
command `i` between two states; it holds of every chain of shifts and of every update that a command makes of its own, and so of
every command. -/

namespace Sys2Proof.Machine

/-! ## Shifts keep the invariants of the blocks -/

theorem Shift.slotBounds {s t : State} (h : Shift s t) (bounds : SlotBounds s) : SlotBounds t := by
  cases h with
  | move m => exact m.slotBounds bounds
  | mode m => exact ⟨bounds.credit, bounds.nonUrgent⟩
  | plan p => exact ⟨bounds.credit, bounds.nonUrgent⟩

theorem Shift.permitted {s t : State} (h : Shift s t) (permitted : Permitted s) : Permitted t := by
  cases h with
  | move m => exact m.permitted permitted
  | mode m => exact permitted
  | plan p => exact permitted

theorem Shift.commitExact {s t : State} (h : Shift s t) (exact : CommitExact s) : CommitExact t := by
  cases h with
  | move m => exact m.commitExact exact
  | mode m => exact exact.of_same rfl fun _ => ⟨rfl, rfl⟩
  | plan p => exact exact.of_same rfl fun _ => ⟨rfl, rfl⟩

theorem Shift.stackExact {s t : State} (h : Shift s t) (exact : StackExact s) : StackExact t := by
  cases h with
  | move m => exact m.stackExact exact
  | mode m => exact exact.of_units rfl rfl
  | plan p => exact exact.of_units rfl rfl

/-- What every shift keeps, every chain of shifts keeps. -/
theorem Shifts.keep {P : State → Prop} (step : ∀ s t : State, Shift s t → P s → P t) {s t : State} (h : Shifts s t)
    (start : P s) : P t := by
  induction h with
  | refl => exact start
  | tail _ last ih => exact step _ _ last ih

/-! ## Updates that touch no block's part in the invariants -/

/-- Nothing that the invariants or the statements about all commands speak of has changed between two states of a command `i`,
but what the command is meant to change, records that have joined the Event Log, conditions latched, live fields, and orders
that have moved on in their slots. -/
structure Still (i : Instr) (s t : State) : Prop where
  station   : t.frame.station = s.frame.station := by rfl
  schedule  : t.schedule = s.schedule := by rfl
  queue     : t.pending = s.pending := by rfl
  config    : i ≠ .writeRecord → SameConfig s t := by exact fun _ => ⟨rfl, rfl, rfl, rfl, rfl, rfl, fun _ => rfl⟩
  units     : ∀ u : UnitNo, configOf (t.unit u) = configOf (s.unit u) := by exact fun _ => rfl
  latched   : i ≠ .clearConditions → ∀ c : Condition, s.isLatched c = true → t.isLatched c = true := by
    exact fun _ _ h => h
  log       : i ≠ .ackEvents → ∀ (k : LogNo) (r : EventRec), s.events.log.get k = some r → t.events.log.get k = some r := by
    exact fun _ _ _ h => h
  mode      : t.mode = s.mode := by rfl
  planState : t.progress.planState = s.progress.planState := by rfl
  slots     : SlotsOf s t := by exact .of_slots fun _ => rfl
  commit    : t.dispatcher.commit = s.dispatcher.commit := by rfl
  stack     : t.shed.stack = s.shed.stack := by rfl
  sheds     : t.shed.pending = s.shed.pending := by rfl
  jobs      : ∀ u : UnitNo, (t.unit u).gensetJob = (s.unit u).gensetJob ∧ (t.unit u).feederJob = (s.unit u).feederJob := by
    exact fun _ => ⟨rfl, rfl⟩

/-- A configuration field of a record, read from two records that agree on the configuration. -/
theorem same_of_configOf {r r' : UnitRec} (h : configOf r' = configOf r) {α : Type} (f : UnitRec → α)
    (plain : ∀ r : UnitRec, f (configOf r) = f r) : f r' = f r := by rw [← plain, h, plain]

/-- What stays of the configuration, the invariants and the rest of the state while a command runs. The fields that some
commands are meant to change say which. -/
structure Kept (i : Instr) (s t : State) : Prop where
  station    : t.frame.station = s.frame.station
  schedule   : t.schedule = s.schedule
  queue      : t.pending = s.pending
  config     : i ≠ .writeRecord → SameConfig s t
  latched    : i ≠ .clearConditions → i ≠ .engineReset → ∀ c : Condition, s.isLatched c = true → t.isLatched c = true
  log        : i ≠ .ackEvents → ∀ (k : LogNo) (r : EventRec), s.events.log.get k = some r → t.events.log.get k = some r
  planMode   : PlanMode s → PlanMode t
  slotBounds : SlotBounds s → SlotBounds t
  permitted  : Permitted s → Permitted t
  commit     : CommitExact s → CommitExact t
  stack      : StackExact s → StackExact t

theorem SameConfig.refl (s : State) : SameConfig s s := ⟨rfl, rfl, rfl, rfl, rfl, rfl, fun _ => rfl⟩

theorem SameConfig.trans {s t u : State} (a : SameConfig s t) (b : SameConfig t u) : SameConfig s u where
  settings := b.settings.trans a.settings
  access := b.access.trans a.access
  stages := b.stages.trans a.stages
  routing := b.routing.trans a.routing
  phases := b.phases.trans a.phases
  plan := b.plan.trans a.plan
  units v := (b.units v).trans (a.units v)

variable {i : Instr}

theorem Kept.refl (s : State) : Kept i s s where
  station := rfl
  schedule := rfl
  queue := rfl
  config _ := .refl s
  latched _ _ _ h := h
  log _ _ _ h := h
  planMode := id
  slotBounds := id
  permitted := id
  commit := id
  stack := id

theorem Kept.trans {s t u : State} (a : Kept i s t) (b : Kept i t u) : Kept i s u where
  station := b.station.trans a.station
  schedule := b.schedule.trans a.schedule
  queue := b.queue.trans a.queue
  config h := (a.config h).trans (b.config h)
  latched h h' c l := b.latched h h' c (a.latched h h' c l)
  log h k r l := b.log h k r (a.log h k r l)
  planMode h := b.planMode (a.planMode h)
  slotBounds h := b.slotBounds (a.slotBounds h)
  permitted h := b.permitted (a.permitted h)
  commit h := b.commit (a.commit h)
  stack h := b.stack (a.stack h)

theorem Still.kept {s t : State} (h : Still i s t) : Kept i s t where
  station := h.station
  schedule := h.schedule
  queue := h.queue
  config := h.config
  latched other _ := h.latched other
  log := h.log
  planMode := by
    rw [PlanMode, PlanMode, h.mode, h.planState]
    exact id
  slotBounds := h.slots.slotBounds fun u => same_of_configOf (h.units u) UnitRec.credit fun _ => rfl
  permitted := h.slots.permitted fun u => same_of_configOf (h.units u) UnitRec.permits fun _ => rfl
  commit exact := exact.of_same h.commit fun u => ⟨same_of_configOf (h.units u) UnitRec.kind fun _ => rfl, (h.jobs u).1⟩
  stack exact := exact.of_same (by rw [h.stack]) (by rw [h.sheds]) fun u =>
    ⟨same_of_configOf (h.units u) UnitRec.kind fun _ => rfl, same_of_configOf (h.units u) UnitRec.feeder fun _ => rfl,
      by rw [(h.jobs u).2], fun _ => (h.jobs u).2⟩

theorem PlanShifts.kept {s t : State} (h : PlanShifts s t) : Kept i s t where
  station := h.shifts.frame.station
  schedule := h.shifts.frame.schedule
  queue := h.shifts.frame.pending
  config _ := h.shifts.frame.config
  latched _ _ := h.shifts.frame.latched
  log _ := h.shifts.frame.log
  planMode := h.planMode
  slotBounds := h.shifts.keep fun _ _ => Shift.slotBounds
  permitted := h.shifts.keep fun _ _ => Shift.permitted
  commit := h.shifts.keep fun _ _ => Shift.commitExact
  stack := h.shifts.keep fun _ _ => Shift.stackExact

theorem Moves.kept {s t : State} (h : Moves s t) : Kept i s t := h.planShifts.kept

theorem Duties.kept {s t : State} (h : Duties s t) : Kept i s t := h.moves.kept

theorem RecordWork.kept {s t : State} (h : RecordWork s t) : Kept i s t := h.moves.kept

theorem PortWork.kept {s t : State} (h : PortWork s t) : Kept i s t := h.moves.kept

theorem Kept.record (s : State) (k : EventKind) (u : Option UnitNo) (v : Option Int) (d : Option Nat) :
    Kept i s (record s k u v d) := (record_work s k u v d).kept

theorem Kept.rise (s : State) (c : Condition) : Kept i s (rise s c) := (rise_work s c).kept

/-- What keeps for each element of a list, wherever the chain has led, keeps for the list. -/
theorem Kept.foldl {α : Type} {f : State → α → State} (h : ∀ (t : State) (x : α), Kept i t (f t x)) (l : List α) (s : State) :
    Kept i s (l.foldl f s) := by
  induction l generalizing s with
  | nil => exact .refl s
  | cons x l ih => exact (h s x).trans (ih _)

/-! ## A command's frame -/

/-- A command keeps what its own effect keeps. -/
theorem act_kept {s t : State} {f : State → State} (h : Kept i s (f s)) (done : act s f = .next t) : Kept i s t := by
  simp only [act, Host.Outcome.next.injEq] at done
  rw [← done]
  split
  · exact .refl s
  · exact h.trans (settle_shifts _).kept

/-- A request served keeps what its handler keeps. -/
theorem serve_kept {s : State} {wanted : Request → Bool} {handler : State → Request → Served}
    (h : ∀ (v : State) (r : Request), wanted r = true → Kept i v (handler v r).state) : Kept i s (serve s wanted handler) := by
  have held (v : State) (b : Bool) : Kept i v (holdPlace v b) := Still.kept {}
  unfold serve
  split
  · exact .refl s
  next r rest _ =>
    split
    next takes =>
      have admits : wanted r = true := by simp only [Bool.and_eq_true] at takes; exact takes.1
      have popped : Kept i s (popRequest s rest) := Still.kept {}
      exact (popped.trans ((held _ true).trans ((h _ r admits).trans ((settle_shifts _).kept.trans (held _ false))))).trans
        (joinReport_work _ _).kept
    · exact .refl s

/-! ## The Frame Path -/

theorem setPort_kept (s : State) (p : Port) (q : PortPath) : Kept i s (s.setPort p q) := by
  cases p <;> exact Still.kept {}

theorem setBuffer_kept (s : State) (p : Port) (b : List Place) : Kept i s (s.setBuffer p b) := setPort_kept s p _

theorem setRx_kept (s : State) (p : Port) (x : Rx) : Kept i s (s.setRx p x) := setPort_kept s p _

theorem setTx_kept (s : State) (p : Port) (x : Tx) : Kept i s (s.setTx p x) := setPort_kept s p _

theorem deliver_kept (s : State) (d : Option Delivery) : Kept i s (deliver s d) := Still.kept {}

theorem takeDelivery_kept (s : State) (d : Delivery) : Kept i s (takeDelivery s d) := Still.kept {}

theorem startWaiting_kept (s : State) (p : Port) : Kept i s (startWaiting s p) := by
  unfold startWaiting
  split
  · exact (setBuffer_kept s _ _).trans (setTx_kept _ _ _)
  · exact .refl s

theorem opportunity_kept (s : State) (p : Port) : Kept i s (opportunity s p) := by
  unfold opportunity
  split
  · split
    next offered => exact (offerRestricted_work offered).kept.trans (pump_work _).kept
    next => exact (startWaiting_kept s p).trans (pump_work _).kept
  · exact (pump_work s).kept

theorem arrivalStart_kept (s : State) (p : Port) : Kept i s (arrivalStart s p) := by
  unfold arrivalStart
  simp only
  split
  · exact .refl s
  · split
    · exact setPort_kept s p _
    · exact (setRx_kept s p _).trans (.rise _ _)

theorem dropReceiving_kept (s : State) (p : Port) : Kept i s (dropReceiving s p) := setBuffer_kept s p _

theorem addressesIn_kept (s : State) (p : Port) (dst src : Addr) : Kept i s (addressesIn s p dst src) := by
  unfold addressesIn
  split
  · exact .refl s
  · split
    · exact (dropReceiving_kept s p).trans (setRx_kept _ _ _)
    · split
      · exact (dropReceiving_kept s p).trans (setRx_kept _ _ _)
      · unfold forwardAddresses
        simp only
        split
        · exact (setPort_kept s p _).trans (setTx_kept _ _ _)
        · exact setPort_kept s p _

theorem receptionEnd_kept (s : State) (p : Port) (rest : List Byte) (badCheck partialByte : Bool) :
    Kept i s (receptionEnd s p rest badCheck partialByte) := by
  have idle : Kept i s (s.setRx p .idle) := setRx_kept s p _
  unfold receptionEnd
  simp only
  split
  · exact .refl s
  · exact idle
  · exact idle
  · exact idle.trans (dropReceiving_kept _ p)
  · exact idle
  · split
    · exact idle
    · exact idle.trans (deliver_kept _ _)
  · split
    · exact idle.trans (setBuffer_kept _ _ _)
    · exact (idle.trans (setBuffer_kept _ _ _)).trans (deliver_kept _ _)

theorem transmissionOver_kept (s : State) (p : Port) : Kept i s (transmissionOver s p) := by
  unfold transmissionOver
  split
  · exact .refl s
  · exact (setTx_kept s p _).trans (setBuffer_kept _ _ _)
  · exact (setTx_kept s p _).trans (copyComplete_work _ _ _).kept
  · exact setTx_kept s p _

theorem transmitOver_kept (s : State) (p : Port) : Kept i s (transmitOver s p) := by
  unfold transmitOver
  split
  · exact .refl s
  · refine .trans (.trans ?_ (transmissionOver_kept _ p)) (opportunity_kept _ p)
    unfold cutOverlong
    split
    · exact setRx_kept s _ _
    · exact .refl s

theorem portDown_kept (s : State) (p : Port) : Kept i s (portDown s p) := by
  unfold portDown
  split
  · exact .refl s
  · exact (((receptionEnd_kept s p _ _ _).trans (transmissionOver_kept _ p)).trans
      ((setPort_kept _ p _).trans (setBuffer_kept _ _ _))).trans (pump_work _).kept

theorem portUp_kept (s : State) (p : Port) : Kept i s (portUp s p) := by
  unfold portUp
  split
  · exact .refl s
  · exact (setPort_kept s p _).trans (opportunity_kept _ p)

/-! ## The Epoch Tracker and the pass -/

theorem setTracker_kept (s : State) (t : Tracker) : Kept i s (s.setTracker t) := Still.kept {}

theorem setLive_kept (s : State) (u : UnitNo) (l : Live) : Kept i s (s.setLive u l) := by
  have alike {α : Type} (f : UnitRec → α) (plain : ∀ r : UnitRec, f { r with live := l } = f r) (v : UnitNo) :
      f ((s.setLive u l).unit v) = f (s.unit v) := by
    rw [unit_setLive]
    split
    next same => rw [plain, same]
    next => rfl
  exact Still.kept {
    config := fun _ => ⟨rfl, rfl, rfl, rfl, rfl, rfl, alike configOf fun _ => rfl⟩
    units := alike configOf fun _ => rfl
    jobs := fun v => ⟨alike UnitRec.gensetJob (fun _ => rfl) v, alike UnitRec.feederJob (fun _ => rfl) v⟩ }

theorem evaluateUnit_kept (s : State) (u : UnitNo) : Kept i s (evaluateUnit s u) := by
  unfold evaluateUnit
  simp only
  split
  · exact .refl s
  · split
    · exact .refl s
    · split
      · exact (setLive_kept s u _).trans ((Kept.record _ _ _ _ _).trans (riseIfNew_work _ _ _).kept)
      · exact setLive_kept s u _

theorem setBalance_kept (s : State) (b : Balance) : Kept i s { s with balance := b } := Still.kept {}

theorem beginPass_kept (s : State) : Kept i s (beginPass s) :=
  (Kept.foldl evaluateUnit_kept allUnits s).trans (setBalance_kept _ _)

theorem startPass_kept (s : State) : Kept i s (startPass s) := by
  unfold startPass
  split
  · exact (setTracker_kept s _).trans (.rise _ _)
  · exact (setTracker_kept s _).trans (beginPass_kept _)

theorem jumpUnlessNext_kept (s : State) (n : Num16) : Kept i s (jumpUnlessNext s n) := by
  unfold jumpUnlessNext
  split
  · exact .refl s
  · exact .record _ _ _ _ _

theorem governingMark_kept (s : State) (m : Master) (k : MarkMsg) : Kept i s (governingMark s m k) := by
  unfold governingMark
  split
  · exact .refl s
  · exact (jumpUnlessNext_kept s _).trans ((setTracker_kept _ _).trans ((setTracker_kept _ _).trans (startPass_kept _)))

theorem unsetExit_kept (s : State) (k : MarkMsg) : Kept i s (unsetExit s k) :=
  (setTracker_kept s _).trans ((setTracker_kept _ _).trans ((sourceChanged_work _ _).kept.trans (startPass_kept _)))

theorem noteSecondary_kept (s : State) (k : MarkMsg) : Kept i s (noteSecondary s k) := by
  unfold noteSecondary
  split
  · exact .refl s
  · exact setTracker_kept s _

theorem takeover_kept (s : State) (m : Master) (k : MarkMsg) : Kept i s (takeover s m k) := by
  have compared (t : State) : Kept i t (if k.number == t.tracker.epoch then t else
      startPass ((jumpUnlessNext t k.number).setTracker { (jumpUnlessNext t k.number).tracker with epoch := k.number })) := by
    split
    · exact .refl t
    · exact (jumpUnlessNext_kept t _).trans ((setTracker_kept _ _).trans (startPass_kept _))
  exact ((setTracker_kept s _).trans ((setTracker_kept _ _).trans (sourceChanged_work _ _).kept)).trans (compared _)

theorem returnMark_kept (s : State) (m : Master) (k : MarkMsg) : Kept i s (returnMark s m k) := by
  unfold returnMark
  split
  · exact .refl s
  · simp only
    split
    · exact (setTracker_kept s _).trans (takeover_kept _ m k)
    · exact setTracker_kept s _

theorem takeMark_kept (s : State) (k : MarkMsg) : Kept i s (takeMark s k) := by
  unfold takeMark
  split
  · exact .refl s
  · split
    · exact .refl s
    · exact unsetExit_kept s k
    · exact governingMark_kept s _ k
    · exact returnMark_kept s _ k
    · exact noteSecondary_kept s k
    · exact noteSecondary_kept s k
    · exact governingMark_kept s _ k
    · exact returnMark_kept s _ k

theorem enterFreeRun_kept (s : State) : Kept i s (enterFreeRun s) :=
  (setTracker_kept s _).trans (sourceChanged_work _ _).kept

theorem unsetExpiry_kept (s : State) : Kept i s (unsetExpiry s) := by
  unfold unsetExpiry
  split
  · exact (setTracker_kept s _).trans (sourceChanged_work _ _).kept
  · exact enterFreeRun_kept s

theorem losePrimary_kept (s : State) : Kept i s (losePrimary s) := by
  unfold losePrimary
  simp only
  split
  · exact (setTracker_kept s _).trans ((setTracker_kept _ _).trans (sourceChanged_work _ _).kept)
  · exact (setTracker_kept s _).trans (enterFreeRun_kept _)

theorem loseSecondary_kept (s : State) : Kept i s (loseSecondary s) := (setTracker_kept s _).trans (enterFreeRun_kept _)

theorem freeRunStep_kept (s : State) (d : Time) : Kept i s (freeRunStep s d) := (setTracker_kept s _).trans (startPass_kept _)

theorem completePass_kept (s : State) (sn : Snapshot) : Kept i s (completePass s sn) := Still.kept {}

/-! ## Readings and observed orders -/

theorem trip_kept {s : State} {u : UnitNo} (genset : (s.unit u).kind = .genset) (lost : Int) : Kept i s (trip s u lost) := by
  have reported (t : State) : Kept i t (tripReport t) := Still.kept {}
  exact ((tripState_duties (.inl genset) lost).kept.trans (reported _)).trans
    ((Kept.rise _ _).trans (predictiveShed_moves _ _ _).kept)

theorem stopPendingReading_kept {s : State} {u : UnitNo} (genset : (s.unit u).kind = .genset) (lost : Int) :
    Kept i s (stopPendingReading s u lost) := by
  unfold stopPendingReading
  simp only
  split
  · split
    · exact (stopEnds_duties (.inl genset) 1).kept
    · exact (enterStopping_duties (.inl genset)).kept
  · split
    · have withdrawn := withdrawStop_duties s u
      have same : ((withdrawStop s u).1.unit u).kind = .genset := (withdrawn.frame.kind u).trans genset
      split
      next out => rw [out] at withdrawn same; exact withdrawn.kept.trans (trip_kept same lost)
      next out => rw [out] at withdrawn same; exact withdrawn.kept.trans (enterStopping_duties (.inl same)).kept
    · exact .refl s

theorem gensetReading_kept {s : State} {u : UnitNo} (genset : (s.unit u).kind = .genset) (lost : Int) :
    Kept i s (gensetReading s u lost) := by
  have judged : Kept i s (if runningClosed (s.unit u) then adopt s u else judgeAvailability s u) := by
    split
    · exact (adopt_duties (.inl genset)).kept
    · exact (judgeAvailability_duties s u).kept
  unfold gensetReading
  simp only
  split
  · exact judged
  · exact judged
  · split
    · exact (startSettling_duties (.inl genset)).kept
    · exact .refl s
  · exact (startingReading_duties (.inl genset)).kept
  · split
    · exact trip_kept genset lost
    · exact .refl s
  · exact stopPendingReading_kept genset lost
  · split
    · exact (stopEnds_duties (.inl genset) 1).kept
    · exact .refl s
  · exact .refl s

theorem seqArrival_kept (s : State) (a : Arrival) : Kept i s (seqArrival s a) := by
  have detected (low : Option Time) (on : Bool) : Kept i s { s with seqr := { s.seqr with lowSince := low, asserted := on } } :=
    Still.kept {}
  unfold seqArrival
  simp only
  split
  · exact (detected _ _).trans (detectorAsserts_shifts _ a).kept
  · exact (detected _ _).trans (stepEvent_moves _ _).kept

theorem handArrival_kept (s : State) (a : Arrival) : Kept i s (handArrival s a) := by
  have noted : Kept i s { s with lastSource := some a.meter } := Still.kept {}
  unfold handArrival
  simp only
  split
  · exact noted.trans ((seqArrival_kept _ a).trans (shedArrival_moves _ a).kept)
  · exact noted.trans ((shedArrival_moves _ a).kept.trans (seqArrival_kept _ a))

theorem handToPlan_moves (running : Bool) (s : State) : Moves s (handToPlan running s) := by
  unfold handToPlan
  split
  · exact stepEvent_moves s _
  · exact .refl s

/-- A reading handed to the block that follows its kind keeps what it should, when the record is of that kind. -/
theorem handToOwner_kept {s : State} {r : UnitRec} {m : ReadingMsg} (kind : (s.unit m.unit).kind = bodyKind m.body) :
    Kept i s (handToOwner s r m) := by
  unfold handToOwner
  split
  next body => exact gensetReading_kept (by rw [kind, body]; rfl) _
  next body => exact (feederReading_moves (by rw [kind, body]; rfl) _ _).kept
  next => exact (allocatorReading_duties s _).kept
  next => exact .refl s

theorem handReading_kept {s : State} {r : UnitRec} {m : ReadingMsg} (kind : (s.unit m.unit).kind = bodyKind m.body) :
    Kept i s (handReading s r m) := by
  unfold handReading
  split
  · unfold meterReading
    split
    · exact handArrival_kept s _
    · exact .refl s
  · simp only
    split
    · have told := handToPlan_moves s.planRunning s
      exact told.kept.trans (handToOwner_kept ((told.frame.kind _).trans kind))
    · exact (handToOwner_kept kind).trans (handToPlan_moves _ _).kept

theorem acceptReading_kept (s : State) (m : ReadingMsg) : Kept i s (acceptReading s m) := by
  unfold acceptReading
  simp only
  split
  · exact (setLive_kept s _ _).trans ((pump_work _).kept.trans (.record _ _ _ _ _))
  · exact (setLive_kept s _ _).trans (pump_work _).kept

/-- Acceptance changes no record's configuration. -/
theorem acceptReading_kind (s : State) (m : ReadingMsg) (u : UnitNo) : ((acceptReading s m).unit u).kind = (s.unit u).kind :=
  same_of_configOf (((acceptReading_kept (i := .timebaseTick) s m).config (by decide)).units u) UnitRec.kind fun _ => rfl

theorem takeReading_kept (s : State) (m : ReadingMsg) : Kept i s (takeReading s m) := by
  unfold takeReading
  split
  · exact .refl s
  · exact .rise s _
  next accepted =>
    have kind : (s.unit m.unit).kind = bodyKind m.body := by
      by_contra other
      simp only [checkReading, bne_iff_ne.mpr other] at accepted
      split at accepted <;> cases accepted
    exact (acceptReading_kept s m).trans (handReading_kept ((acceptReading_kind s m _).trans kind))

theorem takeObserved_kept (s : State) (o : ObservedMsg) : Kept i s (takeObserved s o) := by
  unfold takeObserved
  split
  · exact .refl s
  · unfold foreignOrder
    simp only
    split
    · exact setLive_kept s _ _
    · exact (setLive_kept s _ _).trans (.record _ _ _ _ _)

theorem endHold_kept (s : State) (u : UnitNo) : Kept i s (endHold s u) := by
  unfold endHold
  split
  · exact setLive_kept s _ _
  · exact .refl s

/-! ## Orders in flight and the jobs' deadlines -/

theorem takeReply_kept (s : State) (r : ReplyMsg) : Kept i s (takeReply s r) := by
  unfold takeReply
  split
  · exact .refl s
  · split
    · exact (endOrder_duties s _ _ _).kept
    · exact (Kept.record _ _ _ _ _).trans (endOrder_duties _ _ _ _).kept

/-- What an order put in the place of another does not change, when it has the other's target, kind and class. -/
theorem setSlot_kept {s : State} {j : SlotNo} {o o' : Order} (there : s.slot j = some o) (target : o.target = o'.target)
    (kind : o.kind = o'.kind) (cls : o.cls = o'.cls) : Kept i s (s.setSlot j (some o')) := by
  have slots : SlotsOf s (s.setSlot j (some o')) := by
    intro k x holds
    rw [slot_setSlot] at holds
    split at holds
    next same =>
      cases holds
      exact ⟨o, same ▸ there, target, cls, .inl kind⟩
    next => exact ⟨x, holds, rfl, rfl, .inl rfl⟩
  exact Still.kept { slots := slots }

/-- An order that stands in its slot joins its queue, or the waiting line. -/
theorem enqueue_kept {s : State} {j : SlotNo} {o o' : Order} (there : s.slot j = some o) (target : o.target = o'.target)
    (kind : o.kind = o'.kind) (cls : o.cls = o'.cls) : Kept i s (enqueue s j o') := by
  have waits : Kept i s { s with orders := { s.orders with waiting := s.orders.waiting ++ [j] } } := Still.kept {}
  have stands : Kept i _ (({ s with orders := { s.orders with waiting := s.orders.waiting ++ [j] } } : State).setSlot j
    (some o')) := setSlot_kept there target kind cls
  exact waits.trans (stands.trans (enqueue_work s j o').kept)

theorem retryOrder_kept {s : State} {j : SlotNo} {o : Order} (there : s.slot j = some o) : Kept i s (retryOrder s j o) := by
  have left : Kept i s (s.dequeue j) := Still.kept {}
  have again : Kept i (s.dequeue j) ((s.dequeue j).setSlot j (some { o with
    attempt := o.attempt + 1, state := .waitingRetry, pendingPort := none, deadline := none, stamp := none })) :=
    setSlot_kept there rfl rfl rfl
  have refilled := refill_work ((s.dequeue j).setSlot j (some { o with
    attempt := o.attempt + 1, state := .waitingRetry, pendingPort := none, deadline := none, stamp := none }))
  obtain ⟨x, stands, content⟩ := refilled.order (slot_setSlot_self _ _ _)
  simp only [Order.content, Prod.mk.injEq] at content
  obtain ⟨target, kind, -, -, -, cls, -⟩ := content
  exact ((left.trans again).trans refilled.kept).trans (enqueue_kept stands target kind cls)

theorem replyExpiry_kept (s : State) (j : SlotNo) : Kept i s (replyExpiry s j) := by
  unfold replyExpiry
  split
  · exact .refl s
  next there =>
    split
    · split
      · exact retryOrder_kept there
      · exact (Kept.record _ _ _ _ _).trans ((Kept.rise _ _).trans (endOrder_duties _ _ _ _).kept)
    · exact .refl s

end Sys2Proof.Machine
end

section
/-! What the service requests keep, WRITE RECORD to table UNIT first: what a mask of rising numbers can do to a record, and why
the checks of R189 then leave every invariant standing. -/

namespace Sys2Proof.Machine

/-! ## Writing several fields -/

/-- A field and the fields after it are stored only when each of them is. -/
theorem worse_ok {α : Type} {first : FieldOut α} {rest : WriteOut α} {r : α} {c : Bool} (h : worse first rest = .ok r c) :
    ∃ (r' : α) (c' c'' : Bool), first = .ok r' c' ∧ rest = .ok r c'' := by
  cases first with
  | noField => cases h
  | badShape => cases h
  | badValue =>
    cases rest with
    | refused why => cases why <;> cases h
    | ok r' c' => cases h
  | ok r' c' =>
    cases rest with
    | refused why => cases why <;> cases h
    | ok r'' c'' =>
      cases h
      exact ⟨r', c', c'', rfl, rfl⟩

theorem writeFields_cons_ok {α : Type} {set : α → Nat → FieldVal → FieldOut α} {r r'' : α} {n : Nat} {ns : List Nat}
    {v : FieldVal} {vs : List FieldVal} {c : Bool} (h : writeFields set r (n :: ns) (v :: vs) = .ok r'' c) :
    ∃ (r' : α) (c' c'' : Bool), set r n v = .ok r' c' ∧ writeFields set r' ns vs = .ok r'' c'' := by
  unfold writeFields at h
  split at h
  next r' c' stored =>
    obtain ⟨_, _, c'', -, rest⟩ := worse_ok h
    exact ⟨r', c', c'', stored, rest⟩
  next bad =>
    obtain ⟨r', c', -, stored, -⟩ := worse_ok h
    exact absurd stored (bad r' c')

/-- What each field of a mask leaves related, the whole mask does. -/
theorem writeFields_keeps {α : Type} {set : α → Nat → FieldVal → FieldOut α} {R : α → α → Prop} {p : Nat → Prop}
    (refl : ∀ r : α, R r r) (trans : ∀ r r' r'' : α, R r r' → R r' r'' → R r r'')
    (one : ∀ (r r' : α) (n : Nat) (v : FieldVal) (c : Bool), p n → set r n v = .ok r' c → R r r') {mask : List Nat} {r r' : α}
    {values : List FieldVal} {c : Bool} (all : ∀ n ∈ mask, p n) (h : writeFields set r mask values = .ok r' c) : R r r' := by
  induction mask generalizing r values c with
  | nil =>
    cases values <;> cases h <;> exact refl _
  | cons n ns ih =>
    cases values with
    | nil => cases h; exact refl _
    | cons v vs =>
      obtain ⟨x, c', c'', stored, rest⟩ := writeFields_cons_ok h
      exact trans r x r' (one r x n v c' (all n List.mem_cons_self) stored)
        (ih (fun m hm => all m (List.mem_cons_of_mem _ hm)) rest)

/-- The numbers of a rising mask after its first are positive. -/
theorem maskRises_tail {n : Nat} {ns : List Nat} (h : maskRises (n :: ns) = true) : ∀ m ∈ ns, m ≠ 0 := by
  induction ns generalizing n with
  | nil => simp
  | cons a ns ih =>
    simp only [maskRises, Bool.and_eq_true, decide_eq_true_eq] at h
    intro m hm
    rcases List.mem_cons.mp hm with rfl | later
    · omega
    · exact ih h.2 m later

/-! ## A unit record written -/

/-- The parts of a record that a write of fields above 0 does not touch: its kind and its jobs' items, and the feeder fields of a
record of another kind. -/
structure SameParts (r r' : UnitRec) : Prop where
  kind   : r'.kind = r.kind := by rfl
  genset : r'.gensetJob = r.gensetJob := by rfl
  job    : r'.feederJob = r.feederJob := by rfl
  feeder : r.kind ≠ .feeder → r'.feeder = r.feeder := by exact fun _ => rfl

theorem SameParts.trans {a b c : UnitRec} (h : SameParts a b) (h' : SameParts b c) : SameParts a c where
  kind := h'.kind.trans h.kind
  genset := h'.genset.trans h.genset
  job := h'.job.trans h.job
  feeder other := (h'.feeder (h.kind ▸ other)).trans (h.feeder other)

theorem numField_ok {α : Type} {lo hi : Nat} {v : FieldVal} {put : Nat → α} {r : α} {c : Bool}
    (h : numField lo hi v put = .ok r c) : ∃ n : Nat, r = put n := by
  unfold numField at h
  split at h
  · cases h; exact ⟨_, rfl⟩
  · cases h

theorem map_ok {α β : Type} {f : α → β} {x : FieldOut α} {r : β} {c : Bool} (h : x.map f = .ok r c) : ∃ a : α, r = f a := by
  cases x with
  | ok a c' => cases h; exact ⟨a, rfl⟩
  | noField => cases h
  | badShape => cases h
  | badValue => cases h

theorem setKindField_ok {r r' : UnitRec} {n : Nat} {v : FieldVal} {c : Bool} (h : setKindField r n v = .ok r' c) :
    SameParts r r' := by
  unfold setKindField at h
  split at h
  · obtain ⟨g, rfl⟩ := map_ok h
    exact {}
  · split at h
    · obtain ⟨x, rfl⟩ := numField_ok h
      exact {}
    · cases h
  next feeder =>
    obtain ⟨f, rfl⟩ := map_ok h
    exact { feeder := fun other => absurd feeder other }
  · cases h

/-- A field above 0 leaves a record's kind and its jobs' items. -/
theorem setUnitField_ok {r r' : UnitRec} {n : Nat} {v : FieldVal} {c : Bool} (pos : n ≠ 0)
    (h : setUnitField r n v = .ok r' c) : SameParts r r' := by
  have numeric {lo hi : Nat} {put : Nat → UnitRec} (same : ∀ x : Nat, SameParts r (put x))
      (stored : numField lo hi v put = .ok r' c) : SameParts r r' := by
    obtain ⟨x, rfl⟩ := numField_ok stored
    exact same x
  simp only [setUnitField, pos, if_false] at h
  split at h
  · cases h
  · split at h
    · split at h
      · cases h; exact {}
      · cases h
    · exact numeric (fun _ => {}) h
    · exact numeric (fun _ => {}) h
    · exact numeric (fun _ => {}) h
    · exact numeric (fun _ => {}) h
    · exact numeric (fun _ => {}) h
    · split at h
      · cases h; exact {}
      · cases h
    · exact numeric (fun _ => {}) h
    · exact numeric (fun _ => {}) h
    · split at h
      · cases h
      · exact setKindField_ok h

theorem setUnitField_zero_ok {r r' : UnitRec} {v : FieldVal} {c : Bool} (h : setUnitField r 0 v = .ok r' c) :
    ∃ k : UnitKind, r' = withKind r k := by
  simp only [setUnitField, if_true, codeField] at h
  split at h
  · split at h
    next k _ => cases h; exact ⟨k, rfl⟩
    · cases h
  · cases h

/-- A record as a rising mask leaves it: of the same kind with the same jobs' items, or of another with those of an empty
record. -/
structure UnitWritten (r r' : UnitRec) : Prop where
  same  : r'.kind = r.kind → SameParts r r'
  other : r'.kind ≠ r.kind → r'.gensetJob = {} ∧ r'.feederJob = {} ∧ (r'.kind ≠ .feeder → r'.feeder = {})

theorem withKind_cleared {r : UnitRec} {k : UnitKind} (h : r.kind ≠ k) :
    (withKind r k).kind = k ∧ (withKind r k).gensetJob = {} ∧ (withKind r k).feederJob = {} ∧ (withKind r k).feeder = {} := by
  simp only [withKind, beq_iff_eq, h, if_false]
  split
  next none => exact ⟨by rw [none], rfl, rfl, rfl⟩
  next => exact ⟨rfl, rfl, rfl, rfl⟩

theorem withKind_same (r : UnitRec) : withKind r r.kind = r := by simp [withKind]

theorem writeFields_unit {r r' : UnitRec} {mask : List Nat} {values : List FieldVal} {c : Bool} (rises : maskRises mask = true)
    (h : writeFields setUnitField r mask values = .ok r' c) : UnitWritten r r' := by
  have above {mask' : List Nat} {values' : List FieldVal} {x : UnitRec} {c' : Bool} (pos : ∀ n ∈ mask', n ≠ 0)
      (stored : writeFields setUnitField x mask' values' = .ok r' c') : SameParts x r' :=
    writeFields_keeps (R := SameParts) (p := (· ≠ 0)) (fun _ => {}) (fun _ _ _ => SameParts.trans) (fun _ _ _ _ _ => setUnitField_ok) pos stored
  have unchanged (same : SameParts r r') : UnitWritten r r' := ⟨fun _ => same, fun other => absurd same.kind other⟩
  cases mask with
  | nil => exact unchanged (above (by simp) h)
  | cons n ns =>
    by_cases zero : n = 0
    · subst zero
      cases values with
      | nil => cases h; exact unchanged {}
      | cons v vs =>
        obtain ⟨x, c', c'', stored, rest⟩ := writeFields_cons_ok h
        obtain ⟨k, rfl⟩ := setUnitField_zero_ok stored
        have later := above (maskRises_tail rises) rest
        by_cases same : r.kind = k
        · subst same
          rw [withKind_same] at later
          exact unchanged later
        · obtain ⟨kind, genset, job, feeder⟩ := withKind_cleared same
          refine ⟨fun eq => absurd (eq.symm.trans (later.kind.trans kind)) same, fun _ => ?_⟩
          refine ⟨later.genset.trans genset, later.job.trans job, fun other => ?_⟩
          exact (later.feeder (by rwa [later.kind] at other)).trans feeder
    · refine unchanged (above (fun m hm => ?_) h)
      rcases List.mem_cons.mp hm with rfl | later
      · exact zero
      · exact maskRises_tail rises m later

/-! ## WRITE RECORD to table UNIT keeps the invariants -/

/-- What the checks of a write to table UNIT leave (R189). -/
structure UnitAllowed (s : State) (u : UnitNo) (r : UnitRec) : Prop where
  free      : r.kind ≠ (s.unit u).kind → u ∉ s.dispatcher.commit ∧ u ∉ s.shed.stack.map StackEntry.feeder ∧
    u ∉ s.shed.pending.map PendingShed.feeder
  credit    : s.inFlight u ≤ r.credit
  permits   : ∀ (i : SlotNo) (o : Order), s.slot i = some o → o.target = u → r.permits.has o.kind = true
  essential : (s.unit u).kind = .feeder → r.kind = .feeder → r.feeder.essential ≠ (s.unit u).feeder.essential →
    u ∉ s.shed.stack.map StackEntry.feeder ∧ u ∉ s.shed.pending.map PendingShed.feeder ∧
      (s.unit u).feederJob.shed ≠ .restoring

theorem unitAllowed_of_unitInUse {s : State} {u : UnitNo} {r : UnitRec} (h : unitInUse s u r = false) : UnitAllowed s u r := by
  simp only [unitInUse, Bool.or_eq_false_iff, decide_eq_false_iff_not, not_lt] at h
  obtain ⟨⟨⟨held, credit⟩, permit⟩, essential⟩ := h
  refine ⟨fun other => ?_, credit, fun i o there target => ?_, fun was is differs => ?_⟩
  · have free : unitHeld s u = false := by
      simpa [Ne.symm other] using held
    simp only [unitHeld, Bool.or_eq_false_iff] at free
    obtain ⟨⟨⟨⟨-, commit⟩, stack⟩, pending⟩, -⟩ := free
    refine ⟨by simpa using commit, fun on => ?_, fun on => ?_⟩
    · rw [(onStack_iff s u).mpr on] at stack; cases stack
    · rw [(isPending_iff s u).mpr on] at pending; cases pending
  · by_contra lacks
    have drops : dropsPermit s u r.permits = true := by
      simp only [dropsPermit, List.any_eq_true]
      exact ⟨i, mem_allSlots i, by simp [there, target, lacks]⟩
    rw [permit] at drops
    cases drops
  · have kept : (onStack s u || isPending s u || (s.unit u).feederJob.shed == .restoring) = false := by
      simpa [changesEssential, was, is, Ne.symm differs] using essential
    simp only [Bool.or_eq_false_iff, beq_eq_false_iff_ne] at kept
    obtain ⟨⟨stack, pending⟩, restoring⟩ := kept
    refine ⟨fun on => ?_, fun on => ?_, restoring⟩
    · rw [(onStack_iff s u).mpr on] at stack; cases stack
    · rw [(isPending_iff s u).mpr on] at pending; cases pending

theorem setUnit_slotBounds {s : State} {u : UnitNo} {r : UnitRec} (allowed : UnitAllowed s u r) (bounds : SlotBounds s) :
    SlotBounds (s.setUnit u r) where
  credit v := by
    have bound := bounds.credit v
    rw [unit_setUnit]
    split
    next same => exact same ▸ allowed.credit
    next => exact bound
  nonUrgent := bounds.nonUrgent

theorem setUnit_permitted {s : State} {u : UnitNo} {r : UnitRec} (allowed : UnitAllowed s u r) (permitted : Permitted s) :
    Permitted (s.setUnit u r) := by
  intro i o there
  rw [unit_setUnit]
  split
  next target => exact allowed.permits i o there target
  next => exact permitted i o there

theorem setUnit_commitExact {s : State} {u : UnitNo} {r : UnitRec} (allowed : UnitAllowed s u r)
    (written : UnitWritten (s.unit u) r) (exact : CommitExact s) : CommitExact (s.setUnit u r) := by
  by_cases same : r.kind = (s.unit u).kind
  · refine exact.of_same rfl fun v => ?_
    rw [unit_setUnit]
    split
    next eq => rw [eq]; exact ⟨same, (written.same same).genset⟩
    next => exact ⟨rfl, rfl⟩
  · obtain ⟨cleared, -, -⟩ := written.other same
    refine ⟨exact.once, fun v => ?_, fun v other => ?_⟩
    · rw [unit_setUnit]
      split
      next eq =>
        rw [eq, cleared]
        exact ⟨fun on => absurd on (allowed.free same).1, fun ⟨_, committed⟩ => by cases committed⟩
      next => exact exact.exact v
    · rw [unit_setUnit] at other ⊢
      split at other
      next eq => rw [if_pos eq, cleared]
      next eq => rw [if_neg eq]; exact exact.others v other

theorem setUnit_stackExact {s : State} {u : UnitNo} {r : UnitRec} (allowed : UnitAllowed s u r)
    (written : UnitWritten (s.unit u) r) (exact : StackExact s) : StackExact (s.setUnit u r) := by
  have off (free : u ∉ s.shed.stack.map StackEntry.feeder ∧ u ∉ s.shed.pending.map PendingShed.feeder)
      (out : stacked r.feederJob.shed = false) (others : r.kind ≠ .feeder → r.feederJob = {} ∧ r.feeder = {}) :
      StackExact (s.setUnit u r) := by
    refine ⟨exact.once, fun v => ?_, fun v essential => ?_, ⟨exact.pending.1, fun v there => ?_⟩, fun v other => ?_⟩
    · rw [unit_setUnit]
      split
      next eq => rw [eq, out]; exact ⟨fun on => absurd on free.1, fun ⟨_, _, on⟩ => by cases on⟩
      next => exact exact.exact v
    · rw [unit_setUnit] at essential ⊢
      split
      next => exact ⟨fun on => (by rw [on] at out; cases out), fun on => (by rw [on] at out; cases out)⟩
      next eq => rw [if_neg eq] at essential; exact exact.plain v essential
    · have other : v ≠ u := fun eq => free.2 (eq ▸ there)
      rw [unit_setUnit_ne other]
      exact exact.pending.2 v there
    · rw [unit_setUnit] at other ⊢
      split
      next eq => rw [if_pos eq] at other; exact others other
      next eq => rw [if_neg eq] at other; exact exact.others v other
  by_cases same : r.kind = (s.unit u).kind
  · have parts := written.same same
    by_cases essential : r.kind = .feeder ∧ r.feeder.essential ≠ (s.unit u).feeder.essential
    · obtain ⟨feeder, differs⟩ := essential
      obtain ⟨stack, pending, restoring⟩ := allowed.essential (same ▸ feeder) feeder differs
      refine off ⟨stack, pending⟩ ?_ fun other => absurd feeder other
      rw [parts.job, ← Bool.not_eq_true]
      intro on
      cases was : (s.unit u).feeder.essential with
      | false => exact stack ((exact.exact u).mpr ⟨same ▸ feeder, was, on⟩)
      | true =>
        obtain ⟨opening, shed⟩ := exact.plain u was
        cases now : (s.unit u).feederJob.shed with
        | opening => exact opening now
        | shed => exact shed now
        | restoring => exact restoring now
        | unknown | closed | openOther | openPlan => rw [now] at on; cases on
    · refine exact.of_essential rfl (.refl _) fun v => ?_
      rw [unit_setUnit]
      split
      next eq =>
        subst eq
        refine ⟨same, ?_, by rw [parts.job], fun other => ⟨parts.job, parts.feeder other⟩⟩
        by_cases feeder : r.kind = .feeder
        · exact by_contra fun differs => essential ⟨feeder, differs⟩
        · rw [parts.feeder (same ▸ feeder)]
      next => exact ⟨rfl, rfl, rfl, fun _ => ⟨rfl, rfl⟩⟩
  · obtain ⟨-, job, feeder⟩ := written.other same
    obtain ⟨-, stack, pending⟩ := allowed.free same
    exact off ⟨stack, pending⟩ (by rw [job]; rfl) fun other => ⟨job, feeder other⟩

end Sys2Proof.Machine
end

section
/-! Every service request and every command keeps what `Kept` asks of it. -/

namespace Sys2Proof.Machine

variable {i : Instr}

/-! ## WRITE RECORD -/

theorem refusal_kept (s : State) (why : Status) : Kept i s (refusal s why).state := .refl s

theorem setUnit_kept {s : State} {u : UnitNo} {r : UnitRec} (allowed : UnitAllowed s u r)
    (written : UnitWritten (s.unit u) r) : Kept .writeRecord s (s.setUnit u r) where
  station := rfl
  schedule := rfl
  queue := rfl
  config other := absurd rfl other
  latched _ _ _ h := h
  log _ _ _ h := h
  planMode := id
  slotBounds := setUnit_slotBounds allowed
  permitted := setUnit_permitted allowed
  commit := setUnit_commitExact allowed written
  stack := setUnit_stackExact allowed written

theorem writeUnit_kept (s : State) (u : UnitNo) {mask : List Nat} (rises : maskRises mask = true) (values : List FieldVal) :
    Kept .writeRecord s (writeUnit s u mask values).state := by
  unfold writeUnit
  split
  · exact refusal_kept s _
  next stored =>
    split
    · exact refusal_kept s _
    · split
      · exact refusal_kept s _
      next free =>
        exact setUnit_kept (unitAllowed_of_unitInUse (by simpa using free)) (writeFields_unit rises stored)

theorem trackerWrite_kept (s : State) : Kept i s (trackerWrite s) := (restartTracker_moves s _).kept

theorem writePlan_kept (s : State) (k : Fin 32) (mask : List Nat) (values : List FieldVal) :
    Kept .writeRecord s (writePlan s k mask values).state := by
  unfold writePlan
  split
  · exact refusal_kept s _
  · split
    · exact refusal_kept s _
    · exact Still.kept { config := fun other => absurd rfl other }

theorem writeStage_kept (s : State) (n : Fin 6) (mask : List Nat) (values : List FieldVal) :
    Kept .writeRecord s (writeStage s n mask values).state := by
  unfold writeStage
  split
  · exact refusal_kept s _
  · exact Still.kept { config := fun other => absurd rfl other }

theorem writeRoute_kept (s : State) (k : Fin 26) (mask : List Nat) (values : List FieldVal) :
    Kept .writeRecord s (writeRoute s k mask values).state := by
  unfold writeRoute
  split
  · exact refusal_kept s _
  · exact Still.kept { config := fun other => absurd rfl other }

theorem writePhase_kept (s : State) (k : Fin 16) (mask : List Nat) (values : List FieldVal) :
    Kept .writeRecord s (writePhase s k mask values).state := by
  unfold writePhase
  split
  · exact refusal_kept s _
  · simp only
    split
    · exact Still.kept { config := fun other => absurd rfl other }
    · exact refusal_kept s _

theorem writeSettings_kept (s : State) (mask : List Nat) (values : List FieldVal) :
    Kept .writeRecord s (writeSettings s mask values).state := by
  unfold writeSettings
  split
  · exact refusal_kept s _
  next r c _ =>
    have stored : Kept .writeRecord s { s with service := { s.service with settings := r } } :=
      Still.kept { config := fun other => absurd rfl other }
    simp only
    split
    · exact stored.trans ((riseIfNew_work _ _ _).kept.trans (trackerWrite_kept _))
    · exact stored.trans (riseIfNew_work _ _ _).kept

theorem writeAccess_kept (s : State) (mask : List Nat) (values : List FieldVal) :
    Kept .writeRecord s (writeAccess s mask values).state := by
  unfold writeAccess
  split
  · exact refusal_kept s _
  next r c _ =>
    have stored (x y : Option Port) : Kept .writeRecord s { s with
        service := { s.service with access := r }, events := { s.events with primarySide := x, backupSide := y } } :=
      Still.kept { config := fun other => absurd rfl other }
    simp only
    split
    · exact (stored _ _).trans (trackerWrite_kept _)
    · exact stored _ _

theorem writeTable_kept (s : State) (table index : Nat) {mask : List Nat} (rises : maskRises mask = true)
    (values : List FieldVal) : Kept .writeRecord s (writeTable s table index mask values).state := by
  unfold writeTable
  split
  · exact refusal_kept s _
  · split
    · exact refusal_kept s _
    · split
      · exact writeUnit_kept s _ rises values
      · exact writePlan_kept s _ mask values
      · exact writeStage_kept s _ mask values
      · exact writeRoute_kept s _ mask values
      · exact writePhase_kept s _ mask values
      · exact writeSettings_kept s mask values
      · exact writeAccess_kept s mask values

/-- The mask of a WRITE RECORD that is served rises (R188). -/
theorem maskRises_of_isKind {r : Request} {table index : Nat} {mask : List Nat} {values : List FieldVal}
    (h : isKind 1 r = true) (args : r.args = .write table index mask values) : maskRises mask = true := by
  simp only [isKind, Bool.and_eq_true, beq_iff_eq] at h
  obtain ⟨kind, fits⟩ := h
  simp only [args, argsFit, kind, Bool.and_eq_true] at fits
  exact fits.1

theorem serveWrite_kept (s : State) {r : Request} (kind : isKind 1 r = true) :
    Kept .writeRecord s (serveWrite s r).state := by
  unfold serveWrite
  split
  next args => exact writeTable_kept s _ _ (maskRises_of_isKind kind args) _
  · exact refusal_kept s _

/-! ## The other requests -/

theorem serveRead_kept (s : State) (r : Request) : Kept i s (serveRead s r).state := by
  unfold serveRead
  split
  · split
    · exact .refl s
    · split
      · exact .refl s
      · split <;> exact .refl s
  · exact .refl s

theorem serveReadEvents_kept (s : State) (r : Request) : Kept i s (serveReadEvents s r).state := by
  unfold serveReadEvents
  split
  · split <;> exact .refl s
  · exact .refl s

theorem serveAck_kept (s : State) (r : Request) : Kept .ackEvents s (serveAck s r).state := by
  unfold serveAck
  split
  · split
    · exact .refl s
    · exact Still.kept { log := fun other => absurd rfl other }
  · exact .refl s

theorem clearConditionFlags_kept (s : State) (mask : BitVec 14) : Kept .clearConditions s (clearConditionFlags s mask) := by
  have cleared (l : BitVec 14) : Kept .clearConditions s { s with events := { s.events with latched := l } } :=
    Still.kept { latched := fun other => absurd rfl other }
  unfold clearConditionFlags
  refine (cleared (s.events.latched &&& ~~~mask)).trans ?_
  refine Kept.foldl (fun t c => ?_) allConditions _
  split
  · exact .rise t c
  · exact .refl t

theorem serveClear_kept (s : State) (r : Request) : Kept .clearConditions s (serveClear s r).state := by
  unfold serveClear
  split
  · exact clearConditionFlags_kept s _
  · exact .refl s

theorem serveOverflow_kept (s : State) (r : Request) : Kept i s (serveOverflow s r).state := by
  unfold serveOverflow
  simp only
  split
  · exact Still.kept {}
  · exact .refl s

/-- A change between two modes other than RESTORE. -/
theorem changeMode_planShifts {s : State} {m : Mode} (left : s.mode ≠ .restore) (entered : m ≠ .restore) :
    PlanShifts s (changeMode s m) where
  shifts := changeMode_shifts s m
  planMode agree := by
    rw [PlanMode, changeMode_planState, changeMode_mode]
    exact agree.trans (iff_of_false left entered)

theorem setModeTo_shifts {s t : State} {m : Mode} (h : setModeTo s m = some t) : PlanShifts s t := by
  unfold setModeTo at h
  split at h
  · cases h; exact .refl s
  · have named {m' : Mode} (left : s.mode ≠ .restore) (entered : m' ≠ .restore)
        (made : (if referenceNamed s then some (changeMode s m') else none) = some t) : PlanShifts s t := by
      split at made
      · cases made; exact changeMode_planShifts left entered
      · cases made
    split at h
    next mode _ => exact named (by rw [mode]; decide) (by decide) h
    next mode _ => exact named (by rw [mode]; decide) (by decide) h
    next mode _ => cases h; exact changeMode_planShifts (by rw [mode]; decide) (by decide)
    next mode _ => cases h; exact changeMode_planShifts (by rw [mode]; decide) (by decide)
    next => cases h; exact planAbort_shifts s 6 (by decide)
    next other => cases h; exact changeMode_planShifts other (by decide)
    next => cases h

theorem serveMode_kept (s : State) (r : Request) : Kept i s (serveMode s r).state := by
  unfold serveMode
  split
  · split
    · exact .refl s
    · split
      · exact .refl s
      next changed => exact (setModeTo_shifts changed).kept
  · exact .refl s

theorem serveCancel_kept (s : State) (r : Request) : Kept i s (serveCancel s r).state := by
  unfold serveCancel
  split
  · split
    · exact .refl s
    · exact (cancelOrders_duties s _).kept.trans ((settle_shifts _).kept.trans (recordCancelled_duties _ _ _).kept)
  · exact .refl s

theorem serveStartPlan_kept (s : State) (r : Request) : Kept i s (serveStartPlan s r).state := by
  unfold serveStartPlan
  split
  · exact (planStart_shifts s).kept.trans (settle_shifts _).kept
  · exact .refl s

theorem serveAbortPlan_kept (s : State) (r : Request) : Kept i s (serveAbortPlan s r).state := by
  unfold serveAbortPlan
  split
  · exact (planAbort_shifts s 5 (by decide)).kept.trans (settle_shifts _).kept
  · exact .refl s

theorem releaseEssential_moves {s : State} {u : UnitNo} (feeder : (s.unit u).kind = .feeder)
    (essential : (s.unit u).feeder.essential = true) : Moves s (releaseEssential s u).state := by
  unfold releaseEssential
  split
  next asked =>
    have made := requestOrder_moves asked
    exact made.trans (closeCreated_moves (.inr (.inr ⟨rfl, (made.frame.kind u).trans feeder, by
      rw [made.frame.feeder u, essential]⟩)) _ _)
  next asked => exact requestOrder_moves asked
  next asked => exact requestOrder_moves asked

theorem releaseFeederUnit_moves (s : State) (u : UnitNo) : Moves s (releaseFeederUnit s u).state := by
  unfold releaseFeederUnit
  simp only
  split
  · exact .refl s
  next kind =>
    have feeder : (s.unit u).kind = .feeder := by simpa using kind
    split
    · exact .refl s
    next state =>
      have out : (s.unit u).feederJob.shed = .openOther := by simpa using state
      split
      next plain =>
        have may : MayBePushed s u := .inr ⟨feeder, by simpa using plain, by rw [out]; rfl⟩
        simp only
        exact releaseToStack_moves may .manual
      next essential =>
        split
        · exact .refl s
        · split
          · exact .refl s
          · exact releaseEssential_moves feeder (by simpa using essential)

theorem serveRelease_kept (s : State) (r : Request) : Kept i s (serveRelease s r).state := by
  unfold serveRelease
  split
  · split
    · exact .refl s
    · exact (releaseFeederUnit_moves s _).kept
  · exact .refl s

theorem resetLockoutUnit_moves (s : State) (u : UnitNo) : Moves s (resetLockoutUnit s u).state := by
  unfold resetLockoutUnit
  simp only
  split
  · exact .refl s
  next kind =>
    split
    · exact (releaseLockout_duties (.inl (by simpa using kind))).moves
    · exact .refl s

theorem serveLockout_kept (s : State) (r : Request) : Kept i s (serveLockout s r).state := by
  unfold serveLockout
  split
  · split
    · exact .refl s
    · exact (resetLockoutUnit_moves s _).kept
  · exact .refl s

/-! ## ENGINE RESET -/

theorem resetEngineState_unit (s : State) (u : UnitNo) : (resetEngineState s).unit u = resetUnit (s.unit u) := by
  simp [resetEngineState, resetOrders, State.unit, vectorGet]

theorem resetEngineState_slot (s : State) (j : SlotNo) : (resetEngineState s).slot j = none := by
  simp [resetEngineState, resetOrders, State.slot, vectorGet]

theorem slotBounds_of_empty {s : State} (h : ∀ j : SlotNo, s.slot j = none) : SlotBounds s where
  credit u := by simp [State.inFlight, h]
  nonUrgent := by simp [State.nonUrgent, h]

theorem resetEngineState_kept (s : State) : Kept .engineReset s (resetEngineState s) where
  station := rfl
  schedule := rfl
  queue := rfl
  config _ := ⟨rfl, rfl, rfl, rfl, rfl, rfl, fun u => by rw [resetEngineState_unit]; rfl⟩
  latched _ other := absurd rfl other
  log _ _ _ h := h
  planMode _ := ⟨fun h => (by cases h), fun h => (by cases h)⟩
  slotBounds _ := slotBounds_of_empty (resetEngineState_slot s)
  permitted _ j o there := by rw [resetEngineState_slot] at there; cases there
  commit _ := by
    refine ⟨List.nodup_nil, fun u => ?_, fun u _ => ?_⟩
    · rw [resetEngineState_unit]
      exact ⟨fun on => (by cases on), fun ⟨_, committed⟩ => (by cases committed)⟩
    · rw [resetEngineState_unit]; rfl
  stack exact := by
    refine ⟨List.nodup_nil, fun u => ?_, fun u _ => ?_, ⟨List.nodup_nil, fun u there => by cases there⟩, fun u other => ?_⟩
    · rw [resetEngineState_unit]
      exact ⟨fun on => (by cases on), fun ⟨_, _, on⟩ => (by cases on)⟩
    · rw [resetEngineState_unit]
      exact ⟨(by cases ·), (by cases ·)⟩
    · rw [resetEngineState_unit] at other ⊢
      exact ⟨rfl, (exact.others u other).2⟩

theorem engineResetEffect_kept (s : State) : Kept .engineReset s (engineResetEffect s) := by
  have moded (t : State) : Kept .engineReset t (if s.mode == .observe then t
      else record t .modeChanged none (some (s.mode.code : Int)) (some Mode.observe.code)) := by
    split
    · exact .refl t
    · exact .record _ _ _ _ _
  have sourced (t : State) : Kept .engineReset t (if s.tracker.state == .unset then t
      else record t .epochSourceChanged none (some (s.tracker.state.code : Int)) (some EpochState.unset.code)) := by
    split
    · exact .refl t
    · exact .record _ _ _ _ _
  have relatched (t : State) : Kept .engineReset t (relatchHeld t) := by
    refine Kept.foldl (fun t c => ?_) allConditions t
    split
    · exact .rise t c
    · exact .refl t
  exact (((resetEngineState_kept s).trans (.record _ _ _ _ _)).trans (moded _)).trans ((sourced _).trans (relatched _))

theorem serveEngineReset_kept (s : State) (r : Request) : Kept .engineReset s (serveEngineReset s r).state := by
  simp only [serveEngineReset]
  exact engineResetEffect_kept s

theorem serveState_kept (s : State) (r : Request) : Kept i s (serveState s r).state := .refl s

theorem serveUnknown_kept (s : State) (r : Request) : Kept i s (serveUnknown s r).state := .refl s

/-! ## Every command -/

theorem takeRequest_kept (s : State) (r : Request) : Kept i s (takeRequest s r) := by
  have noted : Kept i s (noteSides s r) := Still.kept {}
  have queued (t : State) : Kept i t { t with service := { t.service with queue := t.service.queue ++ [r] } } := Still.kept {}
  unfold takeRequest
  split
  · exact .refl s
  · simp only
    split
    · exact noted.trans (queued _)
    · split
      · exact noted.trans (joinReport_work _ _).kept
      · exact noted

/-- What FREE_RUN_EXPIRY does (R28). -/
def freeRunDue (s : State) : State :=
  match s.tracker.freeDeadline with
  | none => s
  | some d => if s.tracker.state == .freeRun && reached s.now d then freeRunStep s d else s

theorem exec_freeRunExpiry (s : State) : exec .freeRunExpiry s = act s freeRunDue := rfl

/-- What PASS_COMPLETION does (R101). -/
def passDue (s : State) : State :=
  match s.balance.working with
  | none => s
  | some sn => completePass s sn

theorem ite_kept {s t : State} {c : Bool} (h : c = true → Kept i s t) : Kept i s (if c then t else s) := by
  split
  next taken => exact h taken
  next => exact .refl s

theorem act_ite_kept {s t : State} {c : State → Bool} {f : State → State} (kept : c s = true → Kept i s (f s))
    (h : act s (fun s => if c s then f s else s) = .next t) : Kept i s t := act_kept (ite_kept kept) h

theorem freeRunDue_kept (s : State) : Kept i s (freeRunDue s) := by
  unfold freeRunDue
  split
  · exact .refl s
  · exact ite_kept fun _ => freeRunStep_kept s _

theorem passDue_kept (s : State) : Kept i s (passDue s) := by
  unfold passDue
  split
  · exact .refl s
  · exact completePass_kept s _

theorem tick_kept (s : State) : Kept i s { s with now := s.now + 1 } := Still.kept {}

/-- A link change in power-on reset moves the link state alone. -/
theorem linkChange_kept {s t : State} {p : Port} {b : Bool} {f : State → State} (acts : Kept i s (f s))
    (h : (if s.inReset then Host.Outcome.next (s.setPort p { s.port p with up := b }) else act s f) = .next t) : Kept i s t := by
  split at h
  · cases h; exact setPort_kept s p _
  · exact act_kept acts h

theorem startTimeout_kept (s : State) (u : UnitNo)
    (due : ((s.unit u).dispatchIs .starting && dueAt s.now (s.unit u).gensetJob.deadline) = true) :
    Kept i s (failedAttempt s u 3) := by
  simp only [Bool.and_eq_true] at due
  exact (failedAttempt_duties (hasGensetItems_of_dispatchIs due.1) 3).kept

theorem stopTimeout_kept (s : State) (u : UnitNo)
    (due : ((s.unit u).dispatchIs .stopping && dueAt s.now (s.unit u).gensetJob.deadline) = true) :
    Kept i s (stopEnds s u (if (s.unit u).live.values.breaker == .opn then 2 else 3)) := by
  simp only [Bool.and_eq_true] at due
  exact (stopEnds_duties (hasGensetItems_of_dispatchIs due.1) _).kept

theorem restoreTimeout_kept (s : State) (u : UnitNo)
    (due : ((s.unit u).shedIs .restoring && dueAt s.now (s.unit u).feederJob.deadline) = true) :
    Kept i s (restoreFails s u) := by
  simp only [Bool.and_eq_true] at due
  exact (restoreFails_moves (.of_shed (shedIs_iff.mp due.1).2 (by decide))).kept

/-- A command that serves the head of the Service Queue keeps what its handler keeps. -/
theorem serve_act_kept {s t : State} {wanted : Request → Bool} {handler : State → Request → Served}
    (kept : ∀ (v : State) (r : Request), wanted r = true → Kept i v (handler v r).state)
    (h : act s (fun s => serve s wanted handler) = .next t) : Kept i s t := act_kept (serve_kept kept) h

/-- Every command but power-on reset and its end keeps the configuration, the conditions, the log and the invariants, as
`Kept` asks of it. -/
theorem exec_kept {s t : State} (runs : notPowerReset i = true) (h : exec i s = .next t) : Kept i s t := by
  cases i with
  | powerOnReset => cases runs
  | powerOnResetEnd => cases runs
  | linkDown p => exact linkChange_kept (portDown_kept s p) h
  | linkUp p => exact linkChange_kept (portUp_kept s p) h
  | timebaseTick => exact act_kept (f := fun s => { s with now := s.now + 1 }) (tick_kept s) h
  | frameArrivalStart p => exact act_kept (f := (arrivalStart · p)) (arrivalStart_kept s p) h
  | frameAddressesReceived p dst src => exact act_kept (f := (addressesIn · p dst src)) (addressesIn_kept s p dst src) h
  | frameReceptionEnd p rest bad part =>
    exact act_kept (f := (receptionEnd · p rest bad part)) (receptionEnd_kept s p rest bad part) h
  | transmitEnd p => exact act_kept (f := (transmitOver · p)) (transmitOver_kept s p) h
  | epochMark m =>
    exact act_kept (f := fun s => takeMark (takeDelivery s (.mark m)) m) ((takeDelivery_kept s _).trans (takeMark_kept _ m)) h
  | unsetDeadlineExpiry =>
    unfold exec execUnsetDeadlineExpiry at h
    exact act_ite_kept (fun _ => unsetExpiry_kept s) h
  | primaryLoss =>
    unfold exec execPrimaryLoss at h
    exact act_ite_kept (fun _ => losePrimary_kept s) h
  | secondaryLoss =>
    unfold exec execSecondaryLoss at h
    exact act_ite_kept (fun _ => loseSecondary_kept s) h
  | freeRunExpiry => exact act_kept (f := freeRunDue) (freeRunDue_kept s) h
  | passCompletion => exact act_kept (f := passDue) (passDue_kept s) h
  | reading r =>
    exact act_kept (f := fun s => takeReading (takeDelivery s (.reading r)) r)
      ((takeDelivery_kept s _).trans (takeReading_kept _ r)) h
  | observedOrder o =>
    exact act_kept (f := fun s => takeObserved (takeDelivery s (.observed o)) o)
      ((takeDelivery_kept s _).trans (takeObserved_kept _ o)) h
  | manualHoldEnd u => exact act_kept (f := (endHold · u)) (endHold_kept s u) h
  | orderReply r =>
    exact act_kept (f := fun s => takeReply (takeDelivery s (.reply r)) r)
      ((takeDelivery_kept s _).trans (takeReply_kept _ r)) h
  | replyTimeout j => exact act_kept (f := (replyExpiry · j)) (replyExpiry_kept s j) h
  | startTimeout u =>
    unfold exec execStartTimeout at h
    exact act_ite_kept (startTimeout_kept s u) h
  | stopTimeout u =>
    unfold exec execStopTimeout at h
    exact act_ite_kept (stopTimeout_kept s u) h
  | restoreTimeout u =>
    unfold exec execRestoreTimeout at h
    exact act_ite_kept (restoreTimeout_kept s u) h
  | stepTimeout =>
    unfold exec execStepTimeout at h
    exact act_ite_kept (fun _ => (stepFail_moves s 1 _).kept) h
  | serviceRequest r =>
    exact act_kept (f := fun s => takeRequest (takeDelivery s (.request r)) r)
      ((takeDelivery_kept s _).trans (takeRequest_kept _ r)) h
  | writeRecord =>
    unfold exec execWriteRecord at h
    exact serve_act_kept (wanted := isKind 1) (handler := serveWrite) (fun v _ kind => serveWrite_kept v kind) h
  | readRecord =>
    unfold exec execReadRecord at h
    exact serve_act_kept (fun v r _ => serveRead_kept v r) h
  | readState =>
    unfold exec execReadState at h
    exact serve_act_kept (fun v r _ => serveState_kept v r) h
  | readEvents =>
    unfold exec execReadEvents at h
    exact serve_act_kept (fun v r _ => serveReadEvents_kept v r) h
  | ackEvents =>
    unfold exec execAckEvents at h
    exact serve_act_kept (fun v r _ => serveAck_kept v r) h
  | clearConditions =>
    unfold exec execClearConditions at h
    exact serve_act_kept (fun v r _ => serveClear_kept v r) h
  | clearOverflow =>
    unfold exec execClearOverflow at h
    exact serve_act_kept (fun v r _ => serveOverflow_kept v r) h
  | setMode =>
    unfold exec execSetMode at h
    exact serve_act_kept (fun v r _ => serveMode_kept v r) h
  | cancelOrders =>
    unfold exec execCancelOrders at h
    exact serve_act_kept (fun v r _ => serveCancel_kept v r) h
  | startPlan =>
    unfold exec execStartPlan at h
    exact serve_act_kept (fun v r _ => serveStartPlan_kept v r) h
  | abortPlan =>
    unfold exec execAbortPlan at h
    exact serve_act_kept (fun v r _ => serveAbortPlan_kept v r) h
  | releaseFeeder =>
    unfold exec execReleaseFeeder at h
    exact serve_act_kept (fun v r _ => serveRelease_kept v r) h
  | resetLockout =>
    unfold exec execResetLockout at h
    exact serve_act_kept (fun v r _ => serveLockout_kept v r) h
  | engineReset =>
    unfold exec execEngineReset at h
    exact serve_act_kept (fun v r _ => serveEngineReset_kept v r) h
  | unknownRequestKind =>
    unfold exec execUnknownRequestKind at h
    exact serve_act_kept (fun v r _ => serveUnknown_kept v r) h

end Sys2Proof.Machine
end

section
/-! The statements about every command, and the five invariants. -/

namespace Sys2Proof.Machine

/-! ## Power-on reset -/

/-- A state whose blocks hold their power-on values, but for the Frame Path, the commands that wait and the schedule. -/
structure PoweredOn (t : State) : Prop where
  units      : t.units = State.powerOn.units
  dispatcher : t.dispatcher = State.powerOn.dispatcher
  shed       : t.shed = State.powerOn.shed
  seqr       : t.seqr = State.powerOn.seqr
  orders     : t.orders = State.powerOn.orders
  service    : t.service = State.powerOn.service

theorem PoweredOn.unit {t : State} (h : PoweredOn t) (u : UnitNo) : t.unit u = {} := by
  rw [unit_of_units h.units]
  simp [State.powerOn, State.unit, vectorGet]

theorem PoweredOn.slot {t : State} (h : PoweredOn t) (j : SlotNo) : t.slot j = none := by
  rw [slot_of_slots (congrArg Transactor.slots h.orders)]
  simp [State.powerOn, State.slot, vectorGet]

theorem PoweredOn.planMode {t : State} (h : PoweredOn t) : PlanMode t := by
  rw [PlanMode, State.progress, State.mode, h.seqr, h.service]
  decide

theorem PoweredOn.slotBounds {t : State} (h : PoweredOn t) : SlotBounds t := slotBounds_of_empty h.slot

theorem PoweredOn.permitted {t : State} (h : PoweredOn t) : Permitted t := by
  intro j o there
  rw [h.slot] at there
  cases there

theorem PoweredOn.commitExact {t : State} (h : PoweredOn t) : CommitExact t := by
  have empty : t.dispatcher.commit = [] := by rw [h.dispatcher]; rfl
  refine ⟨by rw [empty]; exact List.nodup_nil, fun u => ?_, fun u _ => by rw [h.unit]⟩
  rw [empty, h.unit]
  exact ⟨fun on => (by cases on), fun ⟨_, committed⟩ => (by cases committed)⟩

theorem PoweredOn.stackExact {t : State} (h : PoweredOn t) : StackExact t := by
  have stack : t.shed.stack = [] := by rw [h.shed]; rfl
  have pending : t.shed.pending = [] := by rw [h.shed]; rfl
  constructor
  · rw [stack]; exact List.nodup_nil
  · intro u
    rw [stack, h.unit]
    exact ⟨fun on => (by cases on), fun ⟨_, _, on⟩ => (by cases on)⟩
  · intro u _
    rw [h.unit]
    exact ⟨(by cases ·), (by cases ·)⟩
  · rw [pending]
    exact ⟨List.nodup_nil, fun u there => (by cases there)⟩
  · intro u _
    rw [h.unit]
    exact ⟨rfl, rfl⟩

theorem poweredOn_powerLow (s : State) : PoweredOn (powerLow s) := ⟨rfl, rfl, rfl, rfl, rfl, rfl⟩

theorem poweredOn_powerUp (s : State) (straps : Byte) (paUp pbUp : Bool) : PoweredOn (powerUp s straps paUp pbUp) :=
  ⟨rfl, rfl, rfl, rfl, rfl, rfl⟩

theorem poweredOn_reset : PoweredOn State.reset := ⟨rfl, rfl, rfl, rfl, rfl, rfl⟩

/-- A command is one that `exec_kept` speaks of, or leaves the part powered on, or changes nothing. -/
theorem exec_cases {i : Instr} {s t : State} (h : exec i s = .next t) : Kept i s t ∨ PoweredOn t ∨ t = s := by
  by_cases runs : notPowerReset i = true
  · exact .inl (exec_kept runs h)
  · cases i with
    | powerOnReset =>
      cases h
      exact .inr (.inl (poweredOn_powerLow s))
    | powerOnResetEnd straps paUp pbUp =>
      cases h
      split
      · exact .inr (.inl (poweredOn_powerUp s straps paUp pbUp))
      · exact .inr (.inr rfl)
    | _ => exact absurd rfl runs

/-- What every command keeps, and a part powered on has, every step keeps; the commands that wait do not matter to it. -/
theorem step_keeps {P : State → Prop} (waiting : ∀ (s : State) (l : List Instr), P s → P { s with pending := l })
    (kept : ∀ (i : Instr) (s t : State), Kept i s t → P s → P t) (power : ∀ t : State, PoweredOn t → P t) {s t : State}
    (h : P s) (done : step s = .next t) : P t := by
  unfold step at done
  split at done
  · cases done; exact h
  · rcases exec_cases done with keeps | on | rfl
    · exact kept _ _ t keeps (waiting s _ h)
    · exact power t on
    · exact waiting s _ h

/-! ## The statements about every command -/

/-- Settles O2: each command's own effect and the hand-offs it makes are chains of moves, none of which touches the three. -/
theorem commandsKeepQueueAndStation : Obligations.CommandsKeepQueueAndStation := by
  intro i s t done
  by_cases runs : notPowerReset i = true
  · have kept := exec_kept runs done
    exact ⟨kept.queue, kept.schedule, fun _ => kept.station⟩
  · cases i with
    | powerOnReset => cases done; exact ⟨rfl, rfl, fun h => absurd h runs⟩
    | powerOnResetEnd straps paUp pbUp =>
      cases done
      split <;> exact ⟨rfl, rfl, fun h => absurd h runs⟩
    | _ => exact absurd rfl runs

/-- Settles O3: no move of a block writes configuration, and WRITE RECORD alone has an effect of its own that does. -/
theorem configurationChangesByWriteAlone : Obligations.ConfigurationChangesByWriteAlone :=
  fun _ _ _ runs other done => (exec_kept runs done).config other

/-- Settles O4: of the updates that commands make, CLEAR CONDITIONS and an engine reset alone unlatch a condition. -/
theorem latchedConditionsStay : Obligations.LatchedConditionsStay :=
  fun _ _ _ c runs clear reset done => (exec_kept runs done).latched clear reset c

/-- Settles O5: recording takes an empty slot of the log, and ACK EVENTS alone empties one. -/
theorem logRecordsStayUntilAcknowledged : Obligations.LogRecordsStayUntilAcknowledged :=
  fun _ _ _ k e runs ack done => (exec_kept runs done).log ack k e

/-! ## The invariants -/

/-- Settles O6: the plan state and the mode change together, at the start of a plan and at each of its ends. -/
theorem planRunsExactlyInRestore : Obligations.PlanRunsExactlyInRestore :=
  fun _ _ => step_keeps (fun _ _ h => h) (fun _ _ _ kept => kept.planMode) fun _ => PoweredOn.planMode

/-- Settles O7: a request is answered CREATED within the bounds alone, every other update of the slots frees one or keeps its
order's target and class, and the credit is not written below the orders in flight. -/
theorem slotBoundsKept : Obligations.SlotBoundsKept :=
  fun _ _ => step_keeps (fun _ _ h => ⟨h.credit, h.nonUrgent⟩) (fun _ _ _ kept => kept.slotBounds) fun _ =>
    PoweredOn.slotBounds

/-- Settles O8: CREATED and COALESCED are answered for permitted kinds alone, and a permitted-order set is not written without a
kind that a slot holds. -/
theorem slotsHoldPermittedOrders : Obligations.SlotsHoldPermittedOrders :=
  fun _ _ => step_keeps (fun _ _ h => h) (fun _ _ _ kept => kept.permitted) fun _ => PoweredOn.permitted

/-- Settles O9: the list follows each entry of a gen-set into a dispatch state, and the kind of a unit on it is not written. -/
theorem commitmentListExact : Obligations.CommitmentListExact :=
  fun _ _ => step_keeps (fun _ _ h => h.of_same rfl fun _ => ⟨rfl, rfl⟩) (fun _ _ _ kept => kept.commit) fun _ =>
    PoweredOn.commitExact

/-- Settles O10: a feeder is pushed as it enters a stacked state from outside, leaves the stack as it enters a state outside, and
its kind and essential flag are not written while it is on the stack or pending. -/
theorem shedStackExact : Obligations.ShedStackExact :=
  fun _ _ => step_keeps (fun _ _ h => h.of_units rfl rfl) (fun _ _ _ kept => kept.stack) fun _ => PoweredOn.stackExact

/-- Settles O11: every block that they speak of is at its power-on values. -/
theorem invariantsHoldAtReset : Obligations.InvariantsHoldAtReset :=
  ⟨poweredOn_reset.planMode, poweredOn_reset.slotBounds, poweredOn_reset.permitted, poweredOn_reset.commitExact,
    poweredOn_reset.stackExact⟩

/-- Settles O1. -/
theorem stepTakesTheFrontCommand : Obligations.StepTakesTheFrontCommand := by
  refine ⟨fun _ _ => rfl, fun s c rest waits => ?_, fun s empty => ?_⟩
  · simp only [step, waits]
  · simp only [step, empty]

end Sys2Proof.Machine
end

section
/-! Power-on reset, the timebase and manual holds (R1, R18, R33, R61). -/

namespace Sys2Proof.Machine

/-- What a ready part's command does when its effect leaves no hand-off. -/
theorem Ready.act {s : State} (h : Ready s) {f : State → State} (quiet : (f s).agenda = s.agenda) :
    act s f = .next (f s) := act_quiet h.1 (quiet.trans h.2)

theorem reset_freezeMask (c : Condition) : State.reset.settings.freezeMask.getLsbD c.code = true ↔
    c = .referenceStale ∨ c = .epochFreeRun ∨ c = .gensetTrip ∨ c = .shedInsufficient := by
  cases c <;> decide

/-- Settles O12: each value is one of the power-on state's. -/
theorem resetLeavesTheStatedValues : Obligations.ResetLeavesTheStatedValues := by
  have unit (u : UnitNo) : State.reset.unit u = {} := poweredOn_reset.unit u
  have idle (p : Port) : State.reset.phase p = 0 ∧ (State.reset.port p).tx = .free ∧ (State.reset.port p).buffer = [] := by
    cases p <;> exact ⟨rfl, rfl, rfl⟩
  have fill (c : QClass) : State.reset.fill c = 0 := by cases c <;> rfl
  have unlatched (c : Condition) : State.reset.isLatched c = false := by cases c <;> rfl
  refine ⟨by decide, by decide, fun u => ⟨unit u, ?_, ?_, ?_⟩, ⟨poweredOn_reset.slot, fill, rfl⟩,
    ⟨rfl, rfl, rfl, idle, by decide⟩, rfl, by decide, by decide, by decide, ⟨rfl, rfl, rfl, by decide, rfl, rfl⟩, by decide,
    ⟨rfl, rfl, by decide⟩, ?_, ⟨unlatched, by decide, rfl, rfl, by decide, rfl, rfl⟩, by decide, by decide, ?_⟩
  · simp [State.inFlight, poweredOn_reset.slot]
  · simp [State.reset, State.powerOn, vectorGet]
  · rintro r rfl
    rw [unit]
    exact ⟨rfl, rfl, rfl, rfl, rfl, rfl, rfl, fun k => by cases k <;> rfl, rfl, rfl, rfl⟩
  · rintro g rfl
    decide
  · rintro x rfl
    exact ⟨by decide, by decide, by decide, by decide, by decide, reset_freezeMask⟩

/-- The station address puts the straps under the five fixed bytes (R1). -/
theorem stationOf_eq (straps : Byte) : stationOf straps = (0x021B400000#40 ++ straps : BitVec 48) := by
  revert straps
  decide

/-- Settles O13: both commands leave the power-on values, with the straps and the links as they are given. -/
theorem powerOnResetAndItsEnd : Obligations.PowerOnResetAndItsEnd := by
  refine ⟨fun s => ⟨powerLow s, rfl, rfl, rfl, fun p => ?_, (poweredOn_powerLow s).slot, fun c => ?_, rfl, rfl,
    (poweredOn_powerLow s).unit⟩, fun s straps paUp pbUp low => ⟨powerUp s straps paUp pbUp, ?_, rfl, rfl, stationOf_eq straps,
    rfl, rfl, fun p => ?_, rfl, rfl, rfl, rfl⟩, fun s straps paUp pbUp runs => ?_⟩
  · cases p <;> exact ⟨rfl, rfl, rfl⟩
  · cases c <;> rfl
  · show Host.Outcome.next (if s.inReset then _ else s) = _
    rw [if_pos low]
  · cases p <;> exact ⟨rfl, rfl, rfl⟩
  · show Host.Outcome.next (if s.inReset then _ else s) = _
    rw [runs]
    rfl

/-- A deadline set `ms` after a time is reached `k` ms after it exactly when `ms` have passed (R33). -/
theorem reached_after (t : Time) {ms k : Nat} (hm : ms < 2 ^ 31) (hk : k < 2 ^ 31) :
    reached (after t k) (after t ms) = true ↔ ms ≤ k := by
  have gap : (after t k - after t ms).toNat = (2 ^ 32 - ms + k) % 2 ^ 32 := by
    have cancel : after t k - after t ms = BitVec.ofNat 32 k - BitVec.ofNat 32 ms := by
      simp only [after]
      ring
    rw [cancel, BitVec.toNat_sub, BitVec.toNat_ofNat, BitVec.toNat_ofNat]
    omega
  rw [reached, decide_eq_true_eq, gap]
  omega

/-- Settles O15: the tick's own equation, and the arithmetic of the modular comparison. -/
theorem timebaseTicksAndDeadlinesFollowIt : Obligations.TimebaseTicksAndDeadlinesFollowIt :=
  ⟨fun _ ready => ready.act (f := fun s => { s with now := s.now + 1 }) rfl,
    fun t _ _ hm hk => reached_after t hm hk⟩

/-- Settles O39, by whether the deadline is reached. -/
theorem manualHoldEndsAtItsDeadline : Obligations.ManualHoldEndsAtItsDeadline := by
  intro s u d ready held
  have runs : exec (.manualHoldEnd u) s = .next (endHold s u) := ready.act (f := (endHold · u)) (by
    unfold endHold
    split <;> rfl)
  rw [runs]
  unfold endHold
  rw [held]
  refine ⟨fun due => ?_, fun early => ?_⟩
  · simp only [dueAt, due, Option.any_some, if_true]
    rfl
  · simp [dueAt, early]

end Sys2Proof.Machine
end

section
/-! The Frame Path: a frame's arrival, its addresses and the end of its reception (R3 to R8, R13). -/

namespace Sys2Proof.Machine

/-! ## Ports -/

theorem port_setPort_of_other (s : State) (p : Port) (q : PortPath) : (s.setPort p.other q).port p = s.port p := by
  cases p <;> rfl

/-- A port's update is one of the Frame Path alone. -/
theorem setPort_frame (s : State) (p : Port) (q : PortPath) : s.setPort p q = { s with frame := (s.setPort p q).frame } := by
  cases p <;> rfl

theorem setPort_setPort (s : State) (p : Port) (q q' : PortPath) : (s.setPort p q).setPort p q' = s.setPort p q' := by
  cases p <;> rfl

theorem frame_trans {s t u : State} (h : t = { s with frame := t.frame }) (h' : u = { t with frame := u.frame }) :
    u = { s with frame := u.frame } := by
  rw [h'.trans (by rw [h])]

/-- The first that satisfies a test is changed, when none before it does. -/
theorem updateFirst_append {f : Place → Bool} {g : Place → Place} {before later : List Place} {x : Place}
    (none : ∀ y ∈ before, f y = false) (found : f x = true) :
    updateFirst f g (before ++ x :: later) = before ++ g x :: later := by
  induction before with
  | nil => simp [updateFirst, found]
  | cons y ys ih =>
    obtain ⟨first, rest⟩ := List.forall_mem_cons.mp none
    simp only [List.cons_append, updateFirst, first, Bool.false_eq_true, if_false, ih rest]

/-! ## Arrival -/

theorem rise_of_latched {s : State} {c : Condition} (h : s.isLatched c = true) : rise s c = s := by
  unfold rise
  rw [if_pos h]

/-- A condition that rises while it is unlatched is recorded (R177). -/
theorem rise_log {s : State} {c : Condition} (unlatched : s.isLatched c = false) (room : logOpen s) :
    (rise s c).events.log.get s.events.writeIndex = some (recordNow s .conditionLatched none none (some c.code)) := by
  unfold rise
  rw [unlatched]
  exact record_log (s := s.latch c) room _ _ _ _

theorem rise_agenda (s : State) (c : Condition) : (rise s c).agenda = s.agenda := (rise_work s c).outside.agenda

theorem exec_frameArrivalStart {s : State} (p : Port) (ready : Ready s) :
    exec (.frameArrivalStart p) s = .next (arrivalStart s p) := by
  refine ready.act (f := (arrivalStart · p)) ?_
  unfold arrivalStart
  simp only
  split
  · rfl
  · split
    · simp
    · simp [rise_agenda, State.setRx]

/-- Settles O16, by whether a place is free. -/
theorem arrivingFrameTakesAPlaceOrIsLost : Obligations.ArrivingFrameTakesAPlaceOrIsLost := by
  intro s p ready up idle
  rw [exec_frameArrivalStart p ready]
  refine ⟨fun room => ?_, fun full => ?_⟩
  · simp [arrivalStart, up, idle, Config.bufferPlaces, room]
  · have lost : arrivalStart s p = rise (s.setRx p .lost) .forwardDrop := by
      simp [arrivalStart, up, idle, Config.bufferPlaces, Nat.not_lt.mpr full]
    have work := rise_work (s.setRx p .lost) .forwardDrop
    have latched : (s.setRx p .lost).isLatched .forwardDrop = s.isLatched .forwardDrop := by
      simp [State.setRx, State.isLatched]
    rw [lost]
    refine ⟨_, rfl, work, rise_latched _ _, ?_, ?_, fun already => rise_of_latched (latched.trans already),
      fun fresh room => ?_⟩
    · rw [work.rx]; simp [State.setRx]
    · rw [work.buffer]; simp [State.setRx]
    · have logged := rise_log (latched.trans fresh) (by simpa [logOpen, State.setRx] using room)
      simpa [State.setRx, recordNow, Condition.code] using logged

/-! ## Addresses -/

theorem exec_frameAddressesReceived {s : State} (p : Port) (dst src : Addr) (ready : Ready s) :
    exec (.frameAddressesReceived p dst src) s = .next (addressesIn s p dst src) := by
  refine ready.act (f := (addressesIn · p dst src)) ?_
  unfold addressesIn
  split
  · rfl
  · split
    · simp [dropReceiving, State.setRx, State.setBuffer]
    · split
      · simp [dropReceiving, State.setRx, State.setBuffer]
      · unfold forwardAddresses
        simp only
        split <;> simp [State.setTx]

/-- A frame addressed to the part, or its own, gives up its place. -/
theorem dropReceiving_setRx (s : State) (p : Port) (x : Rx) : (dropReceiving s p).setRx p x =
    s.setPort p { s.port p with rx := x, buffer := (s.port p).buffer.filter fun x => !x.receiving } := by
  simp [dropReceiving, State.setRx, State.setBuffer, setPort_setPort]

/-- What the part's own frame, or one addressed to it, leaves of the ports (R6, R7). -/
theorem addressesIn_given {s : State} {p : Port} {dst src : Addr} {x : Rx}
    (given : addressesIn s p dst src = (dropReceiving s p).setRx p x) :
    addressesIn s p dst src = { s with frame := (addressesIn s p dst src).frame } ∧
      (addressesIn s p dst src).frame.delivered = s.frame.delivered ∧ ((addressesIn s p dst src).port p).rx = x ∧
      ((addressesIn s p dst src).port p).buffer = (s.port p).buffer.filter (fun x => !x.receiving) ∧
      (addressesIn s p dst src).port p.other = s.port p.other := by
  rw [given, dropReceiving_setRx]
  exact ⟨setPort_frame _ _ _, setPort_delivered _ _ _, by simp, by simp, by simp⟩

/-- A port's transmitter set after another port's update. -/
theorem forwardAddresses_eq (s : State) (p : Port) (dst src : Addr) (go : Bool)
    (h : go = ((s.port p.other).up && (s.port p.other).tx == .free && !((s.port p).buffer.any Place.waiting))) :
    forwardAddresses s p dst src = (s.setPort p { s.port p with
      rx := .forwarded dst src
      buffer := updateFirst Place.receiving (fun x => { x with addrs := some (dst, src), sending := go }) (s.port p).buffer
    }).setPort p.other { s.port p.other with tx := if go then .forwarding else (s.port p.other).tx } := by
  subst h
  unfold forwardAddresses
  simp only
  split
  next starts => simp [State.setTx, starts]
  next waits => cases p <;> simp [State.setPort, State.port, Port.other]

/-- What the addresses of a frame to be forwarded leave of the ports (R5). -/
theorem forwardAddresses_leaves (s : State) (p : Port) (dst src : Addr) :
    forwardAddresses s p dst src = { s with frame := (forwardAddresses s p dst src).frame } ∧
      (forwardAddresses s p dst src).frame.delivered = s.frame.delivered ∧
      ∃ go : Bool, (go = true ↔ (s.port p.other).up = true ∧ (s.port p.other).tx = .free ∧
          (s.port p).buffer.any Place.waiting = false) ∧
        ((forwardAddresses s p dst src).port p).rx = .forwarded dst src ∧
        (go = true → (forwardAddresses s p dst src).port p.other = { s.port p.other with tx := .forwarding }) ∧
        (go = false → (forwardAddresses s p dst src).port p.other = s.port p.other) ∧
        ∀ (before : List Place) (x : Place), (s.port p).buffer = before ++ [x] → (∀ y ∈ before, y.receiving = false) →
          x.receiving = true →
          ((forwardAddresses s p dst src).port p).buffer =
            before ++ [{ x with addrs := some (dst, src), sending := go }] := by
  generalize starts : ((s.port p.other).up && (s.port p.other).tx == .free && !((s.port p).buffer.any Place.waiting)) = go
  rw [forwardAddresses_eq s p dst src go starts.symm]
  refine ⟨frame_trans (setPort_frame _ _ _) (setPort_frame _ _ _), (setPort_delivered _ _ _).trans (setPort_delivered _ _ _),
    go, ?_, ?_, fun yes => ?_, fun no => ?_, fun before x buffer done receiving => ?_⟩
  · rw [← starts]
    simp [and_assoc]
  · rw [port_setPort_of_other, port_setPort_self]
  · simp [yes]
  · simp [no]
  · rw [port_setPort_of_other, port_setPort_self, buffer]
    exact updateFirst_append done receiving

/-- Settles O17, by the source, the destination, and whether the far port is open to the frame. -/
theorem addressesDecideForwarding : Obligations.AddressesDecideForwarding := by
  intro s p dst src ready head
  refine ⟨_, exec_frameAddressesReceived p dst src ready, ?_⟩
  by_cases own : src = s.frame.station
  · simpa only [if_pos own] using addressesIn_given (s := s) (p := p) (dst := dst) (x := .ringReturn)
      (by simp [addressesIn, head, own])
  · by_cases toPart : dst = s.frame.station
    · simpa only [if_neg own, if_pos toPart] using addressesIn_given (s := s) (p := p) (dst := dst) (x := .consumed src)
        (by simp [addressesIn, head, own, toPart])
    · have forwarded : addressesIn s p dst src = forwardAddresses s p dst src := by
        simp [addressesIn, head, own, toPart]
      simpa only [if_neg own, if_neg toPart, forwarded] using forwardAddresses_leaves s p dst src

/-! ## The end of a reception -/

theorem exec_frameReceptionEnd {s : State} (p : Port) (rest : List Byte) (badCheck partialByte : Bool) (ready : Ready s) :
    exec (.frameReceptionEnd p rest badCheck partialByte) s = .next (receptionEnd s p rest badCheck partialByte) := by
  refine ready.act (f := (receptionEnd · p rest badCheck partialByte)) ?_
  unfold receptionEnd
  simp only
  split <;> try split
  all_goals simp [State.setRx, dropReceiving, State.setBuffer, deliver]

/-- A delivery joins those not yet taken, and changes nothing else. -/
theorem deliver_frame (s : State) (d : Option Delivery) : deliver s d = { s with frame := (deliver s d).frame } := rfl

theorem deliver_port (s : State) (d : Option Delivery) (q : Port) : (deliver s d).port q = s.port q := by cases q <;> rfl

/-- What a frame that has been received leaves of the state, delivered unless it had an error (R8, R13). -/
theorem received_leaves {s v : State} {p : Port} {q : PortPath} (given : v = s.setPort p q) (error : Bool) (d : Option Delivery) :
    ∃ t : State, (if error then v else deliver v d) = t ∧ t = { s with frame := t.frame } ∧ t.port p = q ∧
      t.port p.other = s.port p.other ∧ t.frame.delivered = s.frame.delivered ++ if error then [] else d.toList := by
  subst given
  cases error with
  | true => exact ⟨_, rfl, setPort_frame _ _ _, by simp, by simp, by simp [setPort_delivered]⟩
  | false =>
    refine ⟨_, rfl, frame_trans (setPort_frame s p q) (deliver_frame _ _), ?_, ?_, ?_⟩
    · simp [deliver_port]
    · simp [deliver_port]
    · simp [deliver, setPort_delivered]

/-- The places of a buffer whose last is being received, after the reception has ended (R8). -/
theorem filterMap_endPlace {far error : Bool} {rest : List Byte} {before : List Place} {x : Place}
    (done : ∀ y ∈ before, y.receiving = false) (receiving : x.receiving = true) :
    (before ++ [x]).filterMap (endPlace far error rest) =
      if x.sending = false ∧ (error = true ∨ far = false) then before
      else before ++ [{ x with receiving := false, rest := rest.take 1510, badEnd := error }] := by
  have kept : before.filterMap (endPlace far error rest) = before := by
    rw [List.filterMap_congr (g := some) fun y hy => by simp [endPlace, done y hy], List.filterMap_some]
  rw [List.filterMap_append, kept]
  split
  next removed =>
    obtain ⟨waits, ends⟩ := removed
    rcases ends with rfl | rfl <;> simp [endPlace, receiving, waits]
  next stays =>
    have goes : (!x.sending && (error || !far)) = false := by
      by_contra removed
      simp only [Bool.not_eq_false, Bool.and_eq_true, Bool.not_eq_true', Bool.or_eq_true] at removed
      exact stays removed
    simp [endPlace, receiving, goes, sentBytes]

/-- Settles O18, by what the receiver was doing. -/
theorem receptionEndDelivers : Obligations.ReceptionEndDelivers := by
  intro s p rest badCheck partialByte dst src ready error isError
  have judged : receiveError rest badCheck partialByte = error := by
    rw [Bool.eq_iff_iff, isError]
    simp [receiveError, or_assoc]
  simp only [exec_frameReceptionEnd p rest badCheck partialByte ready]
  refine ⟨fun rx => ?_, fun rx => ?_, fun rx => ?_, fun rx => ?_⟩
  · obtain ⟨t, leaves, frame, own, other, delivered⟩ := received_leaves (s := s) (p := p) rfl error (deliveryOf p src true rest)
    refine ⟨t, ?_, frame, ?_, ?_, other, delivered⟩
    · rw [← leaves]
      simp only [receptionEnd, rx, judged]
      rfl
    · rw [own]
    · rw [own]
  · rcases rx with rx | rx | rx <;> simp [receptionEnd, rx, State.setRx]
  · simp [receptionEnd, rx, State.setRx, dropReceiving, State.setBuffer, setPort_setPort]
  · obtain ⟨t, leaves, frame, own, other, delivered⟩ := received_leaves (s := s) (p := p)
      (q := { s.port p with rx := .idle, buffer := (s.port p).buffer.filterMap (endPlace (s.port p.other).up error rest) })
      (v := (s.setRx p .idle).setBuffer p ((s.port p).buffer.filterMap (endPlace (s.port p.other).up error rest)))
      (by simp [State.setRx, State.setBuffer, setPort_setPort]) error (deliveryOf p src false rest)
    refine ⟨t, ?_, frame, ?_, other, delivered, fun before x buffer done receiving => ?_⟩
    · rw [← leaves]
      simp only [receptionEnd, rx, judged]
    · rw [own]
    · rw [own, buffer]
      exact filterMap_endPlace done receiving

end Sys2Proof.Machine
end

section
/-! The freshness evaluation of a pass start (R51, R54): each record ages by itself, so the evaluation of all of them is said record
by record, and what it records is said of the first unit that turns STALE. -/

namespace Sys2Proof.Machine

/-! ## One record -/

/-- A record as the evaluation leaves it (R51). -/
def evaluated (now : Time) (r : UnitRec) : UnitRec :=
  if r.kind = .noUnit then r
  else
    match r.live.lastArrival with
    | none => r
    | some t => { r with live := { r.live with freshness := agedTo r (elapsed now t) } }

/-- The evaluation turns a record STALE. -/
def TurnsStale (now : Time) (r : UnitRec) : Prop :=
  r.live.freshness ≠ .stale ∧ (evaluated now r).live.freshness = .stale

theorem setUnit_same (s : State) (u : UnitNo) : s.setUnit u (s.unit u) = s := by
  have same : s.units.set u (s.unit u) = s.units := by simp [State.unit, vectorGet]
  unfold State.setUnit
  rw [same]

theorem TurnsStale.arrival {now : Time} {r : UnitRec} (h : TurnsStale now r) :
    r.kind ≠ .noUnit ∧ ∃ t : Time, r.live.lastArrival = some t ∧ agedTo r (elapsed now t) = .stale := by
  obtain ⟨was, turned⟩ := h
  unfold evaluated at turned
  split at turned
  · exact absurd turned was
  next kind =>
    split at turned
    · exact absurd turned was
    next t arrived => exact ⟨kind, t, arrived, turned⟩

theorem evaluated_of_some {now t : Time} {r : UnitRec} (kind : r.kind ≠ .noUnit) (arrived : r.live.lastArrival = some t) :
    evaluated now r = { r with live := { r.live with freshness := agedTo r (elapsed now t) } } := by
  simp [evaluated, kind, arrived]

/-- A record that does not turn STALE is evaluated with nothing recorded. -/
theorem evaluateUnit_of_not {s : State} {u : UnitNo} (h : ¬ TurnsStale s.now (s.unit u)) :
    evaluateUnit s u = s.setUnit u (evaluated s.now (s.unit u)) := by
  by_cases kind : (s.unit u).kind = .noUnit
  · simp [evaluateUnit, evaluated, kind, setUnit_same]
  · cases arrived : (s.unit u).live.lastArrival with
    | none => simp [evaluateUnit, evaluated, kind, arrived, setUnit_same]
    | some t =>
      have stays : (agedTo (s.unit u) (elapsed s.now t) == .stale && (s.unit u).live.freshness != .stale) = false := by
        by_contra turned
        simp only [Bool.not_eq_false, Bool.and_eq_true, beq_iff_eq, bne_iff_ne] at turned
        exact h ⟨turned.2, by rw [evaluated_of_some kind arrived]; exact turned.1⟩
      simp only [evaluateUnit, beq_iff_eq, kind, if_false, arrived, stays, Bool.false_eq_true,
        evaluated_of_some kind arrived]
      rfl

/-- One that does is recorded, and raises REFERENCE_STALE when that cause is new. -/
theorem evaluateUnit_of_turns {s : State} {u : UnitNo} {t : Time} (h : TurnsStale s.now (s.unit u))
    (arrived : (s.unit u).live.lastArrival = some t) :
    evaluateUnit s u = riseIfNew s (record (s.setUnit u (evaluated s.now (s.unit u))) .unitStale (some u)
      (some (elapsed s.now t : Int)) (some (kindCode (s.unit u).kind))) .referenceStale := by
  obtain ⟨kind, t', arrived', aged⟩ := h.arrival
  obtain rfl : t' = t := Option.some.inj (arrived'.symm.trans arrived)
  simp only [evaluateUnit, evaluated, beq_iff_eq, kind, if_false, arrived, aged, bne_iff_ne.mpr h.1, Bool.and_self,
    BEq.rfl, if_true]
  rfl

theorem evaluateUnit_work (s : State) (u : UnitNo) :
    RecordWork (s.setUnit u (evaluated s.now (s.unit u))) (evaluateUnit s u) := by
  by_cases turns : TurnsStale s.now (s.unit u)
  · obtain ⟨-, t, arrived, -⟩ := turns.arrival
    rw [evaluateUnit_of_turns turns arrived]
    exact (record_work _ _ _ _ _).trans (riseIfNew_work _ _ _)
  · rw [evaluateUnit_of_not turns]
    exact .refl _

/-! ## A list of records -/

/-- Record work does not read the Unit Table's records in what it leaves alone. -/
theorem RecordWork.withUnits {s t : State} (h : RecordWork s t) (us : Vector UnitRec 64) :
    RecordWork { s with units := us } { t with units := us } where
  outside := ⟨h.outside.inReset, h.outside.now, h.outside.tracker, rfl, h.outside.lastSource, h.outside.balance,
    h.outside.alloc, h.outside.dispatcher, h.outside.shed, h.outside.seqr, h.outside.service, h.outside.schedule,
    h.outside.agenda, h.outside.pending⟩
  latched := h.latched
  log := h.log
  routing := h.routing
  primarySide := h.primarySide
  backupSide := h.backupSide
  groups := h.groups
  station := h.station
  delivered := h.delivered
  up p := by have := h.up p; cases p <;> exact this
  rx p := by have := h.rx p; cases p <;> exact this
  buffer p := by have := h.buffer p; cases p <;> exact this
  phases := h.phases
  held := h.held
  counters := h.counters
  slots := h.slots
  waiting := h.waiting
  sent := h.sent

theorem evaluateAll_work (us : List UnitNo) (s : State) :
    RecordWork { s with units := (us.foldl evaluateUnit s).units } (us.foldl evaluateUnit s) := by
  induction us generalizing s with
  | nil => exact .refl s
  | cons u us ih => exact ((evaluateUnit_work s u).withUnits _).trans (ih (evaluateUnit s u))

theorem evaluateUnit_unit (s : State) (u v : UnitNo) :
    (evaluateUnit s u).unit v = if v = u then evaluated s.now (s.unit u) else s.unit v := by
  rw [(evaluateUnit_work s u).unit v, unit_setUnit]

theorem evaluateUnit_now (s : State) (u : UnitNo) : (evaluateUnit s u).now = s.now := (evaluateUnit_work s u).outside.now

/-- The evaluation of a list evaluates each record of it, once, and no other. -/
theorem evaluateAll_unit {us : List UnitNo} (once : us.Nodup) (s : State) (v : UnitNo) :
    (us.foldl evaluateUnit s).unit v = if v ∈ us then evaluated s.now (s.unit v) else s.unit v := by
  induction us generalizing s with
  | nil => rfl
  | cons u us ih =>
    obtain ⟨fresh, once⟩ := List.nodup_cons.mp once
    rw [List.foldl_cons, ih once, evaluateUnit_now, evaluateUnit_unit]
    by_cases same : v = u
    · subst same
      simp [fresh]
    · simp [same]

/-- Nothing is recorded while no record turns STALE. -/
theorem evaluateAll_events {us : List UnitNo} (once : us.Nodup) {s : State} (none : ∀ v ∈ us, ¬ TurnsStale s.now (s.unit v)) :
    (us.foldl evaluateUnit s).events = s.events := by
  induction us generalizing s with
  | nil => rfl
  | cons u us ih =>
    obtain ⟨fresh, once⟩ := List.nodup_cons.mp once
    rw [List.foldl_cons, ih once fun v hv => ?_, evaluateUnit_of_not (none u List.mem_cons_self)]
    · rfl
    · rw [evaluateUnit_now, evaluateUnit_unit, if_neg (fun same : v = u => fresh (same ▸ hv))]
      exact none v (List.mem_cons_of_mem _ hv)

/-! ## All records -/

theorem allUnits_nodup : allUnits.Nodup := List.nodup_finRange 64

theorem evaluateFreshness_work (s : State) :
    RecordWork { s with units := (evaluateFreshness s).units } (evaluateFreshness s) := evaluateAll_work allUnits s

theorem evaluateFreshness_unit (s : State) (u : UnitNo) : (evaluateFreshness s).unit u = evaluated s.now (s.unit u) := by
  unfold evaluateFreshness
  rw [evaluateAll_unit allUnits_nodup, if_pos (mem_allUnits u)]

/-- The records that the evaluation leaves depend on the records and the timebase alone. -/
theorem evaluateFreshness_units {s t : State} (units : t.units = s.units) (now : t.now = s.now) :
    (evaluateFreshness t).units = (evaluateFreshness s).units := by
  refine Vector.ext fun k hk => ?_
  have unit := evaluateFreshness_unit t ⟨k, hk⟩
  rw [unit_of_units units, now, ← evaluateFreshness_unit s] at unit
  exact unit

/-- The Unit Table, split at a unit. -/
theorem allUnits_split (u : UnitNo) : ∃ before later : List UnitNo, allUnits = before ++ u :: later ∧
    (∀ v ∈ before, v < u) ∧ before.Nodup ∧ u ∉ before ∧ u ∉ later := by
  obtain ⟨before, later, split⟩ := List.append_of_mem (mem_allUnits u)
  have rising : (before ++ u :: later).Pairwise (· < ·) := split ▸ List.pairwise_lt_finRange 64
  have once : (before ++ u :: later).Nodup := split ▸ allUnits_nodup
  obtain ⟨-, -, below⟩ := List.pairwise_append.mp rising
  refine ⟨before, later, split, fun v hv => below v hv u List.mem_cons_self, (List.nodup_append'.mp once).1, fun there => ?_,
    (List.nodup_cons.mp (List.nodup_append'.mp once).2.1).1⟩
  exact lt_irrefl u (below u there u List.mem_cons_self)

/-- The evaluation up to a unit, at that unit, and after it. -/
theorem evaluateFreshness_split (s : State) (u : UnitNo) : ∃ w : State, w.unit u = s.unit u ∧
    RecordWork { s with units := w.units } w ∧ ((∀ v : UnitNo, v < u → ¬ TurnsStale s.now (s.unit v)) → w.events = s.events) ∧
    RecordWork { evaluateUnit w u with units := (evaluateFreshness s).units } (evaluateFreshness s) := by
  obtain ⟨before, later, split, below, once, fresh, -⟩ := allUnits_split u
  refine ⟨before.foldl evaluateUnit s, ?_, evaluateAll_work before s,
    fun none => evaluateAll_events once fun v hv => none v (below v hv), ?_⟩
  · rw [evaluateAll_unit once, if_neg fresh]
  · unfold evaluateFreshness
    rw [split, List.foldl_append, List.foldl_cons]
    exact evaluateAll_work later _

/-- The first unit that turns STALE is recorded first. -/
theorem evaluateFreshness_first {s : State} {u : UnitNo} {t : Time} (turns : TurnsStale s.now (s.unit u))
    (first : ∀ v : UnitNo, v < u → ¬ TurnsStale s.now (s.unit v)) (arrived : (s.unit u).live.lastArrival = some t) :
    RecordsFirst s (evaluateFreshness s) .unitStale (some u) (some (elapsed s.now t : Int))
      (some (kindCode (s.unit u).kind)) := by
  intro room
  obtain ⟨w, same, work, quiet, later⟩ := evaluateFreshness_split s u
  have now : w.now = s.now := work.outside.now
  have turned := evaluateUnit_of_turns (s := w) (t := t) (by rw [same, now]; exact turns) (by rw [same]; exact arrived)
  refine later.log _ _ (?_ : (evaluateUnit w u).events.log.get _ = _)
  rw [turned]
  refine (riseIfNew_work _ _ _).log _ _ ?_
  have events := quiet first
  have logged := record_log (s := w.setUnit u (evaluated w.now (w.unit u))) (by
    rw [logOpen, State.setUnit_events, events]; exact room) .unitStale (some u) (some (elapsed w.now t : Int))
    (some (kindCode (w.unit u).kind))
  rw [State.setUnit_events, events, same] at logged
  rw [same, logged, recordNow, recordNow, State.setUnit_now, State.setUnit_tracker, now, work.outside.tracker]

theorem heldCause_referenceStale {s : State} {u : UnitNo} (reference : s.service.settings.reference = some u) :
    heldCause s .referenceStale = some ((s.unit u).kind == .meter && (s.unit u).live.freshness == .stale) := by
  simp only [heldCause, referenceStale, State.settings, reference]

/-- A reference meter that turns STALE raises REFERENCE_STALE. -/
theorem evaluateFreshness_reference {s : State} {u : UnitNo} (turns : TurnsStale s.now (s.unit u))
    (reference : s.settings.reference = some u) (meter : (s.unit u).kind = .meter) :
    (evaluateFreshness s).isLatched .referenceStale = true := by
  obtain ⟨w, same, work, -, later⟩ := evaluateFreshness_split s u
  have now : w.now = s.now := work.outside.now
  have settings : w.settings = s.settings := congrArg Service.settings work.outside.service
  obtain ⟨-, t, arrived, -⟩ := turns.arrival
  have turned := evaluateUnit_of_turns (s := w) (t := t) (by rw [same, now]; exact turns) (by rw [same]; exact arrived)
  have latched (up : (evaluateUnit w u).isLatched .referenceStale = true) :
      (evaluateFreshness s).isLatched .referenceStale = true := by
    unfold State.isLatched at up
    refine later.latched _ ?_
    unfold State.isLatched
    exact up
  have recorded := record_work (w.setUnit u (evaluated w.now (w.unit u))) .unitStale (some u) (some (elapsed w.now t : Int))
    (some (kindCode (w.unit u).kind))
  have before : heldCause w .referenceStale = some false := by
    rw [heldCause_referenceStale (settings ▸ reference), same]
    simp [turns.1]
  have kind : (evaluated s.now (s.unit u)).kind = .meter := by
    unfold evaluated
    split
    · exact meter
    · split <;> exact meter
  have present : heldCause (record (w.setUnit u (evaluated w.now (w.unit u))) .unitStale (some u)
      (some (elapsed w.now t : Int)) (some (kindCode (w.unit u).kind))) .referenceStale = some true := by
    have settings' := (congrArg Service.settings recorded.outside.service).trans settings
    rw [heldCause_referenceStale (settings'.symm ▸ reference), recorded.unit, unit_setUnit_self, same, now, kind, turns.2]
    rfl
  refine latched ?_
  rw [turned]
  simp only [riseIfNew, before, present]
  exact rise_latched _ _

/-- Settles O30: record by record for what the evaluation leaves, and by the first unit that turns for what it records. -/
theorem freshnessEvaluationAges : Obligations.FreshnessEvaluationAges := by
  refine ⟨fun s => ⟨evaluateFreshness_work s, fun turns isTurn => ?_⟩, fun s u => ⟨fun t kind arrived => ?_, fun empty => ?_⟩⟩
  · have turn (u : UnitNo) : turns u = true ↔ TurnsStale s.now (s.unit u) := by
      rw [isTurn, evaluateFreshness_unit]
      rfl
    have noTurn {u : UnitNo} (h : turns u = false) : ¬ TurnsStale s.now (s.unit u) := fun now => by
      rw [(turn u).mpr now] at h
      cases h
    refine ⟨fun none => ?_, fun u t turned first arrived => ?_, fun u turned => ?_⟩
    · exact evaluateAll_events allUnits_nodup fun v _ => noTurn (none v)
    · exact evaluateFreshness_first ((turn u).mp turned) (fun v below => noTurn (first v below)) arrived
    · exact evaluateFreshness_reference ((turn u).mp turned)
  · rw [evaluateFreshness_unit]
    refine ⟨agedTo (s.unit u) (elapsed s.now t), by simp [evaluated, kind, arrived], ?_⟩
    refine ⟨fun was => ?_, fun was => ?_, fun was young => ?_, fun was old young => ?_, fun was young => ?_, fun was old older => ?_,
      fun was older => ?_⟩ <;> simp only [agedTo, was]
    · rw [if_pos young]
    · rw [if_neg (not_le.mpr old), if_pos young]
    · rw [if_neg (not_lt.mpr young)]
    · rw [if_neg (not_le.mpr old), if_neg (not_le.mpr older)]
    · rw [if_pos older]
  · rw [evaluateFreshness_unit]
    rcases empty with kind | never
    · simp [evaluated, kind]
    · simp [evaluated, never]

end Sys2Proof.Machine
end

section
/-! The Epoch Tracker (chapter 2): a change of source, a pass start, and each mark and deadline as a chain of the two. -/

namespace Sys2Proof.Machine

/-! ## A change of source (R31) -/

theorem sourceChanged_latched {s : State} {left : EpochState} {c : Condition} (cause : epochCause s.tracker.state = some c) :
    (sourceChanged s left).isLatched c = true := by
  have same : (record s .epochSourceChanged none (some (left.code : Int)) (some s.tracker.state.code)).tracker = s.tracker :=
    (record_work _ _ _ _ _).outside.tracker
  simp only [sourceChanged, same, cause]
  exact rise_latched _ _

theorem sourceChanged_log {s : State} (left : EpochState) (room : logOpen s) :
    (sourceChanged s left).events.log.get s.events.writeIndex =
      some (recordNow s .epochSourceChanged none (some (left.code : Int)) (some s.tracker.state.code)) := by
  have logged := record_log room .epochSourceChanged none (some (left.code : Int)) (some s.tracker.state.code)
  unfold sourceChanged
  simp only
  split
  · exact logged
  · exact (rise_work _ _).log _ _ logged

/-! ## A pass start (R30, R86) -/

/-- What a starting event leaves: a pass begun on a snapshot of the state evaluated, or an overrun counted. -/
structure PassStarts (s t : State) : Prop where
  tracker  : t.tracker = { s.tracker with
    passInProgress := true
    overruns := if s.tracker.passInProgress = true then min 255 (s.tracker.overruns + 1) else s.tracker.overruns }
  begun    : s.tracker.passInProgress = false →
    ∃ sn : Snapshot, t.balance = { s.balance with working := some sn, tripPending := false } ∧ sn.epoch = s.tracker.epoch ∧
      sn.passTime = s.now ∧ sn.units = t.units ∧ sn.commit = s.dispatcher.commit ∧ sn.settings = s.settings ∧
      sn.trip = s.balance.tripPending ∧ sn.dead = s.seqr.asserted ∧ t.units = (evaluateFreshness s).units
  overrun  : s.tracker.passInProgress = true → t.balance = s.balance ∧ t.units = s.units ∧ t.isLatched .passOverrun = true
  now      : t.now = s.now
  service  : t.service = s.service
  dispatch : t.dispatcher = s.dispatcher
  shed     : t.shed = s.shed
  seqr     : t.seqr = s.seqr
  agenda   : t.agenda = s.agenda
  latched  : ∀ c : Condition, s.isLatched c = true → t.isLatched c = true
  log      : ∀ (i : LogNo) (r : EventRec), s.events.log.get i = some r → t.events.log.get i = some r

theorem startPass_begins {s : State} (idle : s.tracker.passInProgress = false) : PassStarts s (startPass s) := by
  have units := evaluateFreshness_units (s := s) (t := s.setTracker { s.tracker with passInProgress := true }) rfl rfl
  have work := evaluateFreshness_work (s.setTracker { s.tracker with passInProgress := true })
  have started : startPass s = beginPass (s.setTracker { s.tracker with passInProgress := true }) := by
    simp [startPass, idle]
  rw [started]
  unfold beginPass
  generalize evaluateFreshness (s.setTracker { s.tracker with passInProgress := true }) = e at work units
  have balance : e.balance = s.balance := work.outside.balance
  exact {
    tracker := work.outside.tracker.trans (by simp [idle])
    begun := fun _ => ⟨takeSnapshot e, by simp only [balance], (congrArg Tracker.epoch work.outside.tracker :), work.outside.now,
      rfl, (congrArg Dispatcher.commit work.outside.dispatcher :), (congrArg Service.settings work.outside.service :),
      (congrArg Balance.tripPending balance :), (congrArg Sequencer.asserted work.outside.seqr :), units⟩
    overrun := fun busy => by rw [idle] at busy; cases busy
    now := work.outside.now
    service := work.outside.service
    dispatch := work.outside.dispatcher
    shed := work.outside.shed
    seqr := work.outside.seqr
    agenda := work.outside.agenda
    latched := work.latched
    log := work.log }

theorem startPass_overruns {s : State} (busy : s.tracker.passInProgress = true) : PassStarts s (startPass s) := by
  have started : startPass s = rise (s.setTracker { s.tracker with overruns := bump 255 s.tracker.overruns }) .passOverrun := by
    simp [startPass, busy]
  have work := rise_work (s.setTracker { s.tracker with overruns := bump 255 s.tracker.overruns }) .passOverrun
  rw [started]
  constructor
  · rw [work.outside.tracker, busy]
    simp [bump, ← busy]
  · intro idle
    rw [idle] at busy
    cases busy
  · exact fun _ => ⟨work.outside.balance, work.outside.units, rise_latched _ _⟩
  · exact work.outside.now
  · exact work.outside.service
  · exact work.outside.dispatcher
  · exact work.outside.shed
  · exact work.outside.seqr
  · exact work.outside.agenda
  · exact work.latched
  · exact work.log

theorem startPass_starts (s : State) : PassStarts s (startPass s) := by
  cases pass : s.tracker.passInProgress with
  | false => exact startPass_begins pass
  | true => exact startPass_overruns pass

/-! ## Marks -/

theorem exec_epochMark {s : State} {m : MarkMsg} {t : State} (ready : Ready s)
    (taken : takeMark (takeDelivery s (.mark m)) m = t) (quiet : t.agenda = s.agenda) :
    exec (.epochMark m) s = .next t := by
  rw [← taken] at quiet ⊢
  exact ready.act (f := fun s => takeMark (takeDelivery s (.mark m)) m) quiet

/-- A mark of a master is taken from it and from no other (R20). -/
theorem masterOf_eq {s : State} {g : Master} {src : Addr} (h : MarkOf s g src) : masterOf s src = some g := by
  cases g with
  | primary => simp [masterOf, show s.access.primaryTimeMaster = some src from h]
  | secondary =>
    obtain ⟨second, first, dual⟩ := h
    simp [masterOf, first, second, dual]

theorem masterOf_none {s : State} {src : Addr} (h : ∀ g : Master, ¬ MarkOf s g src) : masterOf s src = none := by
  have first : s.access.primaryTimeMaster ≠ some src := h .primary
  have second : ¬ (s.access.secondaryTimeMaster = some src ∧ s.settings.epochMode = .dual) := fun ⟨address, dual⟩ =>
    h .secondary ⟨address, first, dual⟩
  simp only [masterOf, beq_iff_eq, first, if_false, Bool.and_eq_true]
  rw [if_neg second]

/-- What a mark of a master comes to in each state, in a mode other than HALTED (R20, R26). -/
theorem takeMark_of {s : State} {g : Master} {m : MarkMsg} (mode : s.mode ≠ .halted) (h : MarkOf s g m.src) :
    takeMark s m = match g, s.tracker.state with
      | .primary, .unset => unsetExit s m
      | .primary, .primary => governingMark s .primary m
      | .primary, _ => returnMark s .primary m
      | .secondary, .unset => noteSecondary s m
      | .secondary, .primary => noteSecondary s m
      | .secondary, .secondary => governingMark s .secondary m
      | .secondary, .freeRun => returnMark s .secondary m := by
  unfold takeMark
  rw [if_neg (by simpa using mode), masterOf_eq h]
  cases g <;> cases s.tracker.state <;> rfl

theorem markOf_takeDelivery {s : State} {g : Master} {src : Addr} {d : Delivery} (h : MarkOf s g src) :
    MarkOf (takeDelivery s d) g src := by cases g <;> exact h

theorem jumpUnlessNext_work (s : State) (n : Num16) : RecordWork s (jumpUnlessNext s n) := by
  unfold jumpUnlessNext
  split
  · exact .refl s
  · exact record_work _ _ _ _ _

theorem jumpUnlessNext_log {s : State} {n : Num16} (jumps : n ≠ s.tracker.epoch + 1) (room : logOpen s) :
    (jumpUnlessNext s n).events.log.get s.events.writeIndex =
      some (recordNow s .epochJump none (some (n.toNat : Int)) (some s.tracker.epoch.toNat)) := by
  unfold jumpUnlessNext
  rw [if_neg (by simpa using jumps)]
  exact record_log room _ _ _ _

/-- The tracker that a governing mark leaves before its pass starts (R21). -/
def governedTracker (s : State) (g : Master) (m : MarkMsg) : Tracker :=
  { s.tracker.setRec g ⟨m.number, s.now⟩ with
    epoch := m.number
    period := adoptedPeriod m
    lossDeadline := some (after s.now (s.settings.lossCount * adoptedPeriod m)) }

/-- A governing mark that is no copy: a jump recorded, the tracker moved, and a pass started (R21). -/
theorem governingMark_starts {s : State} {g : Master} {m : MarkMsg} (moves : m.number ≠ s.tracker.epoch) :
    ∃ w : State, RecordWork s w ∧ PassStarts (w.setTracker (governedTracker s g m)) (governingMark s g m) ∧
      (m.number ≠ s.tracker.epoch + 1 → logOpen s → w.events.log.get s.events.writeIndex =
        some (recordNow s .epochJump none (some (m.number.toNat : Int)) (some s.tracker.epoch.toNat))) := by
  have work := jumpUnlessNext_work s m.number
  have tracked : governingMark s g m = startPass ((jumpUnlessNext s m.number).setTracker (governedTracker s g m)) := by
    unfold governingMark
    rw [if_neg (by simpa using moves)]
    have now := work.outside.now
    have service := work.outside.service
    have tracker := work.outside.tracker
    cases g <;> simp [governedTracker, Tracker.setRec, tracker, now, State.later, lossTime, State.settings, service,
      State.setTracker]
  exact ⟨jumpUnlessNext s m.number, work, tracked ▸ startPass_starts _, jumpUnlessNext_log⟩

/-- Settles O22: a copy, or the mark's chain of updates with its pass start. -/
theorem governingMarkMovesTheEpoch : Obligations.GoverningMarkMovesTheEpoch := by
  intro s m g ready mode master governs
  have taken : takeMark (takeDelivery s (.mark m)) m = governingMark (takeDelivery s (.mark m)) g m := by
    rw [takeMark_of (s := takeDelivery s (.mark m)) mode (markOf_takeDelivery master)]
    rcases governs with ⟨rfl, state⟩ | ⟨rfl, state⟩ <;> rw [takeDelivery_tracker, state]
  refine ⟨fun copy => exec_epochMark ready (taken.trans ?_) rfl, fun moves => ?_⟩
  · simp [governingMark, copy]
  · obtain ⟨w, work, starts, jump⟩ := governingMark_starts (s := takeDelivery s (.mark m)) (g := g) moves
    refine ⟨_, exec_epochMark ready taken (starts.agenda.trans work.outside.agenda), ?_⟩
    have at_ {α : Type} (f : Tracker → α) := congrArg f starts.tracker
    have pass : (governedTracker (takeDelivery s (.mark m)) g m).passInProgress = s.tracker.passInProgress := by
      cases g <;> rfl
    have overruns : (governedTracker (takeDelivery s (.mark m)) g m).overruns = s.tracker.overruns := by cases g <;> rfl
    have settled : (w.setTracker (governedTracker (takeDelivery s (.mark m)) g m)).tracker.passInProgress =
      s.tracker.passInProgress := pass
    refine ⟨at_ _, ?_, at_ _, ?_, ?_, ?_, ?_, ?_, at_ _, starts.now.trans work.outside.now,
      starts.service.trans work.outside.service, starts.dispatch.trans work.outside.dispatcher,
      starts.shed.trans work.outside.shed, starts.seqr.trans work.outside.seqr, fun idle => ?_, fun busy => ?_,
      fun jumps room => starts.log _ _ (jump jumps room)⟩
    · exact (at_ Tracker.state).trans (by cases g <;> rfl)
    · exact (at_ Tracker.primaryRec).trans (by cases g <;> rfl)
    · exact (at_ Tracker.secondaryRec).trans (by cases g <;> rfl)
    · rw [at_ Tracker.period]
      exact at_ Tracker.lossDeadline
    · exact (at_ Tracker.primaryReturn).trans (by cases g <;> rfl)
    · exact (at_ Tracker.secondaryReturn).trans (by cases g <;> rfl)
    · obtain ⟨sn, balance, epoch, time, units, commit, settings, trip, dead, evaluated⟩ := starts.begun (settled.trans idle)
      refine ⟨sn, ?_, epoch, time.trans work.outside.now, units, ?_, ?_, ?_, ?_, ?_, ?_⟩
      · rw [balance, State.setTracker_balance, work.outside.balance]; rfl
      · rw [commit, State.setTracker_dispatcher, work.outside.dispatcher]; rfl
      · rw [settings, State.settings, State.setTracker_service, work.outside.service]; rfl
      · rw [trip, State.setTracker_balance, work.outside.balance]; rfl
      · rw [dead, State.setTracker_seqr, work.outside.seqr]; rfl
      · exact evaluated.trans (evaluateFreshness_units work.outside.units work.outside.now)
      · rw [at_ Tracker.overruns]
        simp [pass, idle, overruns]
    · obtain ⟨balance, units, latched⟩ := starts.overrun (settled.trans busy)
      refine ⟨balance.trans work.outside.balance, units.trans work.outside.units, ?_, latched⟩
      rw [at_ Tracker.overruns]
      simp [pass, busy, overruns]

end Sys2Proof.Machine
end

section
/-! The Epoch Tracker, continued: the end of UNSET, returning masters, and the tracker's deadlines (R22 to R28). -/

namespace Sys2Proof.Machine

/-! ## The end of UNSET (R22) -/

/-- The tracker that the primary's mark leaves in UNSET, before its pass starts (R22). -/
def unsetTracker (s : State) (m : MarkMsg) : Tracker :=
  { s.tracker with
    state := .primary
    epoch := m.number
    period := adoptedPeriod m
    primaryRec := some ⟨m.number, s.now⟩
    unsetDeadline := none
    lossDeadline := some (after s.now (s.settings.lossCount * adoptedPeriod m)) }

theorem unsetExit_eq (s : State) (m : MarkMsg) :
    unsetExit s m = startPass (sourceChanged (s.setTracker (unsetTracker s m)) .unset) := rfl

/-- A secondary mark that only sets the secondary record, or is a copy (R22, R26). -/
theorem secondaryMark_notes {s : State} {m : MarkMsg} (ready : Ready s) (mode : s.mode ≠ .halted)
    (master : MarkOf s .secondary m.src) (state : s.tracker.state = .unset ∨ s.tracker.state = .primary) :
    exec (.epochMark m) s = .next (noteSecondary (takeDelivery s (.mark m)) m) := by
  refine exec_epochMark ready ?_ ?_
  · rw [takeMark_of (s := takeDelivery s (.mark m)) mode (markOf_takeDelivery master)]
    rcases state with state | state <;> rw [takeDelivery_tracker, state]
  · unfold noteSecondary
    split <;> rfl

theorem mark_ignored {s : State} {m : MarkMsg} (ready : Ready s)
    (nobody : s.mode = .halted ∨ ∀ g : Master, ¬ MarkOf s g m.src) :
    exec (.epochMark m) s = .next (takeDelivery s (.mark m)) := by
  refine exec_epochMark ready ?_ rfl
  unfold takeMark
  rcases nobody with halted | nobody
  · rw [if_pos (by simpa [State.mode] using halted)]
  · split
    · rfl
    · rw [show masterOf (takeDelivery s (.mark m)) m.src = none from masterOf_none nobody]

/-- Settles O23: a primary mark in UNSET as a change of source and a pass start; a secondary mark by whether it is a copy. -/
theorem primaryMarkEndsUnset : Obligations.PrimaryMarkEndsUnset := by
  refine ⟨fun s m ready mode master state => ⟨fun r there copy => ?_, fun fresh => ?_⟩, fun s m ready nobody => ?_,
    fun s m ready mode unset master => ?_⟩
  · rw [secondaryMark_notes ready mode master state]
    simp [noteSecondary, there, copy]
  · rw [secondaryMark_notes ready mode master state]
    have new : (s.tracker.secondaryRec.any fun r => r.number == m.number) = false := by
      cases there : s.tracker.secondaryRec with
      | none => rfl
      | some r => simpa using Ne.symm (fresh r there)
    simp [noteSecondary, new]
  · exact mark_ignored ready nobody
  · have taken : takeMark (takeDelivery s (.mark m)) m = unsetExit (takeDelivery s (.mark m)) m := by
      rw [takeMark_of (g := .primary) (s := takeDelivery s (.mark m)) mode master, takeDelivery_tracker, unset]
    have work := sourceChanged_work ((takeDelivery s (.mark m)).setTracker (unsetTracker (takeDelivery s (.mark m)) m)) .unset
    have starts := startPass_starts
      (sourceChanged ((takeDelivery s (.mark m)).setTracker (unsetTracker (takeDelivery s (.mark m)) m)) .unset)
    rw [← unsetExit_eq] at starts
    have tracker := starts.tracker
    have same := work.outside.tracker
    have pass := (congrArg Tracker.passInProgress same :)
    rw [same] at tracker
    refine ⟨_, exec_epochMark ready taken (starts.agenda.trans work.outside.agenda), tracker, fun idle => ?_, fun busy => ?_,
      starts.service.trans work.outside.service, starts.dispatch.trans work.outside.dispatcher,
      starts.shed.trans work.outside.shed, starts.seqr.trans work.outside.seqr, fun room => ?_⟩
    · obtain ⟨sn, balance, epoch, time, units, -, -, trip, -, evaluated⟩ := starts.begun (pass.trans idle)
      refine ⟨sn, by rw [balance, work.outside.balance]; rfl, ?_, time.trans work.outside.now, units,
        evaluated.trans (evaluateFreshness_units work.outside.units work.outside.now), ?_⟩
      · rw [epoch, same]; rfl
      · rw [trip, work.outside.balance]; rfl
    · obtain ⟨balance, units, latched⟩ := starts.overrun (pass.trans busy)
      exact ⟨balance.trans work.outside.balance, units.trans work.outside.units, latched⟩
    · have logged := sourceChanged_log (s := (takeDelivery s (.mark m)).setTracker (unsetTracker (takeDelivery s (.mark m)) m))
        .unset room
      have now := starts.now.trans work.outside.now
      refine (starts.log _ _ logged).trans ?_
      simp only [recordNow, now, tracker]
      rfl

/-! ## Deadlines -/

/-- What a change of source by a deadline leaves (R23 to R25, R31). -/
structure SourceEnters (s t : State) (left : EpochState) (entered : Tracker) : Prop where
  tracker : t.tracker = entered
  balance : t.balance = s.balance
  units   : t.units = s.units
  agenda  : t.agenda = s.agenda
  latched : ∀ c : Condition, epochCause entered.state = some c → t.isLatched c = true
  log     : logOpen s → t.events.log.get s.events.writeIndex =
    some (recordNow t .epochSourceChanged none (some (left.code : Int)) (some entered.state.code))

theorem sourceChanged_enters (s : State) (left : EpochState) (tracker : Tracker) :
    SourceEnters s (sourceChanged (s.setTracker tracker) left) left tracker := by
  have work := sourceChanged_work (s.setTracker tracker) left
  refine ⟨work.outside.tracker, work.outside.balance, work.outside.units, work.outside.agenda,
    fun c cause => sourceChanged_latched cause, fun room => ?_⟩
  refine (sourceChanged_log (s := s.setTracker tracker) left room).trans ?_
  simp only [recordNow, work.outside.now, work.outside.tracker]
  rfl

/-- The tracker as it enters FREE_RUN (R23 to R25). -/
def freeRunTracker (s : State) : Tracker :=
  { s.tracker with
    state := .freeRun
    lossDeadline := none
    unsetDeadline := none
    freeDeadline := some (after s.now s.tracker.period) }

theorem enterFreeRun_enters (s : State) : SourceEnters s (enterFreeRun s) s.tracker.state (freeRunTracker s) :=
  sourceChanged_enters s s.tracker.state (freeRunTracker s)

theorem recentSecondary_some {s : State} {within : Nat} {r : MarkRec} (dual : s.settings.epochMode = .dual)
    (there : s.tracker.secondaryRec = some r) (recent : elapsed s.now r.arrival ≤ within) : recentSecondary s within = some r := by
  simp [recentSecondary, dual, there, recent]

theorem recentSecondary_none {s : State} {within : Nat}
    (h : s.settings.epochMode = .single ∨ ∀ r : MarkRec, s.tracker.secondaryRec = some r → within < elapsed s.now r.arrival) :
    recentSecondary s within = none := by
  unfold recentSecondary
  rcases h with single | old
  · simp [single]
  · split
    · simpa [Option.filter_eq_none_iff] using old
    · rfl

/-- What a deadline's command does when the deadline is due. -/
theorem exec_due {i : Instr} {s t : State} {f : State → State} (ready : Ready s) (runs : exec i s = act s f) (made : f s = t)
    (quiet : t.agenda = s.agenda) : exec i s = .next t := by
  subst made
  rw [runs]
  exact ready.act quiet

/-- Settles O25: the two ways out of UNSET, by whether a secondary mark is recent. -/
theorem unsetDeadlineChoosesTheSource : Obligations.UnsetDeadlineChoosesTheSource := by
  intro s d ready state mode deadline due
  have made : (if s.tracker.state == .unset && s.mode != .halted && dueAt s.now s.tracker.unsetDeadline then unsetExpiry s
      else s) = unsetExpiry s := by
    simp [state, mode, deadline, dueAt, due]
  have finish {t : State} {tracker : Tracker} (expired : unsetExpiry s = t) (enters : SourceEnters s t .unset tracker) :
      exec .unsetDeadlineExpiry s = .next t :=
    exec_due ready rfl (made.trans expired) enters.agenda
  cases recent : recentSecondary s 3000 with
  | some r =>
    have enters := sourceChanged_enters s .unset { s.tracker with
      state := .secondary, epoch := r.number, unsetDeadline := none
      lossDeadline := some (after r.arrival (lossTime s)) }
    refine ⟨_, finish (by simp only [unsetExpiry, recent]) enters, enters.balance, enters.units, fun r' dual there young => ?_,
      fun none => ?_, fun room => ?_⟩
    · obtain rfl : r' = r := Option.some.inj ((recentSecondary_some dual there young).symm.trans recent)
      exact ⟨enters.tracker, enters.latched _ rfl⟩
    · rw [recentSecondary_none none] at recent
      cases recent
    · rw [enters.tracker]
      exact enters.log room
  | none =>
    have enters := enterFreeRun_enters s
    rw [state] at enters
    refine ⟨_, finish (by simp only [unsetExpiry, recent]) enters, enters.balance, enters.units, fun r dual there young => ?_,
      fun _ => ⟨enters.tracker, enters.latched _ rfl⟩, fun room => ?_⟩
    · rw [recentSecondary_some dual there young] at recent
      cases recent
    · rw [enters.tracker]
      exact enters.log room

/-- Settles O26: the two ways out of PRIMARY, by whether a secondary mark is recent. -/
theorem primaryLossChoosesTheSource : Obligations.PrimaryLossChoosesTheSource := by
  intro s d ready state deadline due
  have made : (if s.tracker.state == .primary && dueAt s.now s.tracker.lossDeadline then losePrimary s else s) =
      losePrimary s := by
    simp [state, deadline, dueAt, due]
  have finish {t : State} {tracker : Tracker} (lost : losePrimary s = t) (enters : SourceEnters s t .primary tracker) :
      exec .primaryLoss s = .next t :=
    exec_due ready rfl (made.trans lost) enters.agenda
  cases recent : recentSecondary s (lossTime s) with
  | some r =>
    have enters := sourceChanged_enters s .primary { s.tracker with
      state := .secondary, primaryReturn := 0, lossDeadline := some (after r.arrival (lossTime s)) }
    refine ⟨_, finish (by simp only [losePrimary, recent]; rfl) enters, enters.balance, enters.units,
      fun r' dual there young => ?_, fun none => ?_, fun room => ?_⟩
    · obtain rfl : r' = r := Option.some.inj ((recentSecondary_some dual there young).symm.trans recent)
      exact ⟨enters.tracker, enters.latched _ rfl⟩
    · rw [recentSecondary_none (within := lossTime s) none] at recent
      cases recent
    · rw [enters.tracker]
      exact enters.log room
  | none =>
    have enters := enterFreeRun_enters (s.setTracker { s.tracker with primaryReturn := 0 })
    rw [State.setTracker_tracker, state] at enters
    refine ⟨_, exec_due ready rfl (made.trans (by simp only [losePrimary, recent])) enters.agenda, enters.balance, enters.units,
      fun r dual there young => ?_, fun _ => ⟨enters.tracker, enters.latched _ rfl⟩, fun room => ?_⟩
    · rw [recentSecondary_some (within := lossTime s) dual there young] at recent
      cases recent
    · rw [enters.tracker]
      exact enters.log room

/-- Settles O27. -/
theorem secondaryLossEntersFreeRun : Obligations.SecondaryLossEntersFreeRun := by
  intro s d ready state deadline due
  have made : (if s.tracker.state == .secondary && dueAt s.now s.tracker.lossDeadline then loseSecondary s else s) =
      loseSecondary s := by
    simp [state, deadline, dueAt, due]
  have enters := enterFreeRun_enters (s.setTracker { s.tracker with secondaryReturn := 0 })
  rw [State.setTracker_tracker, state] at enters
  exact ⟨_, exec_due ready rfl made enters.agenda, enters.balance, enters.units, enters.tracker, enters.latched _ rfl,
    fun room => enters.log room⟩

/-- Settles O28: the tracker moved on, and a pass start. -/
theorem freeRunAdvancesTheEpoch : Obligations.FreeRunAdvancesTheEpoch := by
  intro s d ready state deadline due
  have made : freeRunDue s = freeRunStep s d := by
    simp [freeRunDue, deadline, state, due]
  have starts := startPass_starts (s.setTracker { s.tracker with
    epoch := s.tracker.epoch + 1, freeDeadline := some (after d s.tracker.period) })
  refine ⟨_, exec_due ready (exec_freeRunExpiry s) made starts.agenda, fun idle => ⟨?_, ?_⟩, fun busy => ⟨?_, ?_⟩,
    starts.service, starts.dispatch, starts.shed, starts.seqr⟩
  · refine starts.tracker.trans ?_
    simp [idle]
  · obtain ⟨sn, balance, epoch, time, units, -, -, trip, -, evaluated⟩ := starts.begun idle
    exact ⟨sn, balance, epoch, time, units, evaluated.trans (evaluateFreshness_units rfl rfl), trip⟩
  · refine starts.tracker.trans ?_
    simp [busy]
  · exact starts.overrun busy

end Sys2Proof.Machine
end

section
/-! A returning master: its marks counted, and its take-over (R27). -/

namespace Sys2Proof.Machine

/-- The tracker of a returning master that takes over, before its mark is compared with E (R27). -/
def takenTracker (t : Tracker) (now : Time) (lossCount : Nat) (g : Master) (m : MarkMsg) : Tracker :=
  { t with
    state := g.state
    period := adoptedPeriod m
    freeDeadline := none
    primaryReturn := if g = .secondary then t.primaryReturn else 0
    secondaryReturn := 0
    lossDeadline := some (after now (lossCount * adoptedPeriod m)) }

/-- A take-over: the source changed, and then a pass started unless the mark is E. -/
theorem takeover_cases (s : State) (g : Master) (m : MarkMsg) :
    ∃ x : State, RecordWork (s.setTracker (takenTracker s.tracker s.now s.settings.lossCount g m)) x ∧
      (g = .secondary → x.isLatched .epochPrimaryLost = true) ∧
      (logOpen s → x.events.log.get s.events.writeIndex =
        some (recordNow s .epochSourceChanged none (some (s.tracker.state.code : Int)) (some g.state.code))) ∧
      (m.number = s.tracker.epoch → takeover s g m = x) ∧
      (m.number ≠ s.tracker.epoch → ∃ w : State, RecordWork x w ∧
        PassStarts (w.setTracker { w.tracker with epoch := m.number }) (takeover s g m)) := by
  have work := sourceChanged_work (s.setTracker (takenTracker s.tracker s.now s.settings.lossCount g m)) s.tracker.state
  have epoch : (sourceChanged (s.setTracker (takenTracker s.tracker s.now s.settings.lossCount g m))
      s.tracker.state).tracker.epoch = s.tracker.epoch := (congrArg Tracker.epoch work.outside.tracker :)
  refine ⟨_, work, fun second => ?_, fun room => ?_, fun same => ?_, fun other => ?_⟩
  · subst second
    exact sourceChanged_latched rfl
  · exact sourceChanged_log (s := s.setTracker (takenTracker s.tracker s.now s.settings.lossCount g m)) _ room
  · exact if_pos (by rw [beq_iff_eq, same]; exact epoch.symm)
  · refine ⟨_, jumpUnlessNext_work _ m.number, ?_⟩
    have goes : takeover s g m = startPass _ := if_neg (by rw [beq_iff_eq]; exact fun same => other (same.trans epoch))
    rw [goes]
    exact startPass_starts _

/-- The mark of a returning master reaches its count (R27). -/
theorem takeMark_returning {s : State} {m : MarkMsg} {g : Master} (mode : s.mode ≠ .halted) (master : MarkOf s g m.src)
    (away : g = .primary ∧ (s.tracker.state = .secondary ∨ s.tracker.state = .freeRun) ∨
      g = .secondary ∧ s.tracker.state = .freeRun) : takeMark s m = returnMark s g m := by
  rw [takeMark_of mode master]
  rcases away with ⟨rfl, state | state⟩ | ⟨rfl, state⟩ <;> rw [state]

/-- What a mark that is no copy comes to: the count raised, and the take-over when it is reached. -/
theorem returnMark_eq {s : State} {m : MarkMsg} {g : Master} {n : Nat}
    (fresh : ∀ r : MarkRec, s.tracker.recOf g = some r → m.number ≠ r.number ∧
      n = if m.number = r.number + 1 ∧ elapsed s.now r.arrival ≤ s.settings.lossCount * s.tracker.period then
        min 8 (s.tracker.returnOf g + 1) else 1)
    (absent : s.tracker.recOf g = none → n = 1) :
    returnMark s g m =
      if s.settings.returnCount ≤ n then takeover (s.setTracker ((s.tracker.setRec g ⟨m.number, s.now⟩).setReturn g n)) g m
      else s.setTracker ((s.tracker.setRec g ⟨m.number, s.now⟩).setReturn g n) := by
  have counted : countedReturn s g m = n := by
    unfold countedReturn
    split
    next none => exact (absent none).symm
    next r there =>
      rw [(fresh r there).2, show lossTime s = s.settings.lossCount * s.tracker.period from rfl]
      simp only [bump, Bool.and_eq_true, beq_iff_eq, decide_eq_true_eq]
  have noCopy : ((s.tracker.recOf g).any fun r => r.number == m.number) = false := by
    cases there : s.tracker.recOf g with
    | none => rfl
    | some r => simpa using Ne.symm (fresh r there).1
  simp only [returnMark, noCopy, Bool.false_eq_true, if_false, counted]
  rfl

/-- What a take-over leaves of the tracker, whatever becomes of the pass (R27). -/
structure TakesOver (s t : State) (g : Master) (m : MarkMsg) : Prop where
  state           : t.tracker.state = g.state
  epoch           : t.tracker.epoch = m.number
  period          : t.tracker.period = max 10 (min 1000 m.period.toNat)
  own             : t.tracker.recOf g = some ⟨m.number, s.now⟩
  other           : ∀ h : Master, h ≠ g → t.tracker.recOf h = s.tracker.recOf h
  lossDeadline    : t.tracker.lossDeadline = some (after s.now (s.settings.lossCount * t.tracker.period))
  freeDeadline    : t.tracker.freeDeadline = none
  secondaryReturn : t.tracker.secondaryReturn = 0
  primaryReturn   : t.tracker.primaryReturn = if g = .primary then 0 else s.tracker.primaryReturn

theorem takesOver_of {s t : State} {g : Master} {m : MarkMsg} {n overruns : Nat} {pass : Bool}
    (tracker : t.tracker = { takenTracker ((s.tracker.setRec g ⟨m.number, s.now⟩).setReturn g n) s.now s.settings.lossCount g m
      with epoch := m.number, passInProgress := pass, overruns := overruns }) : TakesOver s t g m := by
  refine ⟨congrArg Tracker.state tracker, congrArg Tracker.epoch tracker, congrArg Tracker.period tracker,
    (congrArg (Tracker.recOf · g) tracker).trans (by cases g <;> rfl), fun h other =>
      (congrArg (Tracker.recOf · h) tracker).trans ?_, (congrArg Tracker.lossDeadline tracker).trans (by rw [tracker]; rfl),
    congrArg Tracker.freeDeadline tracker, congrArg Tracker.secondaryReturn tracker,
    (congrArg Tracker.primaryReturn tracker).trans (by cases g <;> rfl)⟩
  cases g with
  | primary =>
    cases h with
    | primary => exact absurd rfl other
    | secondary => rfl
  | secondary =>
    cases h with
    | primary => rfl
    | secondary => exact absurd rfl other

theorem epoch_same {t : Tracker} {e : Num16} (h : t.epoch = e) :
    t = { t with epoch := e, passInProgress := t.passInProgress, overruns := t.overruns } := by
  subst h
  rfl

/-- Settles O24: a copy, a count below the setting, and the take-over with or without a pass start. -/
theorem returningPrimaryCountsAndTakesOver : Obligations.ReturningPrimaryCountsAndTakesOver := by
  intro s m g ready mode master away
  have taken : takeMark (takeDelivery s (.mark m)) m = returnMark (takeDelivery s (.mark m)) g m :=
    takeMark_returning (s := takeDelivery s (.mark m)) mode (markOf_takeDelivery master) away
  refine ⟨fun r there copy => exec_epochMark ready (taken.trans ?_) rfl, fun n fresh absent => ?_⟩
  · simp [returnMark, there, copy]
  rw [returnMark_eq (s := takeDelivery s (.mark m)) (n := n) fresh absent] at taken
  refine ⟨fun below => exec_epochMark ready (taken.trans (if_neg (not_le.mpr below))) rfl, fun reached => ?_⟩
  rw [if_pos (by exact reached), takeDelivery_tracker, takeDelivery_now] at taken
  obtain ⟨x, work, lost, log, stays, moves⟩ := takeover_cases ((takeDelivery s (.mark m)).setTracker
    ((s.tracker.setRec g ⟨m.number, s.now⟩).setReturn g n)) g m
  have plain : ((s.tracker.setRec g ⟨m.number, s.now⟩).setReturn g n).epoch = s.tracker.epoch ∧
      ((s.tracker.setRec g ⟨m.number, s.now⟩).setReturn g n).state = s.tracker.state ∧
      ((s.tracker.setRec g ⟨m.number, s.now⟩).setReturn g n).passInProgress = s.tracker.passInProgress ∧
      ((s.tracker.setRec g ⟨m.number, s.now⟩).setReturn g n).overruns = s.tracker.overruns := by
    cases g <;> exact ⟨rfl, rfl, rfl, rfl⟩
  obtain ⟨epoch, state, pass, overruns⟩ := plain
  have tracker : x.tracker = takenTracker ((s.tracker.setRec g ⟨m.number, s.now⟩).setReturn g n) s.now s.settings.lossCount g m :=
    work.outside.tracker
  have logged (room : logOpen s) : x.events.log.get s.events.writeIndex =
      some (recordNow s .epochSourceChanged none (some (s.tracker.state.code : Int)) (some g.state.code)) := by
    refine (log room).trans ?_
    simp only [recordNow, State.setTracker_now, State.setTracker_tracker, takeDelivery_now, epoch, state]
  by_cases same : m.number = s.tracker.epoch
  · have taker : TakesOver s x g m := takesOver_of (n := n) (tracker.trans (epoch_same (epoch.trans same.symm)))
    refine ⟨x, exec_epochMark ready (taken.trans (stays (same.trans epoch.symm))) work.outside.agenda, taker.state, taker.epoch,
      taker.period, taker.own, taker.other, taker.lossDeadline, taker.freeDeadline, taker.secondaryReturn, taker.primaryReturn, logged,
      lost, fun _ => ⟨work.outside.balance, work.outside.units, ?_, ?_⟩, fun other => absurd same other,
      fun other => absurd same other⟩
    · rw [tracker]; exact pass
    · rw [tracker]; exact overruns
  · obtain ⟨w, jumped, starts⟩ := moves (fun eq => same (eq.trans epoch))
    have before := jumped.outside.tracker.trans tracker
    have busy : w.tracker.passInProgress = s.tracker.passInProgress := by rw [before]; exact pass
    have counted : w.tracker.overruns = s.tracker.overruns := by rw [before]; exact overruns
    have taking {t : State} (begun : PassStarts (w.setTracker { w.tracker with epoch := m.number }) t) : TakesOver s t g m :=
      takesOver_of (n := n) (begun.tracker.trans (by rw [State.setTracker_tracker, before]))
    have taker := taking starts
    refine ⟨_, exec_epochMark ready taken (starts.agenda.trans (jumped.outside.agenda.trans work.outside.agenda)), taker.state,
      taker.epoch, taker.period, taker.own, taker.other, taker.lossDeadline, taker.freeDeadline, taker.secondaryReturn,
      taker.primaryReturn, fun room => starts.log _ _ (jumped.log _ _ (logged room)),
      fun second => starts.latched _ (jumped.latched _ (lost second)), fun eq => absurd eq same, fun _ idle => ?_,
      fun _ inPass => ?_⟩
    · obtain ⟨sn, balance, number, time, units, -, -, trip, -, evaluated⟩ := starts.begun (busy.trans idle)
      refine ⟨congrArg Tracker.passInProgress starts.tracker, ?_, sn, ?_, number, ?_, units, ?_, ?_⟩
      · refine (congrArg Tracker.overruns starts.tracker).trans ?_
        simp [busy, idle, counted]
      · rw [balance, State.setTracker_balance, jumped.outside.balance, work.outside.balance]; rfl
      · exact time.trans (jumped.outside.now.trans work.outside.now)
      · exact evaluated.trans (evaluateFreshness_units (jumped.outside.units.trans work.outside.units)
          (jumped.outside.now.trans work.outside.now))
      · rw [trip, State.setTracker_balance, jumped.outside.balance, work.outside.balance]; rfl
    · obtain ⟨balance, units, latched⟩ := starts.overrun (busy.trans inPass)
      refine ⟨balance.trans (jumped.outside.balance.trans work.outside.balance),
        units.trans (jumped.outside.units.trans work.outside.units), ?_, latched⟩
      refine (congrArg Tracker.overruns starts.tracker).trans ?_
      simp [busy, inPass, counted]

end Sys2Proof.Machine
end

section
/-! Reading Intake: readings that fail a check (R43 to R47), and foreign orders (R59, R60). -/

namespace Sys2Proof.Machine

/-! ## The checks -/

theorem exec_reading {s : State} {m : ReadingMsg} {t : State} (ready : Ready s)
    (taken : takeReading (takeDelivery s (.reading m)) m = t) (quiet : t.agenda = s.agenda) :
    exec (.reading m) s = .next t := by
  rw [← taken] at quiet ⊢
  exact ready.act (f := fun s => takeReading (takeDelivery s (.reading m)) m) quiet

/-- The delivery taken does not bear on the checks. -/
theorem checkReading_takeDelivery (s : State) (d : Delivery) (m : ReadingMsg) :
    checkReading (takeDelivery s d) m = checkReading s m := rfl

theorem reading_dropped {s : State} {m : ReadingMsg} (ready : Ready s) (fails : checkReading s m = .dropped) :
    exec (.reading m) s = .next (takeDelivery s (.reading m)) := by
  refine exec_reading ready ?_ rfl
  simp only [takeReading, checkReading_takeDelivery, fails]

theorem checkReading_of_mode_kind {s : State} {m : ReadingMsg}
    (h : s.mode = .halted ∨ (s.unit m.unit).kind ≠ bodyKind m.body) : checkReading s m = .dropped := by
  unfold checkReading
  rcases h with mode | kind
  · simp [mode]
  · simp only [bne_iff_ne.mpr kind, if_true, ite_self]

theorem checkReading_of_source {s : State} {m : ReadingMsg} (mode : s.mode ≠ .halted)
    (kind : (s.unit m.unit).kind = bodyKind m.body) (source : (s.unit m.unit).link ≠ some m.src) :
    checkReading s m = .mismatch := by
  simp [checkReading, mode, kind, source]

/-- With the right source, a reading outside the epoch window or with an old sequence is dropped whatever its mode and kind. -/
theorem checkReading_of_late {s : State} {m : ReadingMsg} (source : (s.unit m.unit).link = some m.src)
    (late : inWindow s.tracker m.epoch = false ∨ seqPasses (s.unit m.unit) s.now m.seq = false) :
    checkReading s m = .dropped := by
  simp only [checkReading, source, bne_self_eq_false, Bool.false_eq_true, if_false]
  rcases late with window | seq
  · simp [window]
  · simp [seq]

/-- A closed record takes the sequences of the half ring after its last one (R47). -/
theorem seqPasses_of_closed {r : UnitRec} {now t : Time} {seq : Num16} (heard : r.live.heard = true)
    (arrived : r.live.lastArrival = some t) (young : elapsed now t ≤ r.stale * r.interval)
    (old : (seq - r.live.lastSeq).toNat = 0 ∨ 32768 ≤ (seq - r.live.lastSeq).toNat) : seqPasses r now seq = false := by
  have closed : recordOpen r now = false := by simp [recordOpen, heard, arrived, young]
  have gap : seqGap r seq = (seq - r.live.lastSeq).toNat := rfl
  rw [seqPasses, closed, gap]
  generalize (seq - r.live.lastSeq).toNat = ahead at old
  simp only [Bool.false_or, Bool.and_eq_false_iff, decide_eq_false_iff_not]
  omega

/-- Settles O36, by the first check that fails. -/
theorem failedReadingIsDropped : Obligations.FailedReadingIsDropped := by
  intro s m ready
  refine ⟨fun h => reading_dropped ready (checkReading_of_mode_kind h), fun mode kind source => ?_,
    fun source governed other previous => ?_, fun source heard recent old => ?_⟩
  · have taken : takeReading (takeDelivery s (.reading m)) m = rise (takeDelivery s (.reading m)) .addressMismatch := by
      simp only [takeReading, checkReading_takeDelivery, checkReading_of_source mode kind source]
    have work := rise_work (takeDelivery s (.reading m)) .addressMismatch
    exact ⟨_, exec_reading ready taken work.outside.agenda, work, rise_latched _ _, fun already => rise_of_latched already⟩
  · refine reading_dropped ready (checkReading_of_late source (.inl ?_))
    rw [← Bool.not_eq_true, inWindow_iff_of_governed governed]
    exact fun either => either.elim other previous
  · obtain ⟨t, arrived, young⟩ := recent
    exact reading_dropped ready (checkReading_of_late source (.inr (seqPasses_of_closed heard arrived young old)))

/-! ## Foreign orders -/

theorem exec_observedOrder {s : State} {o : ObservedMsg} {t : State} (ready : Ready s)
    (taken : takeObserved (takeDelivery s (.observed o)) o = t) (quiet : t.agenda = s.agenda) :
    exec (.observedOrder o) s = .next t := by
  rw [← taken] at quiet ⊢
  exact ready.act (f := fun s => takeObserved (takeDelivery s (.observed o)) o) quiet

/-- The live fields of a unit that a foreign order has reached (R60). -/
def heldLive (s : State) (o : ObservedMsg) : Live :=
  { (s.unit o.unit).live with hold := if s.settings.holdTime = 0 then none else some (after s.now s.settings.holdTime) }

theorem foreignOrder_eq (s : State) (o : ObservedMsg) : foreignOrder s o =
    if (s.unit o.unit).holdCurrent s.now then s.setLive o.unit (heldLive s o)
    else record (s.setLive o.unit (heldLive s o)) .manualHold (some o.unit) (some (s.settings.holdTime : Int))
      (some (orderCode o.order)) := rfl

/-- Settles O38, by whether the unit is held already. -/
theorem foreignOrderHoldsTheUnit : Obligations.ForeignOrderHoldsTheUnit := by
  intro s o ready
  refine ⟨fun mode kind => ?_, fun nothing => exec_observedOrder ready ?_ rfl⟩
  · have taken : takeObserved (takeDelivery s (.observed o)) o = foreignOrder (takeDelivery s (.observed o)) o := by
      unfold takeObserved
      rw [if_neg]
      simp only [Bool.or_eq_true, beq_iff_eq, not_or]
      exact ⟨mode, kind⟩
    rw [foreignOrder_eq] at taken
    have own : ((takeDelivery s (.observed o)).setLive o.unit (heldLive s o)).unit o.unit =
        { s.unit o.unit with live := heldLive s o } := by rw [unit_setLive, if_pos rfl]; rfl
    have others (v : UnitNo) (other : v ≠ o.unit) :
        ((takeDelivery s (.observed o)).setLive o.unit (heldLive s o)).unit v = s.unit v := by
      rw [unit_setLive, if_neg other]; rfl
    by_cases held : (s.unit o.unit).holdCurrent s.now = true
    · rw [if_pos (by exact held)] at taken
      exact ⟨_, exec_observedOrder ready taken rfl, own, others, rfl, rfl, rfl, rfl, rfl, rfl, fun _ => ⟨rfl, rfl, rfl⟩,
        fun free => by rw [held] at free; cases free⟩
    · rw [if_neg (by exact held)] at taken
      have work := record_work ((takeDelivery s (.observed o)).setLive o.unit (heldLive s o)) .manualHold (some o.unit)
        (some (s.settings.holdTime : Int)) (some (orderCode o.order))
      refine ⟨_, exec_observedOrder ready taken work.outside.agenda, (work.unit _).trans own,
        fun v other => (work.unit v).trans (others v other), work.outside.service, work.outside.tracker, work.outside.shed,
        work.outside.seqr, work.outside.dispatcher, work.outside.balance, fun already => absurd already held,
        fun _ room => ?_⟩
      exact record_log (s := (takeDelivery s (.observed o)).setLive o.unit (heldLive s o)) room _ _ _ _
  · unfold takeObserved
    rw [if_pos]
    simp only [Bool.or_eq_true, beq_iff_eq]
    exact nothing

end Sys2Proof.Machine
end

section
/-! The Event Log over several records: where the k-th record of a run stands (R181). -/

namespace Sys2Proof.Machine

/-! ## Records made one after the other -/

theorem recordsMade_cons (e : Events) (r : EventRec) (rs : List EventRec) :
    recordsMade e (r :: rs) = recordsMade (recordsMade e [r]) rs := rfl

theorem recordsMade_nil (e : Events) : recordsMade e [] = e := rfl

theorem recordsMade_single_of_empty {e : Events} (flag : e.overflow = false) (empty : e.log.get e.writeIndex = none)
    (r : EventRec) : recordsMade e [r] = { e with log := e.log.set e.writeIndex (some r), writeIndex := e.writeIndex + 1 } := by
  simp [recordsMade, flag, empty]

/-- A record that stands in the log is never overwritten. -/
theorem recordsMade_keeps {i : LogNo} {x : EventRec} (rs : List EventRec) (e : Events) (there : e.log.get i = some x) :
    (recordsMade e rs).log.get i = some x := by
  induction rs generalizing e with
  | nil => exact there
  | cons r rs ih =>
    rw [recordsMade_cons]
    refine ih _ ?_
    simp only [recordsMade, List.foldl_cons, List.foldl_nil]
    split
    · exact there
    · split
      next empty =>
        rw [vectorGet_set, if_neg]
        · exact there
        · rintro rfl
          rw [there] at empty
          cases empty
      next => exact there

/-- With `n` empty slots from the write index on, the first `n` records stand there in their order. -/
theorem recordsMade_get (rs : List EventRec) (e : Events) (flag : e.overflow = false) {n : Nat}
    (room : ∀ k : Fin 32, k.val < n → e.log.get (e.writeIndex + k) = none) (k : Fin 32) (first : k.val < n)
    (made : k.val < rs.length) : (recordsMade e rs).log.get (e.writeIndex + k) = some (rs[k.val]) := by
  induction rs generalizing e n k with
  | nil => cases made
  | cons r rs ih =>
    have head : e.log.get e.writeIndex = none := by simpa using room 0 (by simp; omega)
    rw [recordsMade_cons, recordsMade_single_of_empty flag head]
    by_cases zero : k = 0
    · subst zero
      exact recordsMade_keeps rs _ (by simp [vectorGet_set])
    · obtain ⟨j, rfl⟩ : ∃ j : Fin 32, k = j + 1 := ⟨k - 1, (sub_add_cancel k 1).symm⟩
      have val : (j + 1).val = j.val + 1 := by
        have := Fin.val_add j 1
        have : (j + 1).val ≠ 0 := fun z => zero (Fin.ext z)
        omega
      have place : e.writeIndex + (j + 1) = e.writeIndex + 1 + j := by rw [add_assoc, add_comm j 1]
      simp only [val] at first made ⊢
      rw [place, List.getElem_cons_succ]
      refine ih { e with log := e.log.set e.writeIndex (some r), writeIndex := e.writeIndex + 1 } flag (n := j.val + 1)
        (fun i below => ?_) j (by omega) (by simpa using made)
      have ahead : (i + 1).val = i.val + 1 := by
        have := Fin.val_add i 1
        omega
      have moved : e.writeIndex + 1 + i = e.writeIndex + (i + 1) := by rw [add_assoc, add_comm i 1]
      simp only [moved]
      rw [vectorGet_set, if_neg]
      · exact room (i + 1) (by omega)
      · intro same
        have : i + 1 = 0 := add_eq_left.mp same
        rw [this] at ahead
        simp at ahead

/-! ## The gains of a log -/

theorem recordsMade_congr {e f : Events} (log : e.log = f.log) (index : e.writeIndex = f.writeIndex)
    (flag : e.overflow = f.overflow) (rs : List EventRec) : (recordsMade e rs).log = (recordsMade f rs).log ∧
      (recordsMade e rs).writeIndex = (recordsMade f rs).writeIndex ∧ (recordsMade e rs).overflow = (recordsMade f rs).overflow := by
  induction rs generalizing e f with
  | nil => exact ⟨log, index, flag⟩
  | cons r rs ih =>
    have one : (recordsMade e [r]).log = (recordsMade f [r]).log ∧ (recordsMade e [r]).writeIndex = (recordsMade f [r]).writeIndex ∧
        (recordsMade e [r]).overflow = (recordsMade f [r]).overflow := by
      simp only [recordsMade, List.foldl_cons, List.foldl_nil, log, index, flag]
      split_ifs
      · exact ⟨log, index, flag⟩
      · exact ⟨rfl, rfl, rfl⟩
      · exact ⟨rfl, rfl, rfl⟩
    exact ih one.1 one.2.1 one.2.2

theorem LogGains.refl (s : State) : LogGains s s [] := ⟨rfl, rfl, rfl⟩

theorem LogGains.of_events {s t : State} (same : t.events = s.events) : LogGains s t [] := by
  simp [LogGains, recordsMade_nil, same]

theorem LogGains.latch (s : State) (c : Condition) : LogGains s (s.latch c) [] := ⟨rfl, rfl, rfl⟩

theorem LogGains.trans {s t u : State} {a b : List EventRec} (h : LogGains s t a) (h' : LogGains t u b) :
    LogGains s u (a ++ b) := by
  obtain ⟨log, index, flag⟩ := h
  obtain ⟨log', index', flag'⟩ := recordsMade_congr log index flag b
  unfold LogGains
  rw [recordsMade_append]
  exact ⟨h'.1.trans log', h'.2.1.trans index', h'.2.2.trans flag'⟩

/-- Where the log has room for the first `n` of the records gained, each of those stands in its place. -/
theorem LogGains.get {s t : State} {rs : List EventRec} (h : LogGains s t rs) (flag : s.events.overflow = false) {n : Nat}
    (room : ∀ k : Fin 32, k.val < n → s.events.log.get (s.events.writeIndex + k) = none) (k : Fin 32) (first : k.val < n)
    (made : k.val < rs.length) : t.events.log.get (s.events.writeIndex + k) = some (rs[k.val]) := by
  rw [h.1]
  exact recordsMade_get rs s.events flag room k first made

theorem LogGains.first {s t : State} {r : EventRec} {rs : List EventRec} (h : LogGains s t (r :: rs)) (room : logOpen s) :
    t.events.log.get s.events.writeIndex = some r := by
  have := h.get room.1 (n := 1) (fun k one => ?_) 0 (by decide) (by simp)
  · simpa using this
  · rw [show k = 0 from Fin.ext (by omega), add_zero]
    exact room.2

theorem recordEntry_gains (s : State) (k : EventKind) (u : Option UnitNo) (v : Option Int) (d : Option Nat) :
    LogGains s (recordEntry s k u v d) [recordNow s k u v d] := by
  obtain ⟨more, groups, e, -⟩ := recordEntry_says s k u v d
  rw [e]
  exact ⟨rfl, rfl, rfl⟩

/-- An event raised gains its record, and that of QUEUE_PRESSURE when its notices press REPORT (R80). -/
theorem record_gains (s : State) (k : EventKind) (u : Option UnitNo) (v : Option Int) (d : Option Nat) :
    LogGains s (record s k u v d) [recordNow s k u v d] ∨
      LogGains s (record s k u v d) [recordNow s k u v d, pressureRecord s] := by
  have pumped : (record s k u v d).events = (pressureRise s (recordEntry s k u v d)).events :=
    (pump_work (pressureRise s (recordEntry s k u v d))).outside.events
  have entry := recordEntry_gains s k u v d
  have same : recordNow (recordEntry s k u v d) = recordNow s := by
    have work := recordEntry_work s k u v d
    funext
    simp [recordNow, work.outside.now, work.outside.tracker]
  unfold pressureRise at pumped
  split at pumped
  · right
    have risen : LogGains (recordEntry s k u v d) (record s k u v d) [pressureRecord s] := by
      have gains := recordEntry_gains ((recordEntry s k u v d).latch .queuePressure) .conditionLatched none none
        (some Condition.queuePressure.code)
      have raised : recordNow ((recordEntry s k u v d).latch .queuePressure) .conditionLatched none none
          (some Condition.queuePressure.code) = pressureRecord s :=
        congrFun (congrFun (congrFun (congrFun same .conditionLatched) none) none) _
      rw [raised] at gains
      exact ((LogGains.latch _ _).trans gains).trans (.of_events pumped)
    exact entry.trans risen
  · left
    exact (entry.trans (.of_events pumped))

end Sys2Proof.Machine
end

section
/-! The Gen-Set Dispatcher: what entering dispatch states leaves (R122 to R124), and the two timeouts (R131, R137). -/

namespace Sys2Proof.Machine

/-! ## The Commitment List -/

theorem commitAfter_eq (l : List UnitNo) (u : UnitNo) (d : DispatchState) : commitAfter l u d = listAfter l u d := by
  cases d <;> simp [commitAfter, listAfter, DispatchState.committed]

/-- The list after two states is that after the second, unless the first took the gen-set off and the second put it back. -/
theorem listAfter_listAfter {u : UnitNo} {d d' : DispatchState} (stays : d.committed = true ∨ d'.committed = false)
    (l : List UnitNo) : listAfter (listAfter l u d) u d' = listAfter l u d' := by
  simp only [← commitAfter_eq]
  cases off : d'.committed with
  | false =>
    cases on : d.committed
    · simp [commitAfter, off, on]
    · simp only [commitAfter, off, on, if_true, Bool.false_eq_true, if_false]
      split <;> simp
  | true =>
    have on : d.committed = true := by simpa [off] using stays
    simp only [commitAfter, off, on, if_true]
    split <;> simp_all

theorem changesHanded_append (u : UnitNo) (a d : DispatchState) (p q : List DispatchState) (last : (a :: p).getLast? = some d) :
    changesHanded u a (p ++ q) = changesHanded u a p ++ changesHanded u d q := by
  induction p generalizing a with
  | nil =>
    obtain rfl : a = d := by simpa using last
    rfl
  | cons b bs ih =>
    rw [List.cons_append, changesHanded, changesHanded, ih b (by simpa using last), List.append_assoc]

/-! ## Dispatch states entered -/

theorem recordNow_congr {s w : State} (now : w.now = s.now) (tracker : w.tracker = s.tracker) : recordNow w = recordNow s := by
  funext
  simp [recordNow, now, tracker]

theorem GensetBecomes.planRunning {s w : State} {u : UnitNo} {j : GensetJob} {p : List DispatchState}
    (h : GensetBecomes s w u j p) : w.planRunning = s.planRunning := by
  obtain ⟨-, -, -, -, seqr, -⟩ := h.frame
  simp [State.planRunning, State.progress, seqr]

theorem GensetBecomes.recordNow {s w : State} {u : UnitNo} {j : GensetJob} {p : List DispatchState}
    (h : GensetBecomes s w u j p) : recordNow w = recordNow s := by
  obtain ⟨-, tracker, -, -, -, -, -, now, -⟩ := h.frame
  exact recordNow_congr now tracker

/-- One path entered after another. -/
theorem GensetBecomes.trans {s w t : State} {u : UnitNo} {j k : GensetJob} {p q : List DispatchState}
    (a : GensetBecomes s w u j p) (b : GensetBecomes w t u k q) (last : p.getLast? = some j.dispatch)
    (stays : j.dispatch.committed = true ∨ k.dispatch.committed = false) : GensetBecomes s t u k (p ++ q) where
  unit := by rw [b.unit, a.unit]
  others v other := (b.others v other).trans (a.others v other)
  commit := by rw [b.commit, a.commit, listAfter_listAfter stays]
  frame := by
    obtain ⟨a1, a2, a3, a4, a5, a6, a7, a8, a9, a10⟩ := a.frame
    obtain ⟨b1, b2, b3, b4, b5, b6, b7, b8, b9, b10⟩ := b.frame
    exact ⟨b1.trans a1, b2.trans a2, b3.trans a3, b4.trans a4, b5.trans a5, b6.trans a6, b7.trans a7, b8.trans a8,
      b9.trans a9, fun i => (b10 i).trans (a10 i)⟩
  handed := by
    rw [b.handed, a.handed, a.planRunning, a.unit, List.append_assoc]
    have whole : ((s.unit u).gensetJob.dispatch :: p).getLast? = some j.dispatch := by
      cases p with
      | nil => simp at last
      | cons _ _ => simpa using last
    rw [changesHanded_append u _ _ p q whole]
    split <;> simp

theorem GensetBecomes.work {s w t : State} {u : UnitNo} {j : GensetJob} {p : List DispatchState}
    (a : GensetBecomes s w u j p) (b : RecordWork w t) : GensetBecomes s t u j p where
  unit := (b.unit u).trans a.unit
  others v other := (b.unit v).trans (a.others v other)
  commit := b.outside.dispatcher.trans a.commit
  frame := by
    obtain ⟨a1, a2, a3, a4, a5, a6, a7, a8, a9, a10⟩ := a.frame
    exact ⟨b.outside.shed.trans a1, b.outside.tracker.trans a2, b.outside.balance.trans a3, b.outside.alloc.trans a4,
      b.outside.seqr.trans a5, b.outside.service.trans a6, b.outside.lastSource.trans a7, b.outside.now.trans a8,
      b.counters.trans a9, fun i => (b.slots i).trans (a10 i)⟩
  handed := b.outside.agenda.trans a.handed

theorem enterDispatch_events (s : State) (u : UnitNo) (d : DispatchState) : (enterDispatch s u d).events = s.events := by
  unfold enterDispatch
  simp only
  split <;> rfl

/-- A gen-set's items rewritten, but for its state, and then a state entered. -/
theorem enterDispatch_becomes {s : State} {u : UnitNo} {j : GensetJob} (same : j.dispatch = (s.unit u).gensetJob.dispatch)
    (d : DispatchState) : GensetBecomes s (enterDispatch (s.setGenset u j) u d) u { j with dispatch := d } [d] where
  unit := by rw [enterDispatch_unit_self, unit_setGenset_self]
  others v other := by
    unfold enterDispatch
    simp only
    have aside : ((s.setGenset u j).setGenset u { ((s.setGenset u j).unit u).gensetJob with dispatch := d }).unit v = s.unit v := by
      rw [unit_setGenset, if_neg other, unit_setGenset, if_neg other]
    split
    · exact aside
    · exact aside
  commit := by
    unfold enterDispatch
    simp only
    split
    · simp [State.setDispatcher, commitAfter_eq]
    · simp [State.setDispatcher, commitAfter_eq]
  frame := by
    unfold enterDispatch
    simp only
    split
    · exact ⟨rfl, rfl, rfl, rfl, rfl, rfl, rfl, rfl, rfl, fun _ => rfl⟩
    · exact ⟨rfl, rfl, rfl, rfl, rfl, rfl, rfl, rfl, rfl, fun _ => rfl⟩
  handed := by
    unfold enterDispatch
    simp only [unit_setGenset_self, same]
    have running : (s.setGenset u j).planRunning = s.planRunning := rfl
    rw [running]
    cases s.planRunning with
    | false => simp [State.setDispatcher]
    | true =>
      by_cases stands : (s.unit u).gensetJob.dispatch = d
      · simp [State.setDispatcher, changesHanded, stands]
      · simp [State.setDispatcher, State.defer, changesHanded, stands]

theorem enterDispatch_becomes_own (s : State) (u : UnitNo) (d : DispatchState) :
    GensetBecomes s (enterDispatch s u d) u { (s.unit u).gensetJob with dispatch := d } [d] := by
  have := enterDispatch_becomes (s := s) (u := u) rfl d
  rwa [setGenset_same] at this

/-! ## Availability -/

theorem unavailable_iff (r : UnitRec) :
    unavailable r = true ↔ r.live.heard = false ∨ r.live.localFlag = true ∨ r.live.values.engine = .faulted := by
  simp [unavailable, or_assoc]

theorem stoppedAs_eq (r : UnitRec) : (if unavailable r then .unavailable else .stopped) = stoppedAs r := by
  simp only [stoppedAs, unavailable_iff]

theorem stoppedAs_uncommitted (r : UnitRec) : (stoppedAs r).committed = false := by
  unfold stoppedAs
  split <;> rfl

/-- The judgement of a gen-set in STOPPED or UNAVAILABLE (R124). -/
theorem judgeAvailability_of_judged {s : State} {u : UnitNo} (kind : (s.unit u).kind = .genset)
    (judged : (s.unit u).gensetJob.dispatch = .stopped ∨ (s.unit u).gensetJob.dispatch = .unavailable) :
    judgeAvailability s u = enterDispatch s u (stoppedAs (s.unit u)) := by
  unfold judgeAvailability
  simp only
  rw [if_pos (by simp [kind, judged]), stoppedAs_eq]

theorem judgeAvailability_of_unjudged {s : State} {u : UnitNo}
    (unjudged : (s.unit u).kind ≠ .genset ∨
      (s.unit u).gensetJob.dispatch ≠ .stopped ∧ (s.unit u).gensetJob.dispatch ≠ .unavailable) : judgeAvailability s u = s := by
  unfold judgeAvailability
  simp only
  rw [if_neg]
  simp only [Bool.and_eq_true, Bool.or_eq_true, beq_iff_eq]
  rintro ⟨genset, stopped | away⟩
  · exact unjudged.elim (· genset) (·.1 stopped)
  · exact unjudged.elim (· genset) (·.2 away)

theorem judgeAvailability_events (s : State) (u : UnitNo) : (judgeAvailability s u).events = s.events := by
  unfold judgeAvailability
  simp only
  split
  · exact enterDispatch_events s u _
  · rfl

/-- A gen-set that has entered STOPPED is judged, after whatever the entry records. -/
theorem GensetBecomes.judged {s w t : State} {u : UnitNo} {j : GensetJob} {p : List DispatchState}
    (entered : GensetBecomes s w u j p) (work : RecordWork w t) (kind : (s.unit u).kind = .genset)
    (stopped : j.dispatch = .stopped) (last : p.getLast? = some .stopped) :
    GensetBecomes s (judgeAvailability t u) u { j with dispatch := stoppedAs (s.unit u) } (p ++ [stoppedAs (s.unit u)]) := by
  have there := entered.work work
  have as : stoppedAs (t.unit u) = stoppedAs (s.unit u) := by rw [there.unit]; rfl
  rw [judgeAvailability_of_judged (by rw [there.unit]; exact kind) (.inl (by rw [there.unit]; exact stopped)), as]
  have judged := enterDispatch_becomes_own t u (stoppedAs (s.unit u))
  rw [there.unit] at judged
  exact there.trans judged (by rw [stopped]; exact last) (.inr (stoppedAs_uncommitted _))

/-! ## Attempts that fail and stops that end -/

theorem bump_eq (top n : Nat) : bump top n = min top (n + 1) := rfl

/-- A lockout record follows another, with one place left for QUEUE_PRESSURE between them (R80). -/
theorem lockoutRecorded_of_gains {s w t : State} {u : UnitNo} {n detail : Nat} {r : EventRec} {more later : List EventRec}
    (before : LogGains s w (r :: more)) (short : more.length ≤ 1)
    (after : LogGains w t (recordNow s .gensetLockedOut (some u) (some (n : Int)) (some detail) :: later)) :
    LockoutRecorded s t u n detail := by
  intro room free
  have gains := before.trans after
  obtain ⟨k, place⟩ : ∃ k : Fin 32, k.val = more.length + 1 := ⟨⟨more.length + 1, by omega⟩, rfl⟩
  refine ⟨k, by omega, by omega, ?_⟩
  have stands := gains.get room.1 free k (by omega) (by simp; omega)
  rw [stands]
  simp [place]

/-- The common end of a failed attempt and of a trip (R130, R134): a gen-set with new items is locked out or STOPPED, the event is
recorded, a lockout is recorded after it, and availability is judged. -/
def lockedOrStopped (s : State) (u : UnitNo) (j : GensetJob) (locked : Bool) (k : EventKind) (v : Option Int) (d : Option Nat)
    (n code : Nat) : State :=
  let t := record (enterDispatch (s.setGenset u j) u (if locked then .lockedOut else .stopped)) k (some u) v d
  judgeAvailability (if locked then record t .gensetLockedOut (some u) (some (n : Int)) (some code) else t) u

theorem failedAttempt_eq {s : State} {u : UnitNo} {j : GensetJob} {cause n : Nat} {locked : Bool}
    (count : n = min 3 (j.attempts + 1)) (lock : locked = true ↔ (s.unit u).genset.maxAttempts ≤ n) :
    failedAttempt (s.setGenset u j) u cause = lockedOrStopped s u { j with
      attempts := n
      retryAfter := some (after s.now (s.unit u).genset.retryDelay)
      openOrder := none
      deadline := none } locked .gensetStartFailed (some (n : Int)) (some cause) n 1 := by
  obtain rfl : locked = decide ((s.unit u).genset.maxAttempts ≤ n) := by rw [Bool.eq_iff_iff, lock, decide_eq_true_iff]
  simp only [failedAttempt, unit_setGenset_self, setGenset_setGenset, bump_eq, ← count]
  rfl

theorem lockedOrStopped_leaves {s : State} {u : UnitNo} {j : GensetJob} (kind : (s.unit u).kind = .genset)
    (same : j.dispatch = (s.unit u).gensetJob.dispatch) (locked : Bool) (k : EventKind) (v : Option Int) (d : Option Nat)
    (n code : Nat) :
    GensetBecomes s (lockedOrStopped s u j locked k v d n code) u
      { j with dispatch := if locked then .lockedOut else stoppedAs (s.unit u) }
      (if locked then [.lockedOut] else [.stopped, stoppedAs (s.unit u)]) ∧
    RecordsFirst s (lockedOrStopped s u j locked k v d n code) k (some u) v d ∧
    (locked = true → LockoutRecorded s (lockedOrStopped s u j locked k v d n code) u n code) := by
  unfold lockedOrStopped
  simp only
  have entered := enterDispatch_becomes same (if locked then .lockedOut else .stopped)
  have events := enterDispatch_events (s.setGenset u j) u (if locked then .lockedOut else .stopped)
  have now := entered.recordNow
  generalize enterDispatch (s.setGenset u j) u (if locked then .lockedOut else .stopped) = w at entered events now ⊢
  have room (open_ : logOpen s) : logOpen w := by simpa [logOpen, events] using open_
  have work := record_work w k (some u) v d
  have first (open_ : logOpen s) :
      (record w k (some u) v d).events.log.get s.events.writeIndex = some (recordNow s k (some u) v d) := by
    have logged := record_log (room open_) k (some u) v d
    rw [now] at logged
    simpa [events] using logged
  cases locked with
  | false =>
    refine ⟨entered.judged work kind rfl rfl, fun open_ => ?_, fun off => by cases off⟩
    simp only [Bool.false_eq_true, if_false, judgeAvailability_events]
    exact first open_
  | true =>
    have again := record_work (record w k (some u) v d) .gensetLockedOut (some u) (some (n : Int)) (some code)
    have there := (entered.work work).work again
    have stands : judgeAvailability (record (record w k (some u) v d) .gensetLockedOut (some u) (some (n : Int)) (some code)) u =
        record (record w k (some u) v d) .gensetLockedOut (some u) (some (n : Int)) (some code) := by
      refine judgeAvailability_of_unjudged (.inr ?_)
      rw [there.unit]
      exact ⟨by simp, by simp⟩
    simp only [if_true, stands]
    refine ⟨there, fun open_ => again.log _ _ (first open_), fun _ => ?_⟩
    have made : LogGains s w [] := .of_events events
    have now' : recordNow (record w k (some u) v d) = recordNow s :=
      (recordNow_congr work.outside.now work.outside.tracker).trans now
    have later := record_gains (record w k (some u) v d) .gensetLockedOut (some u) (some (n : Int)) (some code)
    rw [now'] at later
    rcases record_gains w k (some u) v d with one | two
    · rcases later with alone | pressed
      · exact lockoutRecorded_of_gains (made.trans one) (by simp) alone
      · exact lockoutRecorded_of_gains (made.trans one) (by simp) pressed
    · rcases later with alone | pressed
      · exact lockoutRecorded_of_gains (made.trans two) (by simp) alone
      · exact lockoutRecorded_of_gains (made.trans two) (by simp) pressed

/-- A failed attempt, from given items (R130). -/
theorem failedAttempt_fails {s : State} {u : UnitNo} {j : GensetJob} (kind : (s.unit u).kind = .genset)
    (same : j.dispatch = (s.unit u).gensetJob.dispatch) (cause : Nat) :
    GensetFails s (failedAttempt (s.setGenset u j) u cause) u j cause := by
  intro n locked count lock
  rw [failedAttempt_eq count lock]
  exact lockedOrStopped_leaves (j := { j with
    attempts := n, retryAfter := some (after s.now (s.unit u).genset.retryDelay), openOrder := none, deadline := none })
    kind same locked .gensetStartFailed (some (n : Int)) (some cause) n 1

theorem failedAttempt_fails_own {s : State} {u : UnitNo} (kind : (s.unit u).kind = .genset) (cause : Nat) :
    GensetFails s (failedAttempt s u cause) u (s.unit u).gensetJob cause := by
  have := failedAttempt_fails kind (j := (s.unit u).gensetJob) rfl cause
  rwa [setGenset_same] at this

/-- An event recorded after states were entered is the first. -/
theorem RecordsFirst.of_record {s w : State} {k : EventKind} {u : Option UnitNo} {v : Option Int} {d : Option Nat}
    (events : w.events = s.events) (now : recordNow w = recordNow s) : RecordsFirst s (record w k u v d) k u v d := by
  intro room
  have logged := record_log (s := w) (by simpa [logOpen, events] using room) k u v d
  rw [now] at logged
  simpa [events] using logged

/-- The end of a stop with the gen-set STOPPED and judged, from given items (R137). -/
theorem stopEnds_stops {s : State} {u : UnitNo} {j : GensetJob} (kind : (s.unit u).kind = .genset)
    (same : j.dispatch = (s.unit u).gensetJob.dispatch) {detail : Nat} (other : detail ≠ 3) :
    GensetBecomes s (stopEnds (s.setGenset u j) u detail) u
      { j with dispatch := stoppedAs (s.unit u), deadline := none, onlineSince := none, settling := none }
      [.stopped, stoppedAs (s.unit u)] ∧
    RecordsFirst s (stopEnds (s.setGenset u j) u detail) .gensetStopped (some u) (some (s.unit u).live.values.output)
      (some detail) := by
  simp only [stopEnds, if_neg other, unit_setGenset_self, setGenset_setGenset]
  have entered := enterDispatch_becomes (s := s) (u := u) (j := { j with deadline := none, onlineSince := none, settling := none })
    same .stopped
  refine ⟨entered.judged (record_work _ _ _ _ _) kind rfl rfl, fun room => ?_⟩
  rw [judgeAvailability_events]
  exact RecordsFirst.of_record (enterDispatch_events _ u _) entered.recordNow room

/-- A stop that ends with the gen-set ONLINE again (R137). -/
theorem stopEnds_back (s : State) (u : UnitNo) :
    GensetBecomes s (stopEnds s u 3) u { (s.unit u).gensetJob with deadline := none, dispatch := .online } [.online] ∧
    RecordsFirst s (stopEnds s u 3) .gensetStopped (some u) (some (s.unit u).live.values.output) (some 3) := by
  simp only [stopEnds, if_true]
  have entered := enterDispatch_becomes (s := s) (u := u) (j := { (s.unit u).gensetJob with deadline := none }) rfl .online
  exact ⟨entered.work (record_work _ _ _ _ _), RecordsFirst.of_record (enterDispatch_events _ u _) entered.recordNow⟩

/-! ## The timeouts -/

theorem mem_listAfter_of_other {l : List UnitNo} {u w : UnitNo} (other : w ≠ u) (d : DispatchState) :
    w ∈ listAfter l u d ↔ w ∈ l := by
  unfold listAfter
  split
  · simp [other]
  · split
    · rfl
    · simp [other]

theorem not_mem_listAfter {l : List UnitNo} {u : UnitNo} {d : DispatchState} (off : d.committed = false) :
    u ∉ listAfter l u d := by
  simp [← commitAfter_eq, commitAfter, off]

theorem listAfter_of_mem {l : List UnitNo} {u : UnitNo} {d : DispatchState} (on : d.committed = true) (listed : u ∈ l) :
    listAfter l u d = l := by
  simp [← commitAfter_eq, commitAfter, on, listed]

theorem GensetBecomes.quiet {s t : State} {u : UnitNo} {j : GensetJob} {p : List DispatchState} (h : GensetBecomes s t u j p)
    (ready : Ready s) (still : s.planRunning = false) : t.agenda = [] := by
  rw [h.handed, ready.2, still]
  rfl

/-- Settles O43. -/
theorem startTimeoutFailsTheAttempt : Obligations.StartTimeoutFailsTheAttempt := by
  intro s u d ready kind starting deadline due
  have runs : exec (.startTimeout u) s = .next (settle (failedAttempt s u 3)) := by
    refine (act_running ready.1 _).trans ?_
    simp [dispatchIs_iff.mpr ⟨kind, starting⟩, deadline, dueAt, due]
  have fails := failedAttempt_fails_own kind 3 _ (decide ((s.unit u).genset.maxAttempts ≤
    min 3 ((s.unit u).gensetJob.attempts + 1))) rfl decide_eq_true_iff
  obtain ⟨becomes, first, -⟩ := fails
  obtain ⟨shed, tracker, -, -, -, service, -⟩ := becomes.frame
  refine ⟨_, _, runs, rfl, ?_, becomes.others, ?_, fun w other => ?_, shed, tracker, service, becomes.quiet ready, first⟩
  · rw [becomes.unit]
    simp only [decide_eq_true_eq]
    rfl
  · rw [becomes.commit]
    refine not_mem_listAfter ?_
    simp only [decide_eq_true_eq]
    split
    · rfl
    · exact stoppedAs_uncommitted _
  · rw [becomes.commit]
    exact mem_listAfter_of_other other _

/-- Settles O44, by the live breaker. -/
theorem stopTimeoutEndsTheStop : Obligations.StopTimeoutEndsTheStop := by
  intro s u d ready kind stopping deadline due listed
  have runs : exec (.stopTimeout u) s =
      .next (settle (stopEnds s u (if (s.unit u).live.values.breaker == .opn then 2 else 3))) := by
    refine (act_running ready.1 _).trans ?_
    simp [dispatchIs_iff.mpr ⟨kind, stopping⟩, deadline, dueAt, due]
  cases breaker : (s.unit u).live.values.breaker with
  | opn =>
    rw [breaker, if_pos (by decide)] at runs
    obtain ⟨becomes, first⟩ := stopEnds_stops (j := (s.unit u).gensetJob) kind rfl (detail := 2) (by decide)
    rw [setGenset_same] at becomes first
    obtain ⟨shed, tracker, -, -, -, service, -⟩ := becomes.frame
    refine ⟨_, runs, becomes.others, shed, tracker, service, becomes.quiet ready, fun _ => ⟨becomes.unit, ?_, first⟩,
      nofun⟩
    rw [becomes.commit]
    exact not_mem_listAfter (stoppedAs_uncommitted _)
  | closed =>
    rw [breaker, if_neg (by decide)] at runs
    obtain ⟨becomes, first⟩ := stopEnds_back s u
    obtain ⟨shed, tracker, -, -, -, service, -⟩ := becomes.frame
    refine ⟨_, runs, becomes.others, shed, tracker, service, becomes.quiet ready, nofun,
      fun _ => ⟨becomes.unit, ?_, first⟩⟩
    rw [becomes.commit, listAfter_of_mem rfl listed]

end Sys2Proof.Machine
end

section
/-! The Shed Controller: what a feeder's entry into a shed state leaves (R142 to R145, R155), by its reading, the end of its order
and its restore timeout. -/

namespace Sys2Proof.Machine

/-! ## A feeder enters a shed state -/

/-- A feeder has new items by way of a shed state, and nothing else moves but the bus and the records. -/
structure FeederEnters (s t : State) (u : UnitNo) (j : FeederJob) : Prop where
  becomes : FeederBecomes s t u j
  alone   : FeederAlone s t u
  now     : t.now = s.now
  kept    : t.shed.stages = s.shed.stages ∧ t.shed.timers = s.shed.timers ∧ t.shed.rocof = s.shed.rocof ∧
    t.shed.lastRestore = s.shed.lastRestore

theorem FeederEnters.recordNow {s t : State} {u : UnitNo} {j : FeederJob} (h : FeederEnters s t u j) :
    recordNow t = recordNow s := by
  obtain ⟨-, -, tracker, -⟩ := h.alone
  exact recordNow_congr h.now tracker

theorem FeederEnters.work {s w t : State} {u : UnitNo} {j : FeederJob} (h : FeederEnters s w u j) (work : RecordWork w t) :
    FeederEnters s t u j where
  becomes :=
    { unit := (work.unit u).trans h.becomes.unit
      stack := by rw [work.outside.shed, h.becomes.stack]
      pending := by rw [work.outside.shed, h.becomes.pending] }
  alone := by
    obtain ⟨others, dispatcher, tracker, balance, alloc, seqr, service, agenda, slots⟩ := h.alone
    exact ⟨fun v other => (work.unit v).trans (others v other), work.outside.dispatcher.trans dispatcher,
      work.outside.tracker.trans tracker, work.outside.balance.trans balance, work.outside.alloc.trans alloc,
      work.outside.seqr.trans seqr, work.outside.service.trans service, work.outside.agenda.trans agenda,
      fun i => (work.slots i).trans (slots i)⟩
  now := work.outside.now.trans h.now
  kept := by rw [work.outside.shed]; exact h.kept

theorem setShed_events (s : State) (u : UnitNo) (x : ShedState) : (setShed s u x).events = s.events := by
  obtain ⟨p, entered⟩ := setShed_eq s u x
  rw [entered]
  rfl

/-- A feeder's items rewritten, and then a shed state entered. -/
theorem setShed_enters (s : State) (u : UnitNo) (j : FeederJob) (x : ShedState) :
    FeederEnters s (setShed (s.setFeeder u j) u x) u (enteredShed j x) where
  becomes :=
    { unit := by rw [unit_setShed, if_pos rfl, unit_setFeeder_self]
      stack := setShed_stack _ u x
      pending := setShed_pending _ u x }
  alone := by
    have others (v : UnitNo) (other : v ≠ u) : (setShed (s.setFeeder u j) u x).unit v = s.unit v := by
      rw [unit_setShed, if_neg other, unit_setFeeder, if_neg other]
    obtain ⟨p, entered⟩ := setShed_eq (s.setFeeder u j) u x
    refine ⟨others, ?_⟩
    rw [entered]
    exact ⟨rfl, rfl, rfl, rfl, rfl, rfl, rfl, fun _ => rfl⟩
  now := by
    obtain ⟨p, entered⟩ := setShed_eq (s.setFeeder u j) u x
    rw [entered]
    rfl
  kept := by
    obtain ⟨p, entered⟩ := setShed_eq (s.setFeeder u j) u x
    rw [entered]
    exact ⟨rfl, rfl, rfl, rfl⟩

theorem setShed_enters_own (s : State) (u : UnitNo) (x : ShedState) :
    FeederEnters s (setShed s u x) u (enteredShed (s.unit u).feederJob x) := by
  have := setShed_enters s u (s.unit u).feederJob x
  rwa [setFeeder_same] at this

theorem loadAtShed_eq (s : State) (u : UnitNo) :
    loadAtShed s u = ((s.shed.stack.find? fun e => e.feeder == u).map StackEntry.load).getD (s.unit u).live.values.load := by
  unfold loadAtShed
  cases s.shed.stack.find? fun e => e.feeder == u <;> rfl

theorem setFeeder_setFeeder (s : State) (u : UnitNo) (j j' : FeederJob) :
    (s.setFeeder u j).setFeeder u j' = s.setFeeder u j' := by
  simp [State.setFeeder, setUnit_setUnit]

@[simp] theorem loadAtShed_setFeeder (s : State) (u : UnitNo) (j : FeederJob) : loadAtShed (s.setFeeder u j) u = loadAtShed s u := by
  rw [loadAtShed_eq, loadAtShed_eq, unit_setFeeder_self]
  rfl

theorem clearFeederWork_setFeeder (s : State) (u : UnitNo) (j : FeederJob) : clearFeederWork (s.setFeeder u j) u =
    s.setFeeder u { j with openOrder := none, deadline := none, settling := none } := by
  simp only [clearFeederWork, unit_setFeeder_self, setFeeder_setFeeder]

/-! ## Restorations that succeed, return and fail (R155) -/

/-- A feeder returns to CLOSED from given items, and FEEDER_RESTORED is recorded. -/
theorem restored_of_record (s : State) (u : UnitNo) (j : FeederJob) (detail : Nat) :
    FeederEnters s (record (setShed (s.setFeeder u j) u .closed) .feederRestored (some u) (some (loadAtShed s u : Int))
      (some detail)) u { j with shed := .closed, restoreFail := 0 } ∧
    FeederRestored s (record (setShed (s.setFeeder u j) u .closed) .feederRestored (some u) (some (loadAtShed s u : Int))
      (some detail)) u j detail := by
  have entered : FeederEnters s (setShed (s.setFeeder u j) u .closed) u { j with shed := .closed, restoreFail := 0 } :=
    setShed_enters s u j .closed
  have there := entered.work (record_work _ .feederRestored (some u) (some (loadAtShed s u : Int)) (some detail))
  have first := RecordsFirst.of_record (s := s) (k := .feederRestored) (u := some u) (v := some (loadAtShed s u : Int))
    (d := some detail) (setShed_events (s.setFeeder u j) u .closed) entered.recordNow
  refine ⟨there, there.becomes, fun room => ?_⟩
  rw [first room, loadAtShed_eq]

theorem restoreSucceeds_restored (s : State) (u : UnitNo) (j : FeederJob) :
    FeederEnters s (restoreSucceeds (s.setFeeder u j) u) u
      { j with shed := .closed, restoreFail := 0, openOrder := none, deadline := none, settling := none } ∧
    FeederRestored s (restoreSucceeds (s.setFeeder u j) u) u { j with openOrder := none, deadline := none, settling := none } 1 := by
  unfold restoreSucceeds
  rw [clearFeederWork_setFeeder, loadAtShed_setFeeder]
  exact restored_of_record s u { j with openOrder := none, deadline := none, settling := none } 1

/-- A feeder returns from RESTORING with no failure counted. -/
theorem restoreReturns_enters (s : State) (u : UnitNo) (j : FeederJob) :
    FeederEnters s (restoreReturns (s.setFeeder u j) u) u { j with
      shed := if u ∈ s.shed.stack.map StackEntry.feeder then .shed else .openOther
      openOrder := none
      deadline := none
      settling := none } ∧
    (restoreReturns (s.setFeeder u j) u).events = s.events := by
  unfold restoreReturns
  rw [clearFeederWork_setFeeder, show onStack (s.setFeeder u j) u = onStack s u from rfl]
  simp only [onStack_iff]
  refine ⟨?_, setShed_events _ u _⟩
  split
  · exact setShed_enters s u { j with openOrder := none, deadline := none, settling := none } .shed
  · exact setShed_enters s u { j with openOrder := none, deadline := none, settling := none } .openOther

theorem onStack_of_find {s : State} {u : UnitNo} {e : StackEntry} (found : s.shed.stack.find? (fun x => x.feeder == u) = some e) :
    onStack s u = true :=
  List.any_eq_true.mpr ⟨e, List.mem_of_find?_eq_some found, by simpa using List.find?_some found⟩

/-- A restore failure, from given items. -/
theorem restoreFails_fails (s : State) (u : UnitNo) (j : FeederJob) :
    RestoreFails s (restoreFails (s.setFeeder u j) u) u { j with openOrder := none, deadline := none, settling := none } ∧
    FeederAlone s (restoreFails (s.setFeeder u j) u) u := by
  have stands : onStack (s.setFeeder u j) u = onStack s u := rfl
  unfold restoreFails
  simp only [stands, clearFeederWork_setFeeder, unit_setFeeder_self, setFeeder_setFeeder, loadAtShed_setFeeder, bump_eq]
  by_cases on : onStack s u = true
  · have listed := (onStack_iff s u).mp on
    simp only [on, Bool.not_true, Bool.false_eq_true, if_false]
    by_cases once : j.restoreFail = 0
    · have first : ¬ min 2 (j.restoreFail + 1) = 2 := by omega
      rw [if_neg first]
      have entered := setShed_enters s u
        { j with restoreFail := min 2 (j.restoreFail + 1), openOrder := none, deadline := none, settling := none } .shed
      refine ⟨⟨fun off => absurd listed off, fun e found => ⟨fun _ => ⟨?_, setShed_events _ u _⟩, fun again => ?_⟩⟩, entered.alone⟩
      · have becomes := entered.becomes
        simp only [enteredShed, once] at becomes
        rw [once]
        exact becomes
      · exact absurd once (by simpa using Nat.pos_iff_ne_zero.mp again)
    · have second : min 2 (j.restoreFail + 1) = 2 := by omega
      simp only [second, if_true]
      have entered := setShed_enters s u { j with restoreFail := 2, openOrder := none, deadline := none, settling := none } .openOther
      have there := entered.work (record_work _ .shedFailed (some u) (some (loadAtShed s u : Int)) (some 3))
      refine ⟨⟨fun off => absurd listed off, fun e found => ⟨fun never => absurd never once, fun _ => ⟨there.becomes, ?_⟩⟩⟩,
        there.alone⟩
      have load : loadAtShed s u = e.load := by rw [loadAtShed_eq, found]; rfl
      rw [load]
      exact RecordsFirst.of_record (setShed_events _ u _) entered.recordNow
  · have off : u ∉ s.shed.stack.map StackEntry.feeder := fun listed => on ((onStack_iff s u).mpr listed)
    simp only [on, Bool.not_false, if_true]
    obtain ⟨entered, events⟩ := restoreReturns_enters s u j
    rw [if_neg off] at entered
    exact ⟨⟨fun _ => ⟨entered.becomes, events⟩, fun e found => absurd (onStack_of_find found) on⟩, entered.alone⟩

/-- Settles O45, by the feeder's place on the stack and its count. -/
theorem restoreTimeoutIsARestoreFailure : Obligations.RestoreTimeoutIsARestoreFailure := by
  intro s u d ready kind restoring deadline due
  obtain ⟨fails, alone⟩ := restoreFails_fails s u (s.unit u).feederJob
  rw [setFeeder_same] at fails alone
  obtain ⟨unstacked, stacked⟩ := fails
  obtain ⟨others, dispatcher, tracker, -, -, seqr, service, agenda, -⟩ := alone
  have runs : exec (.restoreTimeout u) s = .next (restoreFails s u) := by
    refine (act_quiet ready.1 ?_).trans ?_
    · simp [shedIs_iff.mpr ⟨kind, restoring⟩, deadline, dueAt, due, agenda, ready.2]
    · simp [shedIs_iff.mpr ⟨kind, restoring⟩, deadline, dueAt, due]
  refine ⟨_, runs, others, dispatcher, tracker, service, seqr, fun e found => ?_, fun off => ?_⟩
  · obtain ⟨once, twice⟩ := stacked e found
    refine ⟨fun none => ?_, fun again => ?_⟩
    · obtain ⟨becomes, -⟩ := once none
      exact ⟨becomes.unit, becomes.stack⟩
    · obtain ⟨becomes, first⟩ := twice again
      exact ⟨becomes.unit, becomes.stack, first⟩
  · have absent : u ∉ s.shed.stack.map StackEntry.feeder := fun listed => by
      obtain ⟨e, there, rfl⟩ := List.mem_map.mp listed
      exact off e there rfl
    obtain ⟨becomes, events⟩ := unstacked absent
    refine ⟨by rw [becomes.unit], ?_, events⟩
    rw [becomes.stack]
    exact List.filter_eq_self.mpr fun e there => by simpa using off e there

end Sys2Proof.Machine
end

section
/-! The Shed Controller at a FEEDER reading and at the end of an order, row by row (R143, R145, R155). -/

namespace Sys2Proof.Machine

/-! ## Readings -/

/-- A FEEDER reading with its news judged already. -/
def feederRow (s : State) (u : UnitNo) (news : Bool) : State :=
  match (s.unit u).feederJob.shed with
  | .unknown => setShed s u (stateByBreaker s u)
  | .closed => if news && (s.unit u).live.values.breaker == .opn then setShed s u .openOther else s
  | .opening =>
    if (s.unit u).feederJob.openOrder.isNone && (s.unit u).feederJob.settling == some .opn then settleOpening s u else s
  | .shed =>
    if news && (s.unit u).live.values.breaker == .closed then
      record (setShed s u .closed) .feederRestored (some u) (some (loadAtShed s u : Int)) (some 2)
    else s
  | .restoring => restoringReading s u (news && (s.unit u).live.values.breaker == .closed)
  | .openOther => if news && (s.unit u).live.values.breaker == .closed then setShed s u .closed else s
  | .openPlan => if news && (s.unit u).live.values.breaker == .closed then setShed s u .closed else s

theorem feederReading_eq {s : State} {u : UnitNo} {before : Breaker} {was : Freshness} {news : Bool}
    (judged : news = true ↔ was = .absent ∨ (s.unit u).live.values.breaker ≠ before) :
    feederReading s u before was = feederRow s u news := by
  obtain rfl : news = (was == .absent || (s.unit u).live.values.breaker != before) := by
    rw [Bool.eq_iff_iff, judged]
    simp
  rfl

theorem stateByBreaker_closed {s : State} {u : UnitNo} (closed : (s.unit u).live.values.breaker = .closed) :
    stateByBreaker s u = .closed := by
  simp [stateByBreaker, closed]

theorem stateByBreaker_opn {s : State} {u : UnitNo} (opn : (s.unit u).live.values.breaker = .opn) :
    stateByBreaker s u = .openOther := by
  simp [stateByBreaker, opn]

theorem settleOpening_eq (s : State) (u : UnitNo) : settleOpening s u =
    setShed (s.setFeeder u { (s.unit u).feederJob with settling := none }) u
      (if (s.unit u).live.values.breaker == .opn then .shed else .closed) := by
  simp only [settleOpening, unit_setFeeder_self]

theorem restoreSucceeds_own (s : State) (u : UnitNo) :
    FeederEnters s (restoreSucceeds s u) u
      { (s.unit u).feederJob with shed := .closed, restoreFail := 0, openOrder := none, deadline := none, settling := none } ∧
    FeederRestored s (restoreSucceeds s u) u
      { (s.unit u).feederJob with openOrder := none, deadline := none, settling := none } 1 := by
  have := restoreSucceeds_restored s u (s.unit u).feederJob
  rwa [setFeeder_same] at this

theorem restoreReturns_own (s : State) (u : UnitNo) :
    FeederEnters s (restoreReturns s u) u { (s.unit u).feederJob with
      shed := if u ∈ s.shed.stack.map StackEntry.feeder then .shed else .openOther
      openOrder := none
      deadline := none
      settling := none } ∧
    (restoreReturns s u).events = s.events := by
  have := restoreReturns_enters s u (s.unit u).feederJob
  rwa [setFeeder_same] at this

/-- A reading leaves the feeder as it is, or has it enter a shed state. -/
theorem feederRow_enters (s : State) (u : UnitNo) (news : Bool) :
    feederRow s u news = s ∨ ∃ j : FeederJob, FeederEnters s (feederRow s u news) u j := by
  unfold feederRow
  split
  next => exact .inr ⟨_, setShed_enters_own s u _⟩
  next =>
    split
    · exact .inr ⟨_, setShed_enters_own s u _⟩
    · exact .inl rfl
  next =>
    split
    · rw [settleOpening_eq]
      exact .inr ⟨_, setShed_enters s u _ _⟩
    · exact .inl rfl
  next =>
    split
    · exact .inr ⟨_, (setShed_enters_own s u _).work (record_work _ _ _ _ _)⟩
    · exact .inl rfl
  next =>
    simp only [restoringReading]
    split
    · split
      · exact .inr ⟨_, (restoreSucceeds_own s u).1⟩
      · exact .inr ⟨_, (restoreReturns_own s u).1⟩
    · split
      · exact .inr ⟨_, (restoreSucceeds_own s u).1⟩
      · exact .inl rfl
  next =>
    split
    · exact .inr ⟨_, setShed_enters_own s u _⟩
    · exact .inl rfl
  next =>
    split
    · exact .inr ⟨_, setShed_enters_own s u _⟩
    · exact .inl rfl

/-- The reading of a feeder that is not on the stack returns it to CLOSED with news of a closed breaker (R143). -/
theorem feederRow_outside {s : State} {u : UnitNo} {news : Bool}
    (shed : (s.unit u).feederJob.shed = .openOther ∨ (s.unit u).feederJob.shed = .openPlan) :
    feederRow s u news = if news && (s.unit u).live.values.breaker == .closed then setShed s u .closed else s := by
  unfold feederRow
  rcases shed with other | plan
  · rw [other]
  · rw [plan]

/-- Every row of a FEEDER reading. -/
theorem feederReading_rows (s : State) (u : UnitNo) (before : Breaker) (was : Freshness) :
    FeederMoves s (feederReading s u before was) u before was where
  frame := by
    rw [feederReading_eq (news := was == .absent || (s.unit u).live.values.breaker != before) (by simp)]
    rcases feederRow_enters s u (was == .absent || (s.unit u).live.values.breaker != before) with same | ⟨j, entered⟩
    · rw [same]
      exact ⟨fun _ _ => rfl, rfl, rfl, rfl, rfl, rfl, rfl, rfl, fun _ => rfl, rfl, rfl, rfl, rfl⟩
    · obtain ⟨others, dispatcher, tracker, balance, alloc, seqr, service, agenda, slots⟩ := entered.alone
      exact ⟨others, dispatcher, tracker, balance, alloc, seqr, service, agenda, slots, entered.kept⟩
  rows := by
    rintro r j news rfl rfl judged
    rw [feederReading_eq judged]
    have unheard (h : news = false ∨ (s.unit u).live.values.breaker = .closed) :
        (news && (s.unit u).live.values.breaker == .opn) = false := by
      rcases h with h | h <;> simp [h]
    have unclosed (h : news = false ∨ (s.unit u).live.values.breaker = .opn) :
        (news && (s.unit u).live.values.breaker == .closed) = false := by
      rcases h with h | h <;> simp [h]
    refine ⟨fun shed closed => ?_, fun shed opn => ?_, fun shed fresh opn => ?_, fun shed still => ?_,
      fun shed free settling opn => ?_, fun shed free settling closed => ?_, fun shed busy => ?_,
      fun shed fresh closed => ?_, fun shed still => ?_, fun shed closed settles => ?_, fun shed opn settling => ?_,
      fun shed settling waits => ?_, fun shed fresh closed => ?_, fun shed still => ?_⟩
    · simp only [feederRow, shed, stateByBreaker_closed closed]
      exact ⟨(setShed_enters_own s u .closed).becomes, setShed_events s u _⟩
    · simp only [feederRow, shed, stateByBreaker_opn opn]
      exact ⟨(setShed_enters_own s u .openOther).becomes, setShed_events s u _⟩
    · simp only [feederRow, shed, fresh, opn, beq_self_eq_true, Bool.and_true, if_true]
      exact ⟨(setShed_enters_own s u .openOther).becomes, setShed_events s u _⟩
    · simp only [feederRow, shed, unheard still, Bool.false_eq_true, if_false]
    · have row : feederRow s u news = settleOpening s u := by simp [feederRow, shed, free, settling]
      rw [row, settleOpening_eq, opn]
      exact ⟨(setShed_enters s u { (s.unit u).feederJob with settling := none } .shed).becomes, setShed_events _ u _⟩
    · have row : feederRow s u news = settleOpening s u := by simp [feederRow, shed, free, settling]
      rw [row, settleOpening_eq, closed]
      exact ⟨(setShed_enters s u { (s.unit u).feederJob with settling := none } .closed).becomes, setShed_events _ u _⟩
    · simp only [feederRow, shed]
      rw [if_neg]
      rcases busy with order | unsettled
      · simp [order]
      · simp [unsettled]
    · have row : feederRow s u news =
          record (setShed s u .closed) .feederRestored (some u) (some (loadAtShed s u : Int)) (some 2) := by
        simp [feederRow, shed, fresh, closed]
      have restored := (restored_of_record s u (s.unit u).feederJob 2).2
      rw [setFeeder_same] at restored
      rw [row]
      exact restored
    · simp only [feederRow, shed, unclosed still, Bool.false_eq_true, if_false]
    · have row : feederRow s u news = restoreSucceeds s u := by
        rcases settles with settling | ⟨free, fresh⟩
        · simp [feederRow, shed, restoringReading, settling, closed]
        · simp [feederRow, shed, restoringReading, free, fresh, closed]
      rw [row]
      exact (restoreSucceeds_own s u).2
    · have row : feederRow s u news = restoreReturns s u := by simp [feederRow, shed, restoringReading, settling, opn]
      rw [row]
      exact ⟨(restoreReturns_own s u).1.becomes, (restoreReturns_own s u).2⟩
    · rcases waits with order | unheard | opn
      · simp [feederRow, shed, restoringReading, settling, order]
      · simp [feederRow, shed, restoringReading, settling, unheard]
      · simp [feederRow, shed, restoringReading, settling, opn]
    · simp only [feederRow_outside shed, fresh, closed, beq_self_eq_true, Bool.and_true, if_true]
      exact ⟨(setShed_enters_own s u .closed).becomes, setShed_events s u _⟩
    · simp only [feederRow_outside shed, unclosed still, Bool.false_eq_true, if_false]

/-! ## Ends of orders -/

theorem replaceIfChosen_of_unlisted {s : State} {p : Option Predictive} {u : UnitNo}
    (unlisted : ∀ x : Predictive, p = some x → u ∉ x.chosen) (load : Nat) : replaceIfChosen s p u load = s := by
  cases p with
  | none => rfl
  | some x =>
    unfold replaceIfChosen replaceChosen
    simp [unlisted x rfl]

/-- A shed that fails of a feeder that no predictive record has chosen (R145). -/
theorem shedFailed_of_unlisted {s : State} {u : UnitNo}
    (unlisted : ∀ x : Predictive, s.shed.predictive = some x → u ∉ x.chosen) (detail : Nat) :
    shedFailed s u detail = record (setShed s u (stateByBreaker s u)) .shedFailed (some u) (some (loadAtShed s u : Int))
      (some detail) := by
  unfold shedFailed
  simp only [replaceIfChosen_of_unlisted unlisted, lt_self_iff_false, if_false]

theorem stateByBreaker_setFeeder (s : State) (u : UnitNo) (j : FeederJob) :
    stateByBreaker (s.setFeeder u j) u = if (s.unit u).live.values.breaker = .closed then .closed else .openOther := by
  simp [stateByBreaker]

/-- A feeder takes the state that its stored breaker gives it, from given items. -/
theorem settled_by_breaker (s : State) (u : UnitNo) (j : FeederJob) {b : ShedState}
    (by_breaker : b = if (s.unit u).live.values.breaker = .closed then .closed else .openOther) :
    FeederEnters s (setShed (s.setFeeder u j) u (stateByBreaker (s.setFeeder u j) u)) u
      { j with shed := b, restoreFail := if b = .closed then 0 else j.restoreFail } := by
  rw [stateByBreaker_setFeeder, ← by_breaker]
  exact setShed_enters s u j b

theorem openEnd_failed {s : State} {u : UnitNo} {j : FeederJob} {b : ShedState}
    (by_breaker : b = if (s.unit u).live.values.breaker = .closed then .closed else .openOther)
    (unlisted : ∀ x : Predictive, s.shed.predictive = some x → u ∉ x.chosen) (detail : Nat) :
    FeederBecomes s (shedFailed (s.setFeeder u j) u detail) u
      { j with shed := b, restoreFail := if b = .closed then 0 else j.restoreFail } ∧
    RecordsFirst s (shedFailed (s.setFeeder u j) u detail) .shedFailed (some u)
      (some (((s.shed.stack.find? fun y => y.feeder == u).map StackEntry.load).getD (s.unit u).live.values.load : Int))
      (some detail) ∧ FeederAlone s (shedFailed (s.setFeeder u j) u detail) u := by
  rw [shedFailed_of_unlisted (s := s.setFeeder u j) unlisted, loadAtShed_setFeeder]
  have entered := settled_by_breaker s u j by_breaker
  have there := entered.work (record_work _ .shedFailed (some u) (some (loadAtShed s u : Int)) (some detail))
  refine ⟨there.becomes, ?_, there.alone⟩
  rw [← loadAtShed_eq]
  exact RecordsFirst.of_record (setShed_events _ u _) entered.recordNow

/-- The end of a feeder's own order, by its shed state. -/
def feederOrderEnd (s : State) (u : UnitNo) (e : OrderEnd) : ShedState → State
  | .opening => openEnd s u e
  | .restoring => closeEnd s u e
  | _ => s

/-- The end of an order whose slot the feeder's open order names (R145, R155). -/
theorem shedOrderEnd_own {s : State} {i : SlotNo} {o : Order} {x : OpenOrder} (e : OrderEnd)
    (named : (s.unit o.target).feederJob.openOrder = some x) (slot : x.slot = i) (owner : o.owner ≠ .plan)
    {y : ShedState} (stands : (s.unit o.target).feederJob.shed = y) : shedOrderEnd s i o e =
      feederOrderEnd (s.setFeeder o.target { (s.unit o.target).feederJob with openOrder := none }) o.target e y := by
  subst stands
  unfold shedOrderEnd
  simp only [named, slot, bne_self_eq_false, Bool.false_or, beq_iff_eq, owner, if_false, unit_setFeeder_self]
  cases (s.unit o.target).feederJob.shed <;> rfl

/-- Every row of an order's end at the Shed Controller. -/
theorem shedOrderEnd_rows (s : State) (i : SlotNo) (o : Order) (e : OrderEnd) :
    ShedEnds s (shedOrderEnd s i o e) i o o.target e where
  stray := by
    intro stray
    unfold shedOrderEnd
    simp only
    split
    · rfl
    next x named =>
      rw [if_pos]
      rcases stray with plan | other
      · simp [plan]
      · simp [other x named]
  late := by
    intro x named slot owner opening restoring
    rw [shedOrderEnd_own e named slot owner rfl]
    unfold feederOrderEnd
    split
    next there => exact absurd there opening
    next there => exact absurd there restoring
    next => rfl
  opn := by
    rintro x r j b named slot owner shed rfl rfl by_breaker
    rw [shedOrderEnd_own e named slot owner shed]
    simp only [feederOrderEnd]
    refine ⟨?_, ?_, ?_, ?_⟩
    · rintro rfl
      have entered := setShed_enters s o.target { (s.unit o.target).feederJob with openOrder := none } .shed
      exact ⟨entered.becomes, setShed_events _ _ _, entered.alone⟩
    · rintro detail (⟨⟨why, rfl⟩, rfl⟩ | ⟨rfl, rfl⟩) unlisted
      · exact openEnd_failed by_breaker unlisted 1
      · exact openEnd_failed by_breaker unlisted 2
    · rintro why rfl
      have entered := settled_by_breaker s o.target { (s.unit o.target).feederJob with openOrder := none } by_breaker
      exact ⟨entered.becomes, setShed_events _ _ _, entered.alone⟩
    · rintro rfl
      simp only [openEnd, unit_setFeeder_self, setFeeder_setFeeder]
      rfl
  close := by
    rintro x r j k named slot owner shed rfl rfl rfl
    rw [shedOrderEnd_own e named slot owner shed]
    simp only [feederOrderEnd]
    refine ⟨?_, ?_, ?_, ?_, ?_⟩
    · rintro rfl closed
      have row : closeEnd (s.setFeeder o.target { (s.unit o.target).feederJob with openOrder := none }) o.target .accept =
          restoreSucceeds (s.setFeeder o.target { (s.unit o.target).feederJob with
            openOrder := none, deadline := some (after s.now (s.unit o.target).feeder.restoreTimeout) }) o.target := by
        simp only [closeEnd, unit_setFeeder_self, setFeeder_setFeeder, closed, beq_self_eq_true, if_true]
        rfl
      rw [row]
      obtain ⟨entered, restored⟩ := restoreSucceeds_restored s o.target { (s.unit o.target).feederJob with
        openOrder := none, deadline := some (after s.now (s.unit o.target).feeder.restoreTimeout) }
      exact ⟨restored, entered.alone⟩
    · rintro rfl opn
      simp only [closeEnd, unit_setFeeder_self, setFeeder_setFeeder, opn]
      rfl
    · intro failed
      have fails := restoreFails_fails s o.target { (s.unit o.target).feederJob with openOrder := none }
      rcases failed with rfl | ⟨why, rfl⟩
      · exact fails
      · exact fails
    · rintro why rfl
      obtain ⟨entered, events⟩ := restoreReturns_enters s o.target { (s.unit o.target).feederJob with openOrder := none }
      exact ⟨entered.becomes, events, entered.alone⟩
    · rintro rfl
      simp only [closeEnd, unit_setFeeder_self, setFeeder_setFeeder]
      rfl

end Sys2Proof.Machine
end

section
/-! The Gen-Set Dispatcher at the end of an order, row by row (R129, R136, R137). -/

namespace Sys2Proof.Machine

/-! ## Starts and stops under way -/

theorem enterStarting_waits {s : State} {u : UnitNo} {j : GensetJob} (same : j.dispatch = (s.unit u).gensetJob.dispatch) :
    GensetWaits s (enterStarting (s.setGenset u j) u) u j .starting (s.unit u).genset.startTimeout := by
  simp only [enterStarting, unit_setGenset_self, setGenset_setGenset]
  exact ⟨enterDispatch_becomes (j := { j with deadline := some (after s.now (s.unit u).genset.startTimeout), settling := none })
    same .starting, enterDispatch_events _ u _⟩

theorem enterStopping_waits {s : State} {u : UnitNo} {j : GensetJob} (same : j.dispatch = (s.unit u).gensetJob.dispatch) :
    GensetWaits s (enterStopping (s.setGenset u j) u) u j .stopping (s.unit u).genset.stopTimeout := by
  simp only [enterStopping, unit_setGenset_self, setGenset_setGenset]
  exact ⟨enterDispatch_becomes (j := { j with deadline := some (after s.now (s.unit u).genset.stopTimeout), settling := none })
    same .stopping, enterDispatch_events _ u _⟩

theorem startSucceeds_starts (s : State) (u : UnitNo) :
    GensetStarts s (startSucceeds s u) u (s.unit u).gensetJob [.online] := by
  unfold startSucceeds
  have entered := enterDispatch_becomes (s := s) (u := u) (j := { (s.unit u).gensetJob with
    onlineSince := some s.now, attempts := 0, retryAfter := none, deadline := none }) rfl .online
  exact ⟨entered.work (record_work _ _ _ _ _), RecordsFirst.of_record (enterDispatch_events _ u _) entered.recordNow⟩

/-- A record made first after entries that made none. -/
theorem RecordsFirst.after {s w t : State} {k : EventKind} {u : Option UnitNo} {v : Option Int} {d : Option Nat}
    (later : RecordsFirst w t k u v d) (events : w.events = s.events) (now : recordNow w = recordNow s) :
    RecordsFirst s t k u v d := by
  intro room
  have logged := later (by simpa [logOpen, events] using room)
  rw [now] at logged
  simpa [events] using logged

/-- A gen-set that is STARTING, and succeeds at once (R129). -/
theorem GensetWaits.starts {s w : State} {u : UnitNo} {j : GensetJob} {timeout : Nat}
    (waits : GensetWaits s w u j .starting timeout) :
    GensetStarts s (startSucceeds w u) u { j with settling := none } [.starting, .online] := by
  obtain ⟨entered, events⟩ := waits
  obtain ⟨starts, first⟩ := startSucceeds_starts w u
  rw [entered.unit] at starts first
  have now : w.now = s.now := by
    obtain ⟨-, -, -, -, -, -, -, now, -⟩ := entered.frame
    exact now
  rw [now] at starts
  exact ⟨entered.trans starts rfl (.inl rfl), first.after events entered.recordNow⟩

/-- A gen-set that is STOPPING, and is found stopped at once (R136). -/
theorem GensetWaits.stops {s w : State} {u : UnitNo} {j : GensetJob} {timeout : Nat} (kind : (s.unit u).kind = .genset)
    (waits : GensetWaits s w u j .stopping timeout) :
    GensetStops s (stopEnds w u 1) u j [.stopping, .stopped, stoppedAs (s.unit u)] := by
  obtain ⟨entered, events⟩ := waits
  have stops := stopEnds_stops (s := w) (u := u) (j := (w.unit u).gensetJob) (by rw [entered.unit]; exact kind) rfl
    (detail := 1) (by decide)
  rw [setGenset_same] at stops
  obtain ⟨becomes, first⟩ := stops
  have as : stoppedAs (w.unit u) = stoppedAs (s.unit u) := by rw [entered.unit]; rfl
  rw [as, entered.unit] at becomes
  rw [entered.unit] at first
  exact ⟨entered.trans becomes rfl (.inl rfl), first.after events entered.recordNow⟩

theorem runningClosed_iff (r : UnitRec) : runningClosed r = true ↔ RunsClosed r := by
  simp [runningClosed, RunsClosed]

/-- A gen-set enters STOPPED from given items, and is judged (R124). -/
theorem enterStopped_becomes {s : State} {u : UnitNo} {j : GensetJob} (kind : (s.unit u).kind = .genset)
    (same : j.dispatch = (s.unit u).gensetJob.dispatch) :
    GensetBecomes s (enterStopped (s.setGenset u j) u) u { j with dispatch := stoppedAs (s.unit u) }
      [.stopped, stoppedAs (s.unit u)] ∧ (enterStopped (s.setGenset u j) u).events = s.events :=
  ⟨(enterDispatch_becomes same .stopped).judged (.refl _) kind rfl rfl,
    (judgeAvailability_events _ u).trans (enterDispatch_events _ u _)⟩

/-! ## Ends of orders -/

/-- The end of the gen-set's START order (R129). -/
theorem startOrderEnd_rows {s : State} {u : UnitNo} {j : GensetJob} (kind : (s.unit u).kind = .genset)
    (cleared : j = { (s.unit u).gensetJob with openOrder := none }) (e : OrderEnd) :
    (e = .accept → RunsClosed (s.unit u) → GensetStarts s (startOrderEnd s u e) u { j with settling := none } [.starting, .online]) ∧
    (e = .accept → ¬ RunsClosed (s.unit u) →
      GensetWaits s (startOrderEnd s u e) u j .starting (s.unit u).genset.startTimeout) ∧
    (∀ why : RefuseReason, e = .refuse why → GensetFails s (startOrderEnd s u e) u j 1) ∧
    (e = .timedOut → GensetFails s (startOrderEnd s u e) u j 2) ∧
    (∀ why : UnsentCause, e = .unsent why →
      GensetBecomes s (startOrderEnd s u e) u { j with dispatch := stoppedAs (s.unit u) } [.stopped, stoppedAs (s.unit u)] ∧
      (startOrderEnd s u e).events = s.events) ∧
    (e = .outcomeUnknown →
      startOrderEnd s u e = s.setUnit u { s.unit u with gensetJob := { j with settling := some .start } }) := by
  have same : j.dispatch = (s.unit u).gensetJob.dispatch := by rw [cleared]
  have waits := enterStarting_waits same
  have live : RunsClosed ((enterStarting (s.setGenset u j) u).unit u) ↔ RunsClosed (s.unit u) := by
    rw [waits.1.unit]
    rfl
  unfold startOrderEnd
  rw [← cleared]
  refine ⟨?_, ?_, ?_, ?_, ?_, ?_⟩
  · rintro rfl runs
    simp only [runningClosed_iff, live, runs, if_true]
    exact waits.starts
  · rintro rfl rests
    simp only [runningClosed_iff, live, rests, if_false]
    exact waits
  · rintro why rfl
    exact failedAttempt_fails kind same 1
  · rintro rfl
    exact failedAttempt_fails kind same 2
  · rintro why rfl
    exact enterStopped_becomes kind same
  · rintro rfl
    simp only [unit_setGenset_self, setGenset_setGenset]
    rfl

/-- The end of the gen-set's STOP order in STOP_PENDING (R136). -/
theorem stopOrderEnd_rows {s : State} {u : UnitNo} {j : GensetJob} (kind : (s.unit u).kind = .genset)
    (pending : (s.unit u).gensetJob.dispatch = .stopPending)
    (cleared : j = { (s.unit u).gensetJob with openOrder := none }) (e : OrderEnd) :
    (e = .accept → (s.unit u).live.values.engine = .stopped →
      GensetStops s (stopOrderEnd s u e) u j [.stopping, .stopped, stoppedAs (s.unit u)]) ∧
    (e = .accept → (s.unit u).live.values.engine ≠ .stopped →
      GensetWaits s (stopOrderEnd s u e) u j .stopping (s.unit u).genset.stopTimeout) ∧
    ((e = .timedOut ∨ (∃ why : RefuseReason, e = .refuse why) ∨ ∃ why : UnsentCause, e = .unsent why) →
      GensetBecomes s (stopOrderEnd s u e) u { j with dispatch := .online } [.online] ∧ (stopOrderEnd s u e).events = s.events) ∧
    (e = .outcomeUnknown →
      stopOrderEnd s u e = s.setUnit u { s.unit u with gensetJob := { j with settling := some .stop } }) := by
  have same : j.dispatch = (s.unit u).gensetJob.dispatch := by rw [cleared]
  have waits := enterStopping_waits same
  have live : ((enterStopping (s.setGenset u j) u).unit u).live = (s.unit u).live := by rw [waits.1.unit]
  unfold stopOrderEnd
  rw [← cleared]
  simp only [unit_setGenset_self, same, pending, bne_self_eq_false, Bool.false_eq_true, if_false]
  refine ⟨?_, ?_, ?_, ?_⟩
  · rintro rfl stopped
    simp only [live, stopped, beq_self_eq_true, if_true]
    exact waits.stops kind
  · rintro rfl runs
    simp only [live, beq_iff_eq, runs, if_false]
    exact waits
  · have back : GensetBecomes s (enterDispatch (s.setGenset u j) u .online) u { j with dispatch := .online } [.online] ∧
        (enterDispatch (s.setGenset u j) u .online).events = s.events :=
      ⟨enterDispatch_becomes same .online, enterDispatch_events _ u _⟩
    rintro (rfl | ⟨why, rfl⟩ | ⟨why, rfl⟩)
    · exact back
    · exact back
    · exact back
  · rintro rfl
    simp only [setGenset_setGenset]
    rfl

/-- Every row of an order's end at the Dispatcher. -/
theorem dispatcherEnd_rows (s : State) (i : SlotNo) (o : Order) (e : OrderEnd) :
    DispatcherEnds s (dispatcherEnd s i o e) i o.target e where
  stray := by
    intro stray
    unfold dispatcherEnd
    simp only
    split
    · rfl
    next x named => rw [if_pos (by simpa using stray x named)]
  late := by
    intro x named slot late
    unfold dispatcherEnd
    simp only [named, slot, bne_self_eq_false, Bool.false_eq_true, if_false]
    rcases late with ⟨start, other⟩ | ⟨stop, other⟩
    · simp only [start, beq_self_eq_true, if_true, beq_iff_eq, other, if_false]
      rfl
    · simp only [beq_iff_eq, stop, if_false]
      unfold stopOrderEnd
      simp only [unit_setGenset_self, bne_iff_ne, ne_eq, other, not_false_eq_true, if_true]
      rfl
  start := by
    rintro x r j named slot kind pending rfl genset cleared
    have row : dispatcherEnd s i o e = startOrderEnd s o.target e := by
      simp [dispatcherEnd, named, slot, kind, pending]
    rw [row]
    exact startOrderEnd_rows genset cleared e
  stop := by
    rintro x r j named slot kind pending rfl genset cleared
    have row : dispatcherEnd s i o e = stopOrderEnd s o.target e := by
      simp [dispatcherEnd, named, slot, kind]
    rw [row]
    exact stopOrderEnd_rows genset pending cleared e

end Sys2Proof.Machine
end

section
/-! The Order Transactor: what the freeing of a slot, an order's end and a withdrawal leave (R73, R75), and the failure of a plan
step with the end of its orders (R166, R172). -/

namespace Sys2Proof.Machine

/-! ## A slot freed -/

theorem sameOutsidePorts_freeSlotAt (s : State) (i : SlotNo) : SameOutsidePorts s (freeSlotAt s i) := by
  constructor <;> rfl

/-- What is left of a state in which a slot was freed and other orders moved up (R63, R73). -/
structure SlotFreed (s t : State) (i : SlotNo) : Prop where
  outside  : SameOutsidePorts s t
  slot     : t.slot i = none
  others   : ∀ j : SlotNo, j ≠ i → (t.slot j).map Order.content = (s.slot j).map Order.content
  counters : t.orders.counters = s.orders.counters

theorem slotFreed_of_work {s t : State} {i : SlotNo} (work : PortWork (freeSlotAt s i) t) : SlotFreed s t i where
  outside := (sameOutsidePorts_freeSlotAt s i).trans work.outside
  slot := (work.free i).mpr (by rw [freeSlotAt_slot, if_pos rfl])
  others j other := by rw [work.slots, freeSlotAt_slot, if_neg other]
  counters := work.counters

theorem SlotFreed.unit {s t : State} {i : SlotNo} (h : SlotFreed s t i) (u : UnitNo) : t.unit u = s.unit u :=
  unit_of_units h.outside.units u

/-- The receivers of an end depend on the units and the schedule alone. -/
theorem endReceivers_congr {s t : State} (units : t.units = s.units) (schedule : t.schedule = s.schedule) (o : Order) :
    endReceivers t o = endReceivers s o := by
  simp only [endReceivers, unit_of_units units, schedule]

theorem endTasks_eq (s : State) (i : SlotNo) (o : Order) (e : OrderEnd) :
    endTasks s i o e = (endReceivers s o).map fun j => Task.ended j i o e := rfl

/-- An end's receivers, by the table of R73. -/
theorem endReceivers_takers (s : State) (o : Order) : EndTakers s o (endReceivers s o) where
  curtail owner := by simp [endReceivers, owner]
  dispatch owner := by simp [endReceivers, owner]
  shed owner := by rcases owner with owner | owner <;> simp [endReceivers, owner]
  plan owner := by
    refine ⟨fun kind => ?_, fun kind => ?_, fun kind => ?_⟩
    · simp only [endReceivers, owner, kind]
      split
      · exact .refl _
      · exact .swap _ _ _
    · simp only [endReceivers, owner, kind]
      split
      · exact .refl _
      · exact .swap _ _ _
    · rcases kind with kind | kind <;> simp [endReceivers, owner, kind]

/-- The hand-offs of an order's end (R73). -/
structure EndHanded (s v : State) (i : SlotNo) (o : Order) (e : OrderEnd) : Prop where
  freed  : SlotFreed s { v with agenda := s.agenda } i
  handed : ∃ jobs : List Job, jobs.Perm [.allocator, .dispatcher, .shed, .sequencer] ∧
    v.agenda = s.agenda ++ (endReceivers s o).map (fun j => Task.ended j i o e) ++ jobs.map fun j => Task.released j o.target

theorem endOrder_handed (s : State) (i : SlotNo) (o : Order) (e : OrderEnd) : EndHanded s (endOrder s i o e) i o e := by
  obtain ⟨t, work, ended⟩ := endOrder_spec s i o e
  have freed := slotFreed_of_work work
  rw [ended, endTasks_eq, endReceivers_congr freed.outside.units freed.outside.schedule, freed.outside.agenda]
  refine ⟨?_, jobOrder t.schedule.jobs, jobOrder_perm _, (List.append_assoc _ _ _).symm⟩
  obtain ⟨outside, slot, others, counters⟩ := freed
  exact ⟨{ outside with agenda := rfl }, slot, others, counters⟩

/-! ## Withdrawals -/

theorem isOf_iff {o : Order} {w : Owner} {u : UnitNo} {k : OrderKind} :
    o.isOf w u k = true ↔ o.owner = w ∧ o.target = u ∧ o.kind = k := by
  simp [Order.isOf, and_assoc]

/-- A withdrawal is answered TOO_LATE when there is nothing to withdraw, and else takes the order back (R75). -/
theorem withdraw_cases (s : State) (i : SlotNo) (w : Owner) (u : UnitNo) (k : OrderKind) :
    (withdraw s i w u k = (s, none) ∧ ∀ o : Order, ¬ Withdrawable s i w u k o) ∨
      ∃ (o : Order) (t : State), withdraw s i w u k = (t, some o) ∧ Withdrawable s i w u k o ∧ SlotFreed s t i := by
  rcases withdraw_spec s i w u k with ⟨late, stands⟩ | ⟨o, there, isOf, unsent, taken, work⟩
  · refine .inl ⟨late, fun o able => ?_⟩
    obtain ⟨there, owner, target, kind, unsent⟩ := able
    rw [stands o there (isOf_iff.mpr ⟨owner, target, kind⟩)] at unsent
    cases unsent
  · obtain ⟨owner, target, kind⟩ := isOf_iff.mp isOf
    exact .inr ⟨o, _, Prod.ext rfl taken, ⟨there, owner, target, kind, unsent⟩, slotFreed_of_work work⟩

theorem withdrawPlan_cases (s : State) (x : PlanOrder) :
    (withdrawPlan s x = s ∧ ∀ o : Order, ¬ Withdrawable s x.slot .plan x.target x.kind o) ∨
      ∃ o : Order, Withdrawable s x.slot .plan x.target x.kind o ∧
        EndHanded s (withdrawPlan s x) x.slot o (.unsent .withdrawn) := by
  rcases withdraw_cases s x.slot .plan x.target x.kind with ⟨late, nothing⟩ | ⟨o, t, taken, able, freed⟩
  · refine .inl ⟨?_, nothing⟩
    simp only [withdrawPlan, late]
  · refine .inr ⟨o, able, ?_⟩
    have target : o.target = x.target := by
      obtain ⟨-, -, target, -⟩ := able
      exact target
    have left : withdrawPlan s x =
        t.deferAll (endTasks t x.slot o (.unsent .withdrawn) ++ t.releasesOf x.target) := by
      simp only [withdrawPlan, taken]
    rw [left, endTasks_eq, endReceivers_congr freed.outside.units freed.outside.schedule]
    refine ⟨?_, jobOrder t.schedule.jobs, jobOrder_perm _, ?_⟩
    · obtain ⟨outside, slot, others, counters⟩ := freed
      exact ⟨{ outside with agenda := rfl }, slot, others, counters⟩
    · simp only [State.deferAll, freed.outside.agenda, target, State.releasesOf, List.append_assoc]

/-- Two states agree outside the bus, the records and the hand-offs. -/
def SameAside (s t : State) : Prop := SameOutsideRecord { s with agenda := t.agenda } t

theorem SameAside.refl (s : State) : SameAside s s := by constructor <;> rfl

theorem SameAside.trans {s t u : State} (a : SameAside s t) (b : SameAside t u) : SameAside s u :=
  ⟨b.inReset.trans a.inReset, b.now.trans a.now, b.tracker.trans a.tracker, b.units.trans a.units,
    b.lastSource.trans a.lastSource, b.balance.trans a.balance, b.alloc.trans a.alloc, b.dispatcher.trans a.dispatcher,
    b.shed.trans a.shed, b.seqr.trans a.seqr, b.service.trans a.service, b.schedule.trans a.schedule, rfl,
    b.pending.trans a.pending⟩

theorem SameOutsideRecord.aside {s t : State} (h : SameOutsideRecord s t) : SameAside s t := { h with agenda := rfl }

theorem SameAside.defer (s : State) (t : Task) : SameAside s (s.defer t) := by constructor <;> rfl

theorem EndHanded.outside {s v : State} {i : SlotNo} {o : Order} {e : OrderEnd} (h : EndHanded s v i o e) :
    SameOutsidePorts { s with agenda := v.agenda } v :=
  { h.freed.outside with agenda := rfl }

/-- One order of a step withdrawn (R75, R172). -/
theorem withdrawPlan_withdrawn (s : State) (x : PlanOrder) : PlanOrderWithdrawn s (withdrawPlan s x) x := by
  rcases withdrawPlan_cases s x with ⟨same, nothing⟩ | ⟨o, able, handed⟩
  · exact ⟨fun _ => same, fun o able => absurd able (nothing o)⟩
  · refine ⟨fun nothing => absurd able (nothing o), fun o' able' => ?_⟩
    obtain rfl : o = o' := by
      obtain ⟨there, -⟩ := able
      obtain ⟨there', -⟩ := able'
      exact Option.some.inj (there.symm.trans there')
    have target : o.target = x.target := by
      obtain ⟨-, -, target, -⟩ := able
      exact target
    have outside := handed.outside
    obtain ⟨freed, jobs, perm, agenda⟩ := handed
    refine ⟨outside, freed.slot, freed.others, freed.counters, endReceivers s o, jobs, endReceivers_takers s o, perm, ?_⟩
    rw [agenda, target]

theorem withdrawPlan_outside (s : State) (x : PlanOrder) :
    SameOutsidePorts { s with agenda := (withdrawPlan s x).agenda } (withdrawPlan s x) := by
  rcases withdrawPlan_cases s x with ⟨same, -⟩ | ⟨o, -, handed⟩
  · rw [same]
    constructor <;> rfl
  · exact handed.outside

theorem SameOutsidePorts.aside {s t : State} (h : SameOutsidePorts { s with agenda := t.agenda } t) : SameAside s t :=
  ⟨h.inReset, h.now, h.tracker, h.units, h.lastSource, h.balance, h.alloc, h.dispatcher, h.shed, h.seqr, h.service, h.schedule,
    rfl, h.pending⟩

theorem withdrawAll_aside (l : List PlanOrder) (s : State) :
    SameAside s (l.foldl withdrawPlan s) ∧ (l.foldl withdrawPlan s).events = s.events := by
  induction l generalizing s with
  | nil => exact ⟨.refl s, rfl⟩
  | cons x l ih =>
    have one := withdrawPlan_outside s x
    obtain ⟨aside, events⟩ := ih (withdrawPlan s x)
    exact ⟨one.aside.trans aside, events.trans one.events⟩

/-! ## A step fails -/

theorem stepOpen_iff (p : Progress) : p.stepOpen = true ↔ p.stepState = .issued ∨ p.stepState = .waiting := by
  simp [Progress.stepOpen]

/-- The progress of a step that has failed for a cause (R172). -/
def failedProgress (p : Progress) (cause : Nat) : Progress :=
  { p with stepState := .failed, failCause := some cause, deadline := none, toIssue := [] }

/-- A step's failure: the withdrawals, the record and the hand-off to the plan. -/
theorem stepFail_eq {s : State} (open_ : s.progress.stepState = .issued ∨ s.progress.stepState = .waiting) (cause : Nat)
    (unit : Option UnitNo) : stepFail s cause unit =
      (record (s.progress.orders.foldl withdrawPlan (s.setProgress (failedProgress s.progress cause))) .stepFailed unit
        (some (s.progress.current.val : Int)) (some cause)).defer .planAdvance := by
  unfold stepFail
  simp only [(stepOpen_iff _).mpr open_, Bool.not_true, Bool.false_eq_true, if_false]
  rfl

theorem stepFail_of_closed {s : State} (closed : s.progress.stepState ≠ .issued ∧ s.progress.stepState ≠ .waiting)
    (cause : Nat) (unit : Option UnitNo) : stepFail s cause unit = s := by
  unfold stepFail
  simp only
  rw [if_pos]
  simp [Progress.stepOpen, closed]

/-- What else a failed step leaves. -/
theorem stepFail_aside {s : State} (open_ : s.progress.stepState = .issued ∨ s.progress.stepState = .waiting) (cause : Nat)
    (unit : Option UnitNo) : SameAside (s.setProgress (failedProgress s.progress cause)) (stepFail s cause unit) := by
  rw [stepFail_eq open_]
  exact (withdrawAll_aside _ _).1.trans ((record_work _ _ _ _ _).outside.aside.trans (.defer _ _))

theorem stepFail_progress {s : State} (open_ : s.progress.stepState = .issued ∨ s.progress.stepState = .waiting) (cause : Nat)
    (unit : Option UnitNo) : (stepFail s cause unit).progress = failedProgress s.progress cause :=
  congrArg Sequencer.progress (stepFail_aside open_ cause unit).seqr

/-- A step fails (R172). -/
theorem stepFail_fails {s : State} (open_ : s.progress.stepState = .issued ∨ s.progress.stepState = .waiting) (cause : Nat)
    (unit : Option UnitNo) : StepFails s (stepFail s cause unit) cause unit where
  progress := stepFail_progress open_ cause unit
  orders := by
    refine ⟨fun k => (s.progress.orders.take k).foldl withdrawPlan (s.setProgress (failedProgress s.progress cause)),
      record (s.progress.orders.foldl withdrawPlan (s.setProgress (failedProgress s.progress cause))) .stepFailed unit
        (some (s.progress.current.val : Int)) (some cause), ?_, fun k x there => ?_, ?_, ?_⟩
    · rw [stepFail_progress open_]
      rfl
    · obtain ⟨below, here⟩ := List.getElem?_eq_some_iff.mp there
      have next : s.progress.orders.take (k + 1) = s.progress.orders.take k ++ [x] := by
        rw [List.take_add_one, there]
        rfl
      simp only [next, List.foldl_append, List.foldl_cons, List.foldl_nil]
      exact withdrawPlan_withdrawn _ x
    · simp only [List.take_length]
      exact record_work _ _ _ _ _
    · rw [stepFail_eq open_]
      rfl
  recorded := by
    obtain ⟨aside, events⟩ := withdrawAll_aside s.progress.orders (s.setProgress (failedProgress s.progress cause))
    rw [stepFail_eq open_]
    exact RecordsFirst.of_record events (recordNow_congr aside.now aside.tracker)

/-! ## Ends of plan orders -/

theorem endNoted_eq (p : Progress) (x : PlanOrder) (e : OrderEnd) : endNoted p x e = progressAfterEnd p x e := by
  unfold endNoted progressAfterEnd
  congr 1
  · cases p.cancelPending
    · by_cases pends : e = .unsent .cancelled ∨ e = .outcomeUnknown
      · simp [pends]
      · simp only [not_or] at pends
        simp [pends]
    · simp
  · simp
  · simp

theorem followLists_eq (s : State) : followLists s = s.setProgress (listsFollowed s.progress) := by
  unfold followLists listsFollowed
  simp only [stepOpen_iff]
  split
  · simp
  · rfl

theorem stepEvent_of_idle {s : State} {t : Trigger}
    (idle : s.progress.planState ≠ .running ∨ (s.progress.stepState ≠ .issued ∧ s.progress.stepState ≠ .waiting) ∨
      s.progress.cancelPending = true) : stepEvent s t = s := by
  unfold stepEvent
  rw [if_pos]
  rcases idle with stopped | ⟨issued, waiting⟩ | pending
  · simp [State.planRunning, stopped]
  · simp [Progress.stepOpen, issued, waiting]
  · simp [pending]

theorem progress_defer (s : State) (t : Task) : (s.defer t).progress = s.progress := rfl

/-- Every row of an order's end at the Sequencer. -/
theorem seqEnd_rows (s : State) (i : SlotNo) (o : Order) (e : OrderEnd) : SequencerEnds s (seqEnd s i o e) i o e where
  stray := by
    intro stray
    unfold seqEnd
    simp only
    rw [if_pos]
    rcases stray with stopped | unlisted
    · simp [State.planRunning, stopped]
    · simp [unlisted]
  taken := by
    rintro x p w rfl running listed rfl rfl
    have entered : seqEnd s i o e = (followLists (match endFailure ⟨i, o.target, o.kind⟩ e with
        | some cause =>
          if (progressAfterEnd s.progress ⟨i, o.target, o.kind⟩ e).cancelPending then
            s.setProgress (progressAfterEnd s.progress ⟨i, o.target, o.kind⟩ e)
          else stepFail (s.setProgress (progressAfterEnd s.progress ⟨i, o.target, o.kind⟩ e)) cause (some o.target)
        | none => stepEvent (s.setProgress (progressAfterEnd s.progress ⟨i, o.target, o.kind⟩ e)) .orderEnd)).defer
          .planAdvance := by
      simp only [seqEnd, State.planRunning, running, listed, endNoted_eq, List.contains_eq_mem, decide_true, beq_self_eq_true,
        Bool.not_true, Bool.or_self, Bool.false_eq_true, if_false]
      rfl
    rw [entered]
    generalize kept : progressAfterEnd s.progress ⟨i, o.target, o.kind⟩ e = p
    have at_step : (s.setProgress p).progress = p := rfl
    refine ⟨fun passed => ?_, fun cause going open_ kind failed => ?_, fun going open_ taken => ?_⟩
    · have rests : (match endFailure ⟨i, o.target, o.kind⟩ e with
          | some cause => if p.cancelPending then s.setProgress p else stepFail (s.setProgress p) cause (some o.target)
          | none => stepEvent (s.setProgress p) .orderEnd) = s.setProgress p := by
        have closed : p.cancelPending = false → p.stepState ≠ .issued ∧ p.stepState ≠ .waiting := by
          rintro going
          rcases passed with pending | done | failed
          · rw [pending] at going
            cases going
          · simp [done]
          · simp [failed]
        have idle : stepEvent (s.setProgress p) .orderEnd = s.setProgress p := by
          refine stepEvent_of_idle ?_
          rw [at_step]
          cases pending : p.cancelPending with
          | true => exact .inr (.inr rfl)
          | false => exact .inr (.inl (closed pending))
        split
        · cases pending : p.cancelPending with
          | true => rfl
          | false => exact stepFail_of_closed (s := s.setProgress p) (closed pending) _ _
        · exact idle
      rw [rests, followLists_eq]
      rfl
    · have failure : endFailure ⟨i, o.target, o.kind⟩ e = some cause := by
        rcases failed with ⟨⟨why, rfl⟩, rfl⟩ | ⟨rfl, rfl⟩
        · simp [endFailure, kind]
        · simp [endFailure, kind]
      have open' : (s.setProgress p).progress.stepState = .issued ∨ (s.setProgress p).progress.stepState = .waiting := open_
      have left : (stepFail (s.setProgress p) cause (some o.target)).progress = failedProgress p cause := stepFail_progress open' _ _
      have aside := stepFail_aside open' cause (some o.target)
      have follows : followLists (stepFail (s.setProgress p) cause (some o.target)) =
          stepFail (s.setProgress p) cause (some o.target) := by
        unfold followLists
        simp only [left]
        rw [if_neg (by simp [failedProgress, Progress.stepOpen])]
      have failing : (match endFailure ⟨i, o.target, o.kind⟩ e with
          | some cause => if p.cancelPending then s.setProgress p else stepFail (s.setProgress p) cause (some o.target)
          | none => stepEvent (s.setProgress p) .orderEnd) = stepFail (s.setProgress p) cause (some o.target) := by
        rw [failure]
        exact if_neg (by simp [going])
      rw [failing, follows]
      exact ⟨(progress_defer _ _).trans left, aside.units, aside.shed, aside.dispatcher, _, stepFail_fails open' cause (some o.target), rfl⟩
    · have taken : endFailure ⟨i, o.target, o.kind⟩ e = none := by
        rcases taken with start | rfl | ⟨why, rfl⟩
        · simp [endFailure, start]
        · simp [endFailure]
        · simp [endFailure]
      simp only [taken]
      refine ⟨_, rfl, ?_⟩
      rw [followLists_eq]
      rfl

end Sys2Proof.Machine
end

section
/-! Orders in flight: the reply that ends an order (R72, R73). -/

namespace Sys2Proof.Machine

/-! ## Replies -/

theorem replyMatches_iff (s : State) (r : ReplyMsg) (i : SlotNo) : replyMatches s r i = true ↔
    ∃ o : Order, s.slot i = some o ∧ o.state = .sent ∧ o.target = r.unit ∧ o.number = r.number ∧
      (s.unit r.unit).linkAddr = r.src := by
  unfold replyMatches
  cases there : s.slot i with
  | none => simp
  | some o =>
    simp only [Option.any_some, Bool.and_eq_true, beq_iff_eq, Option.some.injEq, exists_eq_left']
    constructor
    · rintro ⟨⟨⟨sent, target⟩, number⟩, link⟩
      exact ⟨sent, target, number, target ▸ link⟩
    · rintro ⟨sent, target, number, link⟩
      exact ⟨⟨⟨sent, target⟩, number⟩, target ▸ link⟩

theorem matchReply_of_unique {s : State} {r : ReplyMsg} {i : SlotNo} {o : Order} (there : s.slot i = some o)
    (found : replyMatches s r i = true) (unique : ∀ j : SlotNo, replyMatches s r j = true → j = i) :
    matchReply s r = some (i, o) := by
  unfold matchReply
  cases hit : allSlots.find? (replyMatches s r) with
  | none => exact absurd found (List.find?_eq_none.mp hit i (mem_allSlots i))
  | some j =>
    obtain rfl := unique j (List.find?_some hit)
    simp [there]

theorem matchReply_of_none {s : State} {r : ReplyMsg} (nothing : ∀ j : SlotNo, ¬ replyMatches s r j = true) :
    matchReply s r = none := by
  have missed : allSlots.find? (replyMatches s r) = none := List.find?_eq_none.mpr fun j _ => nothing j
  simp [matchReply, missed]

/-! ## An order's end as a command leaves it -/

/-- An order's end, after whatever it records, as the command leaves it before the hand-offs (R73). -/
structure OrderEnded (s v : State) (i : SlotNo) (o : Order) (e : OrderEnd) : Prop where
  slot   : v.slot i = none
  others : ∀ j : SlotNo, j ≠ i → (v.slot j).map Order.content = (s.slot j).map Order.content
  same   : v.units = s.units ∧ v.service = s.service ∧ v.shed = s.shed ∧ v.seqr = s.seqr ∧ v.tracker = s.tracker
  handed : ∃ jobs : List Job, jobs.Perm [.allocator, .dispatcher, .shed, .sequencer] ∧
    v.agenda = (endReceivers s o).map (fun j => Task.ended j i o e) ++ jobs.map fun j => Task.released j o.target

theorem orderEnded_of_work {s w : State} (work : RecordWork s w) (quiet : s.agenda = []) (i : SlotNo) (o : Order) (e : OrderEnd) :
    OrderEnded s (endOrder w i o e) i o e ∧ (endOrder w i o e).events = w.events := by
  have ended := endOrder_handed w i o e
  have outside := ended.outside
  obtain ⟨freed, jobs, perm, agenda⟩ := ended
  refine ⟨⟨freed.slot, fun j other => (freed.others j other).trans (work.slots j), ⟨outside.units.trans work.outside.units,
    outside.service.trans work.outside.service, outside.shed.trans work.outside.shed, outside.seqr.trans work.outside.seqr,
    outside.tracker.trans work.outside.tracker⟩, jobs, perm, ?_⟩, outside.events⟩
  rw [agenda, work.outside.agenda, quiet, endReceivers_congr work.outside.units work.outside.schedule]
  rfl

theorem exec_orderReply {s : State} (ready : Ready s) (r : ReplyMsg) :
    exec (.orderReply r) s = .next (settle (takeReply (takeDelivery s (.reply r)) r)) :=
  act_running ready.1 fun s => takeReply (takeDelivery s (.reply r)) r

/-- The slots and the units do not depend on the deliveries. -/
theorem matchReply_takeDelivery (s : State) (d : Delivery) (r : ReplyMsg) :
    matchReply (takeDelivery s d) r = matchReply s r := rfl

/-- Settles O41: what each end does at its jobs, and the reply that matches or is stray. -/
theorem replyEndsItsOrder : Obligations.ReplyEndsItsOrder := by
  refine ⟨fun s i o e => ⟨endReceivers_takers s o, dispatcherEnd_rows s i o e, shedOrderEnd_rows s i o e, seqEnd_rows s i o e⟩,
    fun s r ready => ⟨fun i o there sent target number link unique => ?_, fun stray => ?_⟩⟩
  · have found : matchReply s r = some (i, o) := by
      refine matchReply_of_unique there ((replyMatches_iff s r i).mpr ⟨o, there, sent, target, number, link⟩) fun j hit => ?_
      obtain ⟨x, at_slot, sent', target', number', -⟩ := (replyMatches_iff s r j).mp hit
      exact unique j x at_slot sent' target' number'
    have runs := exec_orderReply ready r
    have quiet : (takeDelivery s (.reply r)).agenda = [] := ready.2
    cases verdict : r.verdict with
    | accept =>
      have taken : takeReply (takeDelivery s (.reply r)) r = endOrder (takeDelivery s (.reply r)) i o .accept := by
        simp only [takeReply, matchReply_takeDelivery, found, verdict]
      obtain ⟨ended, events⟩ := orderEnded_of_work (.refl (takeDelivery s (.reply r))) quiet i o .accept
      obtain ⟨units, service, shed, seqr, tracker⟩ := ended.same
      obtain ⟨jobs, perm, agenda⟩ := ended.handed
      rw [taken] at runs
      exact ⟨_, jobs, _, runs, perm, rfl, ended.slot, ended.others, units, service, shed, seqr, tracker, agenda,
        fun _ => events, nofun⟩
    | refuse why =>
      have taken : takeReply (takeDelivery s (.reply r)) r = endOrder (record (takeDelivery s (.reply r)) .orderRefused
          (some o.target) (some (orderCode o.kind : Int)) (some (reasonCode why))) i o (.refuse why) := by
        simp only [takeReply, matchReply_takeDelivery, found, verdict]
      obtain ⟨ended, events⟩ := orderEnded_of_work (record_work (takeDelivery s (.reply r)) .orderRefused (some o.target)
        (some (orderCode o.kind : Int)) (some (reasonCode why))) quiet i o (.refuse why)
      obtain ⟨units, service, shed, seqr, tracker⟩ := ended.same
      obtain ⟨jobs, perm, agenda⟩ := ended.handed
      rw [taken] at runs
      refine ⟨_, jobs, _, runs, perm, rfl, ended.slot, ended.others, units, service, shed, seqr, tracker, agenda, nofun,
        fun reason same room => ?_⟩
      obtain rfl : why = reason := by simpa using same
      rw [events]
      exact record_log (s := takeDelivery s (.reply r)) room _ _ _ _
  · have missed : matchReply s r = none := by
      refine matchReply_of_none fun j hit => ?_
      obtain ⟨x, there, sent, target, number, link⟩ := (replyMatches_iff s r j).mp hit
      exact stray j x there sent target number link
    have taken : takeReply (takeDelivery s (.reply r)) r = takeDelivery s (.reply r) := by
      simp only [takeReply, matchReply_takeDelivery, missed]
    have runs := exec_orderReply ready r
    rwa [taken, settle_nil (s := takeDelivery s (.reply r)) ready.2] at runs

end Sys2Proof.Machine
end

section
/-! The Egress Scheduler: what a class has for a port (R70, R81), and what the handover of an order or of a REPORT entry leaves
(R14, R15, R17). -/

namespace Sys2Proof.Machine

/-! ## Items -/

theorem orderEligible_iff (s : State) (p : Port) (i : SlotNo) : orderEligible s p i = true ↔ OrderEligible s p i := by
  unfold orderEligible OrderEligible
  cases s.slot i with
  | none => simp
  | some o =>
    simp only [Option.some.injEq, exists_eq_left']
    cases o.pendingPort with
    | some q =>
      simp only [beq_iff_eq, Option.some.injEq, reduceCtorEq, false_and, or_false]
      exact eq_comm
    | none =>
      cases (s.unit o.target).live.side with
      | none => simp
      | some q =>
        simp only [beq_iff_eq, Option.some.injEq, reduceCtorEq, false_or, true_and]
        exact eq_comm

theorem firstOrder_iff (s : State) (p : Port) (c : QClass) (i : SlotNo) : firstOrder s p c = some i ↔
    OrderEligible s p i ∧ ∃ before later : List SlotNo, s.queue c = before ++ i :: later ∧
      ∀ j ∈ before, ¬ OrderEligible s p j := by
  simp only [firstOrder, List.find?_eq_some_iff_append, orderEligible_iff, ← Bool.not_eq_true, Bool.not_eq_true']

theorem firstReport_iff (s : State) (p : Port) (k : Nat) : firstReport s p = some k ↔
    ∃ r : ReportItem, s.egress.report[k]? = some r ∧ r.ports.has p = true ∧
      ∀ (j : Nat) (x : ReportItem), j < k → s.egress.report[j]? = some x → x.ports.has p = false := by
  unfold firstReport
  rw [List.findIdx?_eq_some_iff_getElem]
  constructor
  · rintro ⟨below, here, before⟩
    refine ⟨_, List.getElem?_eq_getElem below, here, fun j x less there => ?_⟩
    obtain ⟨h, rfl⟩ := List.getElem?_eq_some_iff.mp there
    simpa using before j less
  · rintro ⟨r, there, here, before⟩
    obtain ⟨below, rfl⟩ := List.getElem?_eq_some_iff.mp there
    refine ⟨below, here, fun j less => ?_⟩
    simpa using before j _ less (List.getElem?_eq_getElem (less.trans below))

/-- A class's item for a port is the one that the scheduler finds (R81). -/
theorem itemOf_iff (s : State) (p : Port) (c : QClass) (x : Item) : itemOf s p c = some x ↔ ClassServes s p c x := by
  cases x with
  | order i =>
    cases c with
    | report => simp [itemOf, ClassServes]
    | urgent | dispatch | setpoint => simp [itemOf, ClassServes, firstOrder_iff]
  | report k =>
    cases c with
    | report => simp [itemOf, ClassServes, firstReport_iff]
    | urgent | dispatch | setpoint => simp [itemOf, ClassServes]

theorem itemOf_none {s : State} {p : Port} {c : QClass} (nothing : ∀ x : Item, ¬ ClassServes s p c x) : itemOf s p c = none :=
  Option.eq_none_iff_forall_ne_some.mpr fun x found => nothing x ((itemOf_iff s p c x).mp found)

theorem firstOrder_urgent (s : State) (p : Port) (i : SlotNo) :
    firstOrder s p .urgent = some i ↔ ClassServes s p .urgent (.order i) := by
  rw [← itemOf_iff]
  simp [itemOf]

theorem firstOrder_urgent_none {s : State} {p : Port} (nothing : NoUrgent s p) : firstOrder s p .urgent = none :=
  Option.eq_none_iff_forall_ne_some.mpr fun i found => nothing (.order i) ((firstOrder_urgent s p i).mp found)

theorem phaseChoice_none {s : State} {p : Port} (nothing : ∀ (c : QClass) (x : Item), ¬ ClassServes s p c x) :
    phaseChoice s p = none := by
  unfold phaseChoice
  rw [List.findSome?_eq_none_iff]
  intro k _
  simp [itemOf_none (nothing _)]

/-- A port takes nothing at an open opportunity when no class has an item for it. -/
theorem offerOpen_none {s : State} {p : Port} (nothing : ∀ (c : QClass) (x : Item), ¬ ClassServes s p c x) :
    offerOpen s p = none := by
  simp [offerOpen, firstOrder_urgent_none (nothing .urgent), phaseChoice_none nothing]

/-! ## Opportunities -/

theorem portOpen_of_busy {s : State} {p : Port} (busy : PortBusy s p) : portOpen s p = false := by
  simp [portOpen, busy.1, busy.2]

/-- Nothing is granted when neither port takes anything. -/
theorem pump_of_quiet {s : State} (quiet : ∀ p : Port, PortQuiet s p) : pump s = s := by
  have nothing : pumpOnce s = none := by
    cases granted : pumpOnce s with
    | none => rfl
    | some t =>
      obtain ⟨p, open_, offered⟩ := pumpOnce_some granted
      rcases quiet p with busy | none
      · rw [portOpen_of_busy busy] at open_
        cases open_
      · rw [offerOpen_none none] at offered
        cases offered
  unfold pump
  cases Config.pumpFuel with
  | zero => rfl
  | succ n => simp [pumpN, nothing]

/-! ## The handover of an order -/

/-- The stamp of an order's next frame (R15, R17). -/
def nextStamp (s : State) (o : Order) : Stamp := o.stamp.getD ⟨s.frame.seqOrder + 1, s.tracker.epoch⟩

/-- The first copy of an order whose unit's side is UNKNOWN goes to both ports (R70). -/
def goesTwice (s : State) (o : Order) : Bool := o.pendingPort.isNone && (s.unit o.target).live.side.isNone

/-- An order as its copy is handed to a port that is UP. -/
def handedOrder (s : State) (p : Port) (o : Order) : Order :=
  { o with
    stamp := some (nextStamp s o)
    inTx := o.inTx.insert p
    pendingPort := if goesTwice s o then some p.other else none }

/-- The state with an order's copy handed over, before the port is told. -/
def handedQueued (s : State) (p : Port) (i : SlotNo) (o : Order) : State :=
  let x := { s with frame := { s.frame with seqOrder := if o.stamp = none then s.frame.seqOrder + 1 else s.frame.seqOrder } }
  let y := x.setSlot i (some (handedOrder s p o))
  if goesTwice s o then y else y.setQueue o.cls ((s.queue o.cls).filter (· != i))

/-- The state with an order's copy handed to a port, before waiting slots move up. -/
def handedTo (s : State) (p : Port) (i : SlotNo) (o : Order) : State :=
  if (s.port p).up then
    (handedQueued s p i o).setPort p { s.port p with tx := .order i (orderFrame s o (nextStamp s o)) }
  else copyComplete (handedQueued s p i o) p i

theorem setQueue_port (s : State) (c : QClass) (q : List SlotNo) (p : Port) : (s.setQueue c q).port p = s.port p := by
  cases c <;> rfl

theorem handedQueued_port (s : State) (p q : Port) (i : SlotNo) (o : Order) : (handedQueued s p i o).port q = s.port q := by
  unfold handedQueued
  simp only
  split
  · cases q <;> rfl
  · rw [setQueue_port]
    cases q <;> rfl

theorem stampOrder_eq (s : State) (o : Order) : stampOrder s o = ({ s with frame := { s.frame with
    seqOrder := if o.stamp = none then s.frame.seqOrder + 1 else s.frame.seqOrder } }, nextStamp s o) := by
  unfold stampOrder nextStamp
  cases o.stamp <;> rfl

/-- The handover of an order, step by step (R70). -/
theorem handOrder_eq {s : State} {p : Port} {i : SlotNo} {o : Order} (there : s.slot i = some o) :
    handOrder s p i = refill (handedTo s p i o) := by
  have stamped := stampOrder_eq s o
  have queue (x : State) (egress : x.egress = s.egress) : x.queue o.cls = s.queue o.cls := by
    cases o.cls <;> simp [State.queue, egress]
  unfold handOrder
  simp only [there, stamped]
  generalize moved : { s with frame := { s.frame with
    seqOrder := if o.stamp = none then s.frame.seqOrder + 1 else s.frame.seqOrder } } = x
  have unit : x.unit o.target = s.unit o.target := by rw [← moved]; rfl
  have queued : handedQueued s p i o = if goesTwice s o then x.setSlot i (some (handedOrder s p o))
      else (x.setSlot i (some (handedOrder s p o))).setQueue o.cls ((s.queue o.cls).filter (· != i)) := by
    rw [← moved]
    rfl
  have port := handedQueued_port s p p i o
  have frame : orderFrame (handedQueued s p i o) o (nextStamp s o) = orderFrame s o (nextStamp s o) := by
    rw [queued, ← moved]
    split
    · rfl
    · simp only [orderFrame, State.setQueue_frame, unit_of_units (State.setQueue_units _ _ _)]
      rfl
  have egress : ∀ y : Option Order, (x.setSlot i y).egress = s.egress := fun y => by rw [← moved]; rfl
  unfold handedTo
  rw [← frame, ← port, queued]
  unfold handedOrder goesTwice
  rw [unit]
  cases (o.pendingPort.isNone && (s.unit o.target).live.side.isNone) with
  | true => rfl
  | false =>
    simp only [Bool.false_eq_true, if_false, queue _ (egress _)]

end Sys2Proof.Machine
end

section
/-! The Egress Scheduler: what one handover and the waiting slots that move up leave, field by field (R69, R70, R81). -/

namespace Sys2Proof.Machine

/-! ## Principles -/

/-- What every waiting slot's move to its queue keeps, the moves together keep. -/
theorem refill_keeps {P : State → Prop}
    (move : ∀ (t : State) (i : SlotNo) (o : Order), t.slot i = some o → i ∈ t.orders.waiting → P t →
      P (joinQueue { t with orders := { t.orders with waiting := t.orders.waiting.filter (· != i) } } i o))
    {s : State} (h : P s) : P (refill s) := by
  have main (n : Nat) (s : State) (h : P s) : P (refillN n s) := by
    induction n generalizing s with
    | zero => exact h
    | succ n ih =>
      unfold refillN
      split
      · exact h
      next i o next_ =>
        obtain ⟨there, waits⟩ := nextWaiting_some next_
        exact ih _ (move s i o there waits h)
  exact main 12 s h

/-- What every open opportunity keeps, the grants together keep. -/
theorem pumpN_keeps {P : State → Prop}
    (grant : ∀ (t u : State) (p : Port), portOpen t p = true → offerOpen t p = some u → P t → P u) (n : Nat) {s : State}
    (h : P s) : P (pumpN n s) := by
  induction n generalizing s with
  | zero => exact h
  | succ n ih =>
    unfold pumpN
    split
    · exact h
    next t once =>
      obtain ⟨p, open_, offered⟩ := pumpOnce_some once
      exact ih (grant s t p open_ offered h)

/-! ## Waiting slots that move up -/

/-- What the moves of waiting slots leave alone. -/
structure MovedUp (s t : State) : Prop where
  port      : ∀ p : Port, t.port p = s.port p
  sequences : sequences t = sequences s
  phase     : ∀ p : Port, t.phase p = s.phase p
  report    : t.egress.report = s.egress.report
  slot      : ∀ (i : SlotNo) (o : Order), s.slot i = some o →
    ∃ (x : OrderState) (d : Option Time), t.slot i = some { o with state := x, deadline := d }

theorem joinQueue_port (s : State) (i : SlotNo) (o : Order) (p : Port) : (joinQueue s i o).port p = s.port p := by
  unfold joinQueue
  rw [setQueue_port]
  cases p <;> rfl

theorem joinQueue_slot (s : State) (i j : SlotNo) (o : Order) :
    (joinQueue s i o).slot j = if j = i then some { o with state := .queued, deadline := none } else s.slot j := by
  unfold joinQueue
  rw [slot_setQueue, slot_setSlot]

theorem joinQueue_queue (s : State) (i : SlotNo) (o : Order) (c : QClass) :
    (joinQueue s i o).queue c = if c = o.cls ∧ o.cls ≠ .report then s.queue c ++ [i] else s.queue c := by
  unfold joinQueue
  cases h : o.cls <;> cases c <;> simp [State.setQueue, State.queue]

theorem joinQueue_waiting (s : State) (i : SlotNo) (o : Order) : (joinQueue s i o).orders.waiting = s.orders.waiting := by
  unfold joinQueue
  rw [State.setQueue_orders]
  rfl

theorem setQueue_phase (s : State) (c : QClass) (q : List SlotNo) (p : Port) : (s.setQueue c q).phase p = s.phase p := by
  cases c <;> cases p <;> rfl

theorem setQueue_report (s : State) (c : QClass) (q : List SlotNo) : (s.setQueue c q).egress.report = s.egress.report := by
  cases c <;> rfl

theorem sequences_of_frame {s t : State} (same : t.frame = s.frame) : sequences t = sequences s := by
  simp [sequences, same]

theorem refill_movedUp (s : State) : MovedUp s (refill s) := by
  refine refill_keeps (P := MovedUp s) ?_ ⟨fun _ => rfl, rfl, fun _ => rfl, rfl, fun i o there => ⟨o.state, o.deadline, there⟩⟩
  intro t i o there _ moved
  refine ⟨fun p => (joinQueue_port _ i o p).trans (moved.port p), ?_, fun p => ?_, ?_, fun j x stood => ?_⟩
  · rw [← moved.sequences]
    exact sequences_of_frame (State.setQueue_frame _ _ _)
  · rw [← moved.phase]
    exact setQueue_phase _ _ _ _
  · rw [← moved.report]
    exact setQueue_report _ _ _
  · rw [joinQueue_slot]
    obtain ⟨y, d, stands⟩ := moved.slot j x stood
    split
    next here =>
      subst here
      obtain rfl : o = { x with state := y, deadline := d } := Option.some.inj (there.symm.trans stands)
      exact ⟨_, _, rfl⟩
    next => exact ⟨y, d, stands⟩

/-! ## An order handed over -/

theorem copyComplete_slot_of_has {s : State} {p : Port} {i : SlotNo} {o : Order} (there : s.slot i = some o)
    (has : o.inTx.has p = true) : copyComplete s p i = s.setSlot i (some { o with
      inTx := o.inTx.erase p
      state := .sent
      deadline := if o.state = .sent then o.deadline else some (s.later s.settings.replyTime) }) := by
  unfold copyComplete
  simp only [there, has, if_true]
  split
  next already => rw [already]; rfl
  next other => rw [if_neg other]

@[simp] theorem PortSet.has_insert (x : PortSet) (p : Port) : (x.insert p).has p = true := by
  cases p <;> rfl

@[simp] theorem PortSet.has_insert_other (x : PortSet) (p : Port) : (x.insert p).has p.other = x.has p.other := by
  cases p <;> rfl

@[simp] theorem PortSet.has_erase (x : PortSet) (p : Port) : (x.erase p).has p = false := by
  cases p <;> rfl

@[simp] theorem PortSet.has_erase_other (x : PortSet) (p : Port) : (x.erase p).has p.other = x.has p.other := by
  cases p <;> rfl

/-- A state in which an order has just been handed to a port, before waiting slots move up (R70). -/
structure OrderTaken (s t : State) (p : Port) (i : SlotNo) (o : Order) : Prop where
  up       : (s.port p).up = true →
    t.slot i = some (handedOrder s p o) ∧ t.port p = { s.port p with tx := .order i (orderFrame s o (nextStamp s o)) }
  down     : (s.port p).up = false → t.port p = s.port p ∧ t.slot i = some { handedOrder s p o with
    inTx := (o.inTx.insert p).erase p
    state := .sent
    deadline := if o.state = .sent then o.deadline else some (s.later s.settings.replyTime) }
  others   : ∀ j : SlotNo, j ≠ i → t.slot j = s.slot j
  other    : t.port p.other = s.port p.other
  queue    : ∀ c : QClass, t.queue c = if c = o.cls ∧ goesTwice s o = false then (s.queue c).filter (· != i) else s.queue c
  waiting  : t.orders.waiting = s.orders.waiting
  report   : t.egress.report = s.egress.report
  phase    : ∀ q : Port, t.phase q = s.phase q
  count    : sequences t = (if o.stamp = none then s.frame.seqOrder + 1 else s.frame.seqOrder, s.frame.seqResponse,
    s.frame.seqNotice)

theorem handedQueued_slot (s : State) (p : Port) (i j : SlotNo) (o : Order) :
    (handedQueued s p i o).slot j = if j = i then some (handedOrder s p o) else s.slot j := by
  unfold handedQueued
  simp only
  split
  · exact slot_setSlot _ i j _
  · rw [slot_setQueue]
    exact slot_setSlot _ i j _

theorem handedQueued_queue (s : State) (p : Port) (i : SlotNo) (o : Order) (c : QClass) : (handedQueued s p i o).queue c =
    if c = o.cls ∧ goesTwice s o = false then (s.queue c).filter (· != i) else s.queue c := by
  unfold handedQueued
  simp only
  cases goesTwice s o with
  | true =>
    simp only [if_true, Bool.true_eq_false, and_false, if_false]
    cases c <;> rfl
  | false =>
    simp only [Bool.false_eq_true, if_false, and_true]
    cases o.cls <;> cases c <;> rfl

theorem handedQueued_rest (s : State) (p : Port) (i : SlotNo) (o : Order) :
    (handedQueued s p i o).orders.waiting = s.orders.waiting ∧ (handedQueued s p i o).egress.report = s.egress.report ∧
    (∀ q : Port, (handedQueued s p i o).phase q = s.phase q) ∧ sequences (handedQueued s p i o) =
      (if o.stamp = none then s.frame.seqOrder + 1 else s.frame.seqOrder, s.frame.seqResponse, s.frame.seqNotice) ∧
    (handedQueued s p i o).now = s.now ∧ (handedQueued s p i o).settings = s.settings := by
  unfold handedQueued
  simp only
  split
  · exact ⟨rfl, rfl, fun q => by cases q <;> rfl, rfl, rfl, rfl⟩
  · cases o.cls <;> exact ⟨rfl, rfl, fun q => by cases q <;> rfl, rfl, rfl, rfl⟩

theorem setPort_queue (s : State) (p : Port) (q : PortPath) (c : QClass) : (s.setPort p q).queue c = s.queue c := by
  cases p <;> cases c <;> rfl

theorem setPort_phase (s : State) (p r : Port) (q : PortPath) : (s.setPort p q).phase r = s.phase r := by
  cases p <;> cases r <;> rfl

theorem setPort_sequences (s : State) (p : Port) (q : PortPath) : sequences (s.setPort p q) = sequences s := by
  cases p <;> rfl

theorem setSlot_port (s : State) (i : SlotNo) (o : Option Order) (p : Port) : (s.setSlot i o).port p = s.port p := by
  cases p <;> rfl

theorem setSlot_queue (s : State) (i : SlotNo) (o : Option Order) (c : QClass) : (s.setSlot i o).queue c = s.queue c := by
  cases c <;> rfl

theorem setSlot_phase (s : State) (i : SlotNo) (o : Option Order) (p : Port) : (s.setSlot i o).phase p = s.phase p := by
  cases p <;> rfl

theorem handedTo_taken (s : State) (p : Port) (i : SlotNo) (o : Order) : OrderTaken s (handedTo s p i o) p i o := by
  obtain ⟨waiting, report, phase, count, now, settings⟩ := handedQueued_rest s p i o
  unfold handedTo
  cases up : (s.port p).up with
  | true =>
    simp only [if_true]
    exact ⟨fun _ => ⟨by rw [slot_setPort, handedQueued_slot, if_pos rfl], port_setPort_self _ _ _⟩,
      fun off => (by rw [up] at off; cases off),
      fun j other => by rw [slot_setPort, handedQueued_slot, if_neg other],
      by rw [port_setPort_other, handedQueued_port], fun c => by rw [setPort_queue, handedQueued_queue],
      by rw [State.setPort_orders, waiting], by rw [State.setPort_egress, report], fun q => by rw [setPort_phase, phase],
      by rw [setPort_sequences, count]⟩
  | false =>
    have there : (handedQueued s p i o).slot i = some (handedOrder s p o) := by rw [handedQueued_slot, if_pos rfl]
    have later : (handedQueued s p i o).later (handedQueued s p i o).settings.replyTime = s.later s.settings.replyTime := by
      simp [State.later, now, settings]
    rw [copyComplete_slot_of_has there (by simp [handedOrder]), later]
    simp only [Bool.false_eq_true, if_false]
    exact ⟨fun on => (by rw [up] at on; cases on),
      fun _ => ⟨by rw [setSlot_port, handedQueued_port], slot_setSlot_self _ _ _⟩,
      fun j other => by rw [slot_setSlot_ne other, handedQueued_slot, if_neg other],
      by rw [setSlot_port, handedQueued_port], fun c => by rw [setSlot_queue, handedQueued_queue],
      waiting, report, fun q => by rw [setSlot_phase, phase], count⟩

end Sys2Proof.Machine
end

section
/-! The Egress Scheduler: a REPORT entry handed over, what grants keep of a port, and an item handed while the other port stays
quiet (R14, R17, R81). -/

namespace Sys2Proof.Machine

/-! ## A REPORT entry handed over -/

/-- The sequence of a REPORT entry's first frame, by the counter of its class (R17). -/
def nextReportSeq (s : State) : ReportBody → Num16
  | .response .. => s.frame.seqResponse + 1
  | .notice .. => s.frame.seqNotice + 1

/-- The sequence counters once a REPORT entry has had its first frame (R17). -/
def reportCounted (s : State) : ReportBody → Num16 × Num16 × Num16
  | .response .. => (s.frame.seqOrder, s.frame.seqResponse + 1, s.frame.seqNotice)
  | .notice .. => (s.frame.seqOrder, s.frame.seqResponse, s.frame.seqNotice + 1)

/-- A state in which a REPORT entry has just been handed to a port (R81, R83). -/
structure ReportTaken (s t : State) (p : Port) (k : Nat) (r : ReportItem) : Prop where
  up      : (s.port p).up = true → t.port p = { s.port p with
    tx := .report (reportFrame s r (r.stamp.getD ⟨nextReportSeq s r.body, s.tracker.epoch⟩)) }
  down    : (s.port p).up = false → t.port p = s.port p
  other   : t.port p.other = s.port p.other
  orders  : t.orders = s.orders
  queue   : ∀ c : QClass, t.queue c = s.queue c
  phase   : ∀ q : Port, t.phase q = s.phase q
  report  : t.egress.report = if (r.ports.erase p).isEmpty then s.egress.report.eraseIdx k
    else s.egress.report.set k
      { r with ports := r.ports.erase p, stamp := some (r.stamp.getD ⟨nextReportSeq s r.body, s.tracker.epoch⟩) }
  count   : sequences t = if r.stamp ≠ none then sequences s else reportCounted s r.body

theorem stampReport_spec (s : State) (r : ReportItem) :
    (stampReport s r).2 = r.stamp.getD ⟨nextReportSeq s r.body, s.tracker.epoch⟩ ∧
    (∀ q : Port, (stampReport s r).1.port q = s.port q) ∧ (stampReport s r).1.orders = s.orders ∧
    (stampReport s r).1.egress = s.egress ∧ (stampReport s r).1.frame.station = s.frame.station ∧
    sequences (stampReport s r).1 = if r.stamp ≠ none then sequences s else reportCounted s r.body := by
  unfold stampReport
  cases r.stamp with
  | some st => exact ⟨rfl, fun _ => rfl, rfl, rfl, rfl, rfl⟩
  | none =>
    cases r.body with
    | response => exact ⟨rfl, fun q => by cases q <;> rfl, rfl, rfl, rfl, rfl⟩
    | notice => exact ⟨rfl, fun q => by cases q <;> rfl, rfl, rfl, rfl, rfl⟩

theorem queue_of_egress {s t : State} (same : t.egress = s.egress) (c : QClass) : t.queue c = s.queue c := by
  cases c <;> simp [State.queue, same]

theorem phase_of_egress {s t : State} (same : t.egress = s.egress) (p : Port) : t.phase p = s.phase p := by
  cases p <;> simp [State.phase, same]

theorem handReport_taken {s : State} {p : Port} {k : Nat} {r : ReportItem} (there : s.egress.report[k]? = some r) :
    ReportTaken s (handReport s p k) p k r := by
  obtain ⟨stamp, port, orders, egress, station, count⟩ := stampReport_spec s r
  unfold handReport
  simp only [there]
  generalize stampReport s r = g at stamp port orders egress station count ⊢
  obtain ⟨x, st⟩ := g
  simp only at stamp port orders egress station count ⊢
  generalize left : (if (r.ports.erase p).isEmpty then x.egress.report.eraseIdx k
    else x.egress.report.set k { r with ports := r.ports.erase p, stamp := some st }) = q
  have moved (y : Port) : ({ x with egress := { x.egress with report := q } } : State).port y = s.port y := by
    rw [← port y]
    cases y <;> rfl
  have frame : reportFrame { x with egress := { x.egress with report := q } } r st = reportFrame s r st := by
    simp [reportFrame, station]
  have reported : q = if (r.ports.erase p).isEmpty then s.egress.report.eraseIdx k
      else s.egress.report.set k
        { r with ports := r.ports.erase p, stamp := some (r.stamp.getD ⟨nextReportSeq s r.body, s.tracker.epoch⟩) } := by
    rw [← left, egress, stamp]
  have queue (c : QClass) : ({ x with egress := { x.egress with report := q } } : State).queue c = s.queue c := by
    rw [← queue_of_egress egress c]
    cases c <;> rfl
  have phase (y : Port) : ({ x with egress := { x.egress with report := q } } : State).phase y = s.phase y := by
    rw [← phase_of_egress egress y]
    cases y <;> rfl
  cases up : (s.port p).up with
  | true =>
    rw [if_pos (by rw [moved, up]), moved, frame, stamp]
    exact ⟨fun _ => port_setPort_self _ _ _, fun off => (by rw [up] at off; cases off),
      by rw [port_setPort_other, moved], by rw [State.setPort_orders]; exact orders,
      fun c => by rw [setPort_queue, queue], fun y => by rw [setPort_phase, phase],
      by rw [State.setPort_egress]; exact reported, by rw [setPort_sequences]; exact count⟩
  | false =>
    rw [if_neg (by rw [moved, up]; decide)]
    exact ⟨fun on => (by rw [up] at on; cases on), fun _ => moved p, moved p.other, orders, queue, phase, reported, count⟩

/-! ## What a grant keeps -/

theorem offerOpen_cases {s t : State} {p : Port} (offered : offerOpen s p = some t) :
    (∃ i : SlotNo, firstOrder s p .urgent = some i ∧ t = handOrder s p i) ∨
      ∃ (x : Item) (k : Fin 16) (c : QClass), firstOrder s p .urgent = none ∧ itemOf s p c = some x ∧
        t = handItem (s.setPhase p k) p x := by
  unfold offerOpen at offered
  split at offered
  next i found => exact .inl ⟨i, found, (Option.some.inj offered).symm⟩
  next missed =>
    obtain ⟨⟨x, k⟩, chosen, rfl⟩ := Option.map_eq_some_iff.mp offered
    obtain ⟨y, -, found⟩ := List.exists_of_findSome?_eq_some chosen
    obtain ⟨z, here, same⟩ := Option.map_eq_some_iff.mp found
    obtain ⟨rfl, rfl⟩ := Prod.mk.inj same
    exact .inr ⟨z, _, _, missed, here, rfl⟩

/-- A handover leaves the phase pointers, and a port but for what an UP one transmits. -/
structure HandsPort (s t : State) (p : Port) : Prop where
  up    : (s.port p).up = true → ∃ x : Tx, x ≠ .free ∧ t.port p = { s.port p with tx := x }
  down  : (s.port p).up = false → t.port p = s.port p
  phase : ∀ q : Port, t.phase q = s.phase q

theorem handOrder_port {s : State} {p : Port} {i : SlotNo} {o : Order} (there : s.slot i = some o) :
    HandsPort s (handOrder s p i) p := by
  have taken := handedTo_taken s p i o
  have moved := refill_movedUp (handedTo s p i o)
  rw [handOrder_eq there]
  exact ⟨fun on => ⟨.order i (orderFrame s o (nextStamp s o)), nofun, (moved.port p).trans (taken.up on).2⟩, fun off => (moved.port p).trans (taken.down off).1,
    fun q => (moved.phase q).trans (taken.phase q)⟩

theorem handReport_port {s : State} {p : Port} {k : Nat} {r : ReportItem} (there : s.egress.report[k]? = some r) :
    HandsPort s (handReport s p k) p := by
  have taken := handReport_taken (p := p) there
  exact ⟨fun on => ⟨.report _, nofun, taken.up on⟩, taken.down, taken.phase⟩

/-- The entry of an item that a class has is there. -/
theorem itemOf_there {s : State} {p : Port} {c : QClass} {x : Item} (found : itemOf s p c = some x) :
    match x with
    | .order i => ∃ o : Order, s.slot i = some o
    | .report k => ∃ r : ReportItem, s.egress.report[k]? = some r := by
  have serves := (itemOf_iff s p c x).mp found
  cases x with
  | order i =>
    obtain ⟨-, ⟨o, there, -⟩, -⟩ := serves
    exact ⟨o, there⟩
  | report k =>
    obtain ⟨-, r, there, -⟩ := serves
    exact ⟨r, there⟩

theorem setPhase_port (s : State) (p q : Port) (k : Fin 16) : (s.setPhase p k).port q = s.port q := by
  cases p <;> cases q <;> rfl

theorem setPhase_phase (s : State) (p : Port) (k : Fin 16) :
    (s.setPhase p k).phase p = k ∧ (s.setPhase p k).phase p.other = s.phase p.other := by
  cases p <;> exact ⟨rfl, rfl⟩

theorem setPhase_slot (s : State) (p : Port) (k : Fin 16) (i : SlotNo) : (s.setPhase p k).slot i = s.slot i := by
  cases p <;> rfl

theorem setPhase_report (s : State) (p : Port) (k : Fin 16) : (s.setPhase p k).egress.report = s.egress.report := by
  cases p <;> rfl

/-- What an open opportunity on a port leaves of the ports. -/
structure GrantsPort (s t : State) (p : Port) : Prop where
  up    : (s.port p).up = true → ∃ x : Tx, x ≠ .free ∧ t.port p = { s.port p with tx := x }
  down  : (s.port p).up = false → t.port p = s.port p
  other : t.port p.other = s.port p.other
  phase : t.phase p.other = s.phase p.other

theorem offerOpen_grants {s t : State} {p : Port} (offered : offerOpen s p = some t) : GrantsPort s t p := by
  have other := offerOpen_other offered
  rcases offerOpen_cases offered with ⟨i, found, rfl⟩ | ⟨x, k, c, -, found, rfl⟩
  · obtain ⟨o, there⟩ := itemOf_there (s := s) (p := p) (c := .urgent) (x := .order i) (by simp [itemOf, found])
    have hands := handOrder_port (p := p) there
    exact ⟨hands.up, hands.down, other, hands.phase _⟩
  · have port : (s.setPhase p k).port p = s.port p := setPhase_port s p p k
    have hands : HandsPort (s.setPhase p k) (handItem (s.setPhase p k) p x) p := by
      have entry := itemOf_there found
      cases x with
      | order i =>
        obtain ⟨o, there⟩ := entry
        exact handOrder_port ((setPhase_slot s p k i).trans there)
      | report n =>
        obtain ⟨r, there⟩ := entry
        exact handReport_port (by rw [setPhase_report]; exact there)
    obtain ⟨on, off, phase⟩ := hands
    rw [port] at on off
    exact ⟨on, off, other, (phase _).trans (setPhase_phase s p k).2⟩

theorem Port.eq_or_other (p q : Port) : q = p ∨ q = p.other := by
  cases p <;> cases q <;> simp [Port.other]

/-- While a port is busy, the grants leave it and its phase pointer as they are. -/
theorem pumpN_of_busy {s : State} {p : Port} (busy : PortBusy s p) (n : Nat) :
    (pumpN n s).port p = s.port p ∧ (pumpN n s).phase p = s.phase p := by
  refine pumpN_keeps (P := fun t => t.port p = s.port p ∧ t.phase p = s.phase p) ?_ n ⟨rfl, rfl⟩
  rintro t u q open_ offered ⟨port, phase⟩
  have grants := offerOpen_grants offered
  rcases Port.eq_or_other p q with rfl | rfl
  · rw [portOpen_of_busy ⟨by rw [port]; exact busy.1, by rw [port]; exact busy.2⟩] at open_
    cases open_
  · have other := grants.other
    have pointer := grants.phase
    rw [Port.other_other] at other pointer
    exact ⟨other.trans port, pointer.trans phase⟩

/-- A port that is DOWN is left as it is by the grants. -/
theorem pumpN_of_down {s : State} {p : Port} (down : (s.port p).up = false) (n : Nat) : (pumpN n s).port p = s.port p := by
  refine pumpN_keeps (P := fun t => t.port p = s.port p) ?_ n rfl
  intro t u q _ offered port
  have grants := offerOpen_grants offered
  rcases Port.eq_or_other p q with rfl | rfl
  · exact (grants.down (by rw [port]; exact down)).trans port
  · have other := grants.other
    rw [Port.other_other] at other
    exact other.trans port

end Sys2Proof.Machine
end

section
/-! The Frame Path: link changes (R2), the end of a forwarded frame (R14), and an order that another class's queue holds. -/

namespace Sys2Proof.Machine

/-! ## What an item depends on -/

theorem orderEligible_congr {s t : State} (orders : t.orders = s.orders) (units : t.units = s.units) (p : Port) (i : SlotNo) :
    OrderEligible t p i ↔ OrderEligible s p i := by
  simp only [OrderEligible, slot_of_slots (congrArg Transactor.slots orders), unit_of_units units]

theorem classServes_congr {s t : State} (orders : t.orders = s.orders) (units : t.units = s.units) (egress : t.egress = s.egress)
    (p : Port) (c : QClass) (x : Item) : ClassServes t p c x ↔ ClassServes s p c x := by
  cases x with
  | order i => simp only [ClassServes, orderEligible_congr orders units, queue_of_egress egress]
  | report k => simp only [ClassServes, egress]

/-- A state whose Frame Path alone has changed. -/
structure FrameOnly (s t : State) : Prop where
  only      : t = { s with frame := t.frame }
  sequences : sequences t = sequences s
  delivered : t.frame.delivered = s.frame.delivered

theorem FrameOnly.refl (s : State) : FrameOnly s s := ⟨rfl, rfl, rfl⟩

theorem FrameOnly.trans {s t u : State} (a : FrameOnly s t) (b : FrameOnly t u) : FrameOnly s u :=
  ⟨frame_trans a.only b.only, b.sequences.trans a.sequences, b.delivered.trans a.delivered⟩

theorem FrameOnly.setPort (s : State) (p : Port) (q : PortPath) : FrameOnly s (s.setPort p q) :=
  ⟨setPort_frame s p q, setPort_sequences s p q, setPort_delivered s p q⟩

theorem FrameOnly.outside {s t : State} (h : FrameOnly s t) : SameOutsidePorts s t := by
  rw [h.only]
  constructor <;> rfl

theorem FrameOnly.egress {s t : State} (h : FrameOnly s t) : t.egress = s.egress := by rw [h.only]

theorem FrameOnly.orders {s t : State} (h : FrameOnly s t) : t.orders = s.orders := by rw [h.only]

theorem FrameOnly.units {s t : State} (h : FrameOnly s t) : t.units = s.units := by rw [h.only]

theorem FrameOnly.slot {s t : State} (h : FrameOnly s t) (i : SlotNo) : t.slot i = s.slot i :=
  slot_of_slots (congrArg Transactor.slots h.orders) i

theorem FrameOnly.serves {s t : State} (h : FrameOnly s t) (p : Port) (c : QClass) (x : Item) :
    ClassServes t p c x ↔ ClassServes s p c x := classServes_congr h.orders h.units h.egress p c x

theorem FrameOnly.quiet {s t : State} (h : FrameOnly s t) {p : Port} (up : (t.port p).up = (s.port p).up)
    (tx : (t.port p).tx = (s.port p).tx) (quiet : PortQuiet s p) : PortQuiet t p := by
  rcases quiet with ⟨on, busy⟩ | nothing
  · exact .inl ⟨up.trans on, by rw [tx]; exact busy⟩
  · exact .inr fun c x serves => nothing c x ((h.serves p c x).mp serves)

theorem PortStill.quiet {s : State} {p : Port} (still : PortStill s p) : PortQuiet s p :=
  still.imp id And.right

/-! ## The oldest waiting frame -/

theorem updateFirst_length (f : Place → Bool) (g : Place → Place) (l : List Place) : (updateFirst f g l).length = l.length := by
  induction l with
  | nil => rfl
  | cons x xs ih =>
    unfold updateFirst
    split
    · rfl
    · simp [ih]

/-- The state in which the oldest waiting frame has started (R14). -/
theorem startWaiting_starts {s : State} {p : Port} (waits : (s.port p.other).buffer.any Place.waiting = true) :
    FrameOnly s (startWaiting s p) ∧ (startWaiting s p).port p = { s.port p with tx := .forwarding } ∧
    (startWaiting s p).port p.other = { s.port p.other with
      buffer := updateFirst Place.waiting (fun x => { x with sending := true }) (s.port p.other).buffer } := by
  unfold startWaiting
  rw [if_pos waits]
  refine ⟨(FrameOnly.setPort _ _ _).trans (.setPort _ _ _), ?_, ?_⟩
  · simp only [State.setTx, State.setBuffer, port_setPort_self, port_setPort_of_other]
  · simp only [State.setTx, State.setBuffer, port_setPort_self, port_setPort_other]

/-- A restricted opportunity with no URGENT item sends the oldest waiting frame (R14). -/
theorem opportunity_sends {s : State} {p : Port} (up : (s.port p).up = true)
    (waits : (s.port p.other).buffer.any Place.waiting = true) (noUrgent : NoUrgent s p) :
    OldestSent (s.port p.other).buffer (opportunity s p) p ∧ (opportunity s p).phase p = s.phase p ∧
    (PortQuiet s p.other → (opportunity s p).egress = s.egress ∧ sequences (opportunity s p) = sequences s) ∧
    ((opportunity s p).port p.other).buffer.length = (s.port p.other).buffer.length := by
  have sends : opportunity s p = pump (startWaiting s p) := by
    unfold opportunity
    rw [if_pos waits]
    simp [offerRestricted, firstOrder_urgent_none noUrgent]
  obtain ⟨frame, port, other⟩ := startWaiting_starts waits
  have busy : PortBusy (startWaiting s p) p := by
    rw [PortBusy, port]
    exact ⟨up, nofun⟩
  obtain ⟨kept, phase⟩ := pumpN_of_busy busy Config.pumpFuel
  have buffer := (pump_work (startWaiting s p)).buffer p.other
  rw [sends]
  refine ⟨⟨?_, fun before later x whole none here => ?_⟩, ?_, fun quiet => ?_, ?_⟩
  · rw [show (pump (startWaiting s p)).port p = (startWaiting s p).port p from kept, port]
  · rw [buffer, other, whole]
    exact updateFirst_append none here
  · exact phase.trans (phase_of_egress frame.egress p)
  · have still : pump (startWaiting s p) = startWaiting s p := by
      refine pump_of_quiet fun q => ?_
      rcases Port.eq_or_other p q with rfl | rfl
      · exact .inl busy
      · exact frame.quiet (by rw [other]) (by rw [other]) quiet
    rw [still]
    exact ⟨frame.egress, frame.sequences⟩
  · rw [buffer, other]
    exact updateFirst_length _ _ _

/-- An opportunity on a state whose Frame Path has moved on keeps what lies outside the bus. -/
structure BusWork (s t : State) : Prop where
  outside   : SameOutsidePorts s t
  delivered : t.frame.delivered = s.frame.delivered
  slots     : ∀ i : SlotNo, (t.slot i).map Order.content = (s.slot i).map Order.content

theorem BusWork.trans {s t u : State} (a : BusWork s t) (b : BusWork t u) : BusWork s u :=
  ⟨a.outside.trans b.outside, b.delivered.trans a.delivered, fun i => (b.slots i).trans (a.slots i)⟩

theorem PortWork.bus {s t : State} (h : PortWork s t) : BusWork s t := ⟨h.outside, h.delivered, h.slots⟩

theorem FrameOnly.bus {s t : State} (h : FrameOnly s t) : BusWork s t :=
  ⟨h.outside, h.delivered, fun i => by rw [h.slot]⟩

theorem opportunity_bus (s : State) (p : Port) : BusWork s (opportunity s p) := by
  unfold opportunity
  split
  next waits =>
    split
    next offered => exact ((offerRestricted_work offered).trans (pump_work _)).bus
    next => exact (startWaiting_starts waits).1.bus.trans (pump_work _).bus
  next => exact (pump_work s).bus

theorem opportunity_up (s : State) (p q : Port) :
    ((opportunity s p).port q).up = (s.port q).up ∧ ((opportunity s p).port q).rx = (s.port q).rx := by
  have pumped (t : State) : ((pump t).port q).up = (t.port q).up ∧ ((pump t).port q).rx = (t.port q).rx :=
    ⟨(pump_work t).up q, (pump_work t).rx q⟩
  unfold opportunity
  split
  next waits =>
    split
    next offered =>
      have work := offerRestricted_work offered
      exact ⟨(pumped _).1.trans (work.up q), (pumped _).2.trans (work.rx q)⟩
    next =>
      obtain ⟨-, port, other⟩ := startWaiting_starts waits
      rcases Port.eq_or_other p q with rfl | rfl
      · exact ⟨(pumped _).1.trans (by rw [port]), (pumped _).2.trans (by rw [port])⟩
      · exact ⟨(pumped _).1.trans (by rw [other]), (pumped _).2.trans (by rw [other])⟩
  next => exact pumped s

/-! ## Link changes -/

theorem receptionEnd_bad (s : State) (p : Port) : FrameOnly s (receptionEnd s p [] true false) ∧
    ((receptionEnd s p [] true false).port p).rx = .idle ∧ ((receptionEnd s p [] true false).port p).tx = (s.port p).tx ∧
    (receptionEnd s p [] true false).port p.other = s.port p.other := by
  have error : receiveError [] true false = true := rfl
  have idle : FrameOnly s (s.setRx p .idle) := .setPort _ _ _
  have port : (s.setRx p .idle).port p = { s.port p with rx := .idle } := port_setPort_self _ _ _
  have other : (s.setRx p .idle).port p.other = s.port p.other := port_setPort_other _ _ _
  unfold receptionEnd
  simp only [error, if_true]
  split
  next already => exact ⟨.refl s, already, rfl, rfl⟩
  next => exact ⟨idle, by rw [port], by rw [port], other⟩
  next => exact ⟨idle, by rw [port], by rw [port], other⟩
  next =>
    unfold dropReceiving State.setBuffer
    exact ⟨idle.trans (.setPort _ _ _), by rw [port_setPort_self, port], by rw [port_setPort_self, port],
      by rw [port_setPort_other, other]⟩
  next => exact ⟨idle, by rw [port], by rw [port], other⟩
  next => exact ⟨idle, by rw [port], by rw [port], other⟩
  next =>
    unfold State.setBuffer
    exact ⟨idle.trans (.setPort _ _ _), by rw [port_setPort_self, port], by rw [port_setPort_self, port],
      by rw [port_setPort_other, other]⟩

/-- What an ended transmission leaves of the ports (R3, R15). -/
theorem transmissionOver_leaves (s : State) (p : Port) : BusWork s (transmissionOver s p) ∧
    (transmissionOver s p).port p = { s.port p with tx := .free } ∧
    ((transmissionOver s p).port p.other).up = (s.port p.other).up := by
  have free : FrameOnly s (s.setTx p .free) := .setPort _ _ _
  unfold transmissionOver
  split
  next already => exact ⟨(FrameOnly.refl s).bus, by rw [← already], rfl⟩
  next =>
    unfold dropSending State.setBuffer State.setTx
    refine ⟨(free.trans (.setPort _ _ _)).bus, ?_, ?_⟩
    · rw [port_setPort_of_other, port_setPort_self]
    · rw [port_setPort_self, port_setPort_other]
  next i _ _ =>
    refine ⟨free.bus.trans (copyComplete_work _ p i).bus, ?_, ?_⟩
    · rw [copyComplete_port]
      exact port_setPort_self _ _ _
    · rw [copyComplete_port]
      exact congrArg PortPath.up (port_setPort_other _ _ _)
  next => exact ⟨free.bus, port_setPort_self _ _ _, congrArg PortPath.up (port_setPort_other _ _ _)⟩

/-- What is left of the ports and the bus when a link goes DOWN (R2). -/
theorem portDown_leaves {s : State} {p : Port} (up : (s.port p).up = true) : BusWork s (portDown s p) ∧
    ((portDown s p).port p).up = false ∧ ((portDown s p).port p).rx = .idle ∧ ((portDown s p).port p).tx = .free ∧
    (∀ x ∈ ((portDown s p).port p.other).buffer, x.receiving = true) ∧
    ((portDown s p).port p.other).up = (s.port p.other).up := by
  obtain ⟨ended, rx, -, other⟩ := receptionEnd_bad s p
  obtain ⟨ended', port, far⟩ := transmissionOver_leaves (receptionEnd s p [] true false) p
  have unfolded : portDown s p =
      let w := transmissionOver (receptionEnd s p [] true false) p
      let d := w.setPort p { w.port p with up := false }
      pump (d.setBuffer p.other ((d.port p.other).buffer.filter fun x => x.receiving)) := by
    simp [portDown, up]
  rw [unfolded]
  generalize transmissionOver (receptionEnd s p [] true false) p = w at ended' port far
  have bus : BusWork s w := ended.bus.trans ended'
  have off : FrameOnly w (w.setPort p { w.port p with up := false }) := .setPort _ _ _
  have offPort := port_setPort_self w p { w.port p with up := false }
  have offOther := port_setPort_other w p { w.port p with up := false }
  dsimp only
  generalize w.setPort p { w.port p with up := false } = d at off offPort offOther
  have cleared : FrameOnly d (d.setBuffer p.other ((d.port p.other).buffer.filter fun x => x.receiving)) := .setPort _ _ _
  have clearedPort : (d.setBuffer p.other ((d.port p.other).buffer.filter fun x => x.receiving)).port p = d.port p :=
    port_setPort_of_other _ _ _
  have clearedOther : (d.setBuffer p.other ((d.port p.other).buffer.filter fun x => x.receiving)).port p.other =
      { d.port p.other with buffer := (d.port p.other).buffer.filter fun x => x.receiving } := port_setPort_self _ _ _
  generalize d.setBuffer p.other ((d.port p.other).buffer.filter fun x => x.receiving) = e at cleared clearedPort clearedOther
  have still : (pump e).port p = e.port p := pumpN_of_down (by rw [clearedPort, offPort]) _
  have work := pump_work e
  refine ⟨((bus.trans off.bus).trans cleared.bus).trans work.bus, ?_, ?_, ?_, ?_, ?_⟩
  · rw [still, clearedPort, offPort]
  · rw [still, clearedPort, offPort, port]
    exact rx
  · rw [still, clearedPort, offPort, port]
  · rw [work.buffer, clearedOther]
    exact fun x here => (List.mem_filter.mp here).2
  · rw [work.up, clearedOther, offOther]
    exact far.trans (congrArg PortPath.up other)

/-- Settles O14, by the two link changes: one ends what the port was doing, the other is an opportunity of a free port. -/
theorem linkChangesStopAndStartAPort : Obligations.LinkChangesStopAndStartAPort := by
  refine ⟨fun s p ready up => ?_, fun s p ready down => ?_⟩
  · obtain ⟨bus, off, rx, tx, buffer, far⟩ := portDown_leaves up
    have ran : exec (.linkDown p) s = act s (portDown · p) := if_neg (by simp [ready.1])
    exact ⟨_, ran.trans (ready.act (f := (portDown · p)) bus.outside.agenda), bus.outside, off, rx, tx, buffer, far,
      bus.delivered, bus.slots⟩
  · have ran : exec (.linkUp p) s = act s (portUp · p) := if_neg (by simp [ready.1])
    have opens : portUp s p = opportunity (s.setPort p { s.port p with up := true, rx := .idle, tx := .free }) p := by
      simp [portUp, down]
    have on : FrameOnly s (s.setPort p { s.port p with up := true, rx := .idle, tx := .free }) := .setPort _ _ _
    have port := port_setPort_self s p { s.port p with up := true, rx := .idle, tx := .free }
    have other := port_setPort_other s p { s.port p with up := true, rx := .idle, tx := .free }
    have bus : BusWork s (portUp s p) := opens ▸ on.bus.trans (opportunity_bus _ p)
    refine ⟨_, ran.trans (ready.act (f := (portUp · p)) bus.outside.agenda), bus.outside, ?_⟩
    refine ⟨?_, ?_, ?_, bus.delivered, bus.slots, fun waits noUrgent => ?_⟩
    · rw [opens, (opportunity_up _ p p).1, port]
    · rw [opens, (opportunity_up _ p p).2, port]
    · rw [opens, (opportunity_up _ p p.other).1, other]
    · rw [opens]
      generalize s.setPort p { s.port p with up := true, rx := .idle, tx := .free } = w at on port other
      obtain ⟨oldest, phase, quietly, -⟩ := opportunity_sends (s := w) (p := p) (by rw [port]) (by rw [other]; exact waits)
        (fun x serves => noUrgent x ((on.serves p _ x).mp serves))
      refine ⟨other ▸ oldest, phase.trans (phase_of_egress on.egress p), fun quiet => ?_⟩
      obtain ⟨egress, seqs⟩ := quietly (on.quiet (by rw [other]) (by rw [other]) quiet)
      exact ⟨egress.trans on.egress, seqs.trans on.sequences⟩

/-! ## The end of a forwarded frame -/

/-- What is left when a forwarded frame has left, before the port's opportunity: its place is given up, and one still arriving is
cut off (R3, R8). -/
theorem forwardedOver {s : State} {p : Port} (tx : (s.port p).tx = .forwarding) :
    FrameOnly s (transmissionOver (cutOverlong s p) p) ∧
    (transmissionOver (cutOverlong s p) p).port p = { s.port p with tx := .free } ∧
    (transmissionOver (cutOverlong s p) p).port p.other = { s.port p.other with
      rx := if (s.port p.other).buffer.any (fun x => x.sending && x.receiving) then .overlong else (s.port p.other).rx
      buffer := (s.port p.other).buffer.filter fun x => !x.sending } := by
  have arriving : stillArriving s p = (s.port p.other).buffer.any (fun x => x.sending && x.receiving) := by
    simp [stillArriving, tx]
  have cut : FrameOnly s (cutOverlong s p) ∧ (cutOverlong s p).port p = s.port p ∧
      (cutOverlong s p).port p.other = { s.port p.other with
        rx := if (s.port p.other).buffer.any (fun x => x.sending && x.receiving) then .overlong else (s.port p.other).rx } := by
    unfold cutOverlong
    rw [arriving]
    split
    · exact ⟨.setPort _ _ _, port_setPort_of_other _ _ _, port_setPort_self _ _ _⟩
    · exact ⟨.refl s, rfl, rfl⟩
  obtain ⟨only, port, other⟩ := cut
  generalize cutOverlong s p = w at only port other
  have sent : transmissionOver w p = dropSending (w.setTx p .free) p := by
    unfold transmissionOver
    rw [port, tx]
  rw [sent]
  unfold dropSending State.setBuffer State.setTx
  refine ⟨only.trans ((FrameOnly.setPort _ _ _).trans (.setPort _ _ _)), ?_, ?_⟩
  · rw [port_setPort_of_other, port_setPort_self, port]
  · rw [port_setPort_self, port_setPort_other, other]

theorem opportunity_buffer {s : State} {p : Port}
    (kept : (s.port p.other).buffer.any Place.waiting = false ∨ ∃ x : Item, ClassServes s p .urgent x) (q : Port) :
    ((opportunity s p).port q).buffer = (s.port q).buffer := by
  unfold opportunity
  split
  next waits =>
    split
    next offered => rw [(pump_work _).buffer, (offerRestricted_work offered).buffer]
    next refused =>
      exfalso
      obtain ⟨x, serves⟩ := kept.resolve_left (by simp [waits])
      rcases x with i | k
      · rw [← firstOrder_urgent] at serves
        simp [offerRestricted, serves] at refused
      · exact absurd serves.1 nofun
  next => exact (pump_work s).buffer q

/-- An open opportunity of a port that no class has an item for, beside a port that takes nothing at once, changes nothing. -/
theorem opportunity_idle {s : State} {p : Port} (none : (s.port p.other).buffer.any Place.waiting = false)
    (nothing : ∀ (c : QClass) (x : Item), ¬ ClassServes s p c x) (quiet : PortQuiet s p.other) : opportunity s p = s := by
  unfold opportunity
  rw [if_neg (by simp [none])]
  refine pump_of_quiet fun q => ?_
  rcases Port.eq_or_other p q with rfl | rfl
  · exact .inr nothing
  · exact quiet

/-- Settles O21, by the place given up and the opportunity that follows. -/
theorem forwardedEndSendsTheNextFrame : Obligations.ForwardedEndSendsTheNextFrame := by
  intro s p ready up tx
  obtain ⟨only, port, other⟩ := forwardedOver tx
  have opens : transmitOver s p = opportunity (transmissionOver (cutOverlong s p) p) p := by
    simp [transmitOver, tx]
  generalize transmissionOver (cutOverlong s p) p = w at only port other opens
  have bus : BusWork s (transmitOver s p) := opens ▸ only.bus.trans (opportunity_bus w p)
  have serves (c : QClass) (x : Item) : ClassServes w p c x ↔ ClassServes s p c x := only.serves p c x
  have wUp : (w.port p).up = true := by rw [port]; exact up
  have wQuiet : PortQuiet s p.other → PortQuiet w p.other := only.quiet (by rw [other]) (by rw [other])
  refine ⟨_, ready.act (f := (transmitOver · p)) bus.outside.agenda, bus.outside, ?_, ?_, bus.delivered, bus.slots, ?_⟩
  · rintro left rfl
    have left : (w.port p.other).buffer = (s.port p.other).buffer.filter fun x => !x.sending := by rw [other]
    rw [← left, opens]
    have kept (h : (w.port p.other).buffer.any Place.waiting = false ∨ ∃ x : Item, ClassServes s p .urgent x) :
        ((opportunity w p).port p.other).buffer = (w.port p.other).buffer :=
      opportunity_buffer (h.imp_right fun ⟨x, here⟩ => ⟨x, (serves _ x).mpr here⟩) p.other
    have sends (waits : (w.port p.other).buffer.any Place.waiting = true) (noUrgent : NoUrgent s p) :=
      opportunity_sends wUp waits fun x here => noUrgent x ((serves _ x).mp here)
    refine ⟨?_, kept, fun waits noUrgent => ?_⟩
    · by_cases stays : (w.port p.other).buffer.any Place.waiting = false ∨ ∃ x : Item, ClassServes s p .urgent x
      · rw [kept stays]
      · obtain ⟨waits, noUrgent⟩ := not_or.mp stays
        exact (sends (by simpa using waits) fun x here => noUrgent ⟨x, here⟩).2.2.2
    · obtain ⟨oldest, phase, quietly, -⟩ := sends waits noUrgent
      refine ⟨oldest, phase.trans (phase_of_egress only.egress p), fun quiet => ?_⟩
      obtain ⟨egress, seqs⟩ := quietly (wQuiet quiet)
      exact ⟨egress.trans only.egress, seqs.trans only.sequences⟩
  · rw [opens, (opportunity_up w p p.other).2, other]
  · intro none nothing still
    have idle : opportunity w p = w := by
      refine opportunity_idle ?_ (fun c x here => nothing c x ((serves c x).mp here)) (wQuiet still.quiet)
      rw [other]
      simp only [List.any_eq_false, List.mem_filter] at none ⊢
      exact fun x here => none x here.1
    rw [opens, idle]
    exact ⟨by rw [port], only.egress, only.sequences⟩

end Sys2Proof.Machine
end

section
/-! The end of an order's copy (R70, R71, R81): the urgent order that another class's queue would have to hold. -/

namespace Sys2Proof.Machine

/-- URGENT's queue holds slot 0, whose order is of class DISPATCH and owes its second copy to PA. PA ends a forwarded frame; PB is
UP and free, and nothing waits for a queue place. -/
def misfiled : State :=
  (({ State.reset with egress := { State.reset.egress with urgent := [0] } }.setSlot 0 (some {
    target := 7, kind := .opn, value := none, number := 21, owner := .shed, cls := .dispatch, planStep := none,
    pendingPort := some .pa })).setPort .pa { up := true, tx := .forwarding }).setPort .pb { up := true }

/-- The order stays in URGENT's queue after its second copy, owed to no port, and PB takes it a third time. -/
theorem misfiled_taken_again : ((transmitOver misfiled .pa).slot 0).map (·.inTx.has .pb) = some true := by decide

theorem misfiled_still : PortStill misfiled .pb :=
  by
  have nothing : ∀ c : QClass, itemOf misfiled .pb c = none := by
    intro c
    cases c with
    | urgent | dispatch | setpoint | report => decide
  exact .inr ⟨rfl, fun c x serves => by simpa [nothing c] using (itemOf_iff misfiled .pb c x).mpr serves⟩

theorem misfiled_serves : ClassServes misfiled .pa .urgent (.order 0) :=
  (firstOrder_urgent misfiled .pa 0).mp (by decide)

/-- Refutes O20: an order whose class is not that of the queue holding it does not leave the queue with its last copy, so that
the port that took nothing at once takes it too, and the in-transmission set gains both ports. -/
theorem not_copyEndMakesTheOrderSent : ¬ Obligations.CopyEndMakesTheOrderSent := by
  intro claim
  have ready : Ready misfiled := ⟨rfl, rfl⟩
  obtain ⟨-, -, urgent, -⟩ := claim misfiled .pa ready rfl
  obtain ⟨o, here⟩ : ∃ o, misfiled.slot 0 = some o := ⟨_, rfl⟩
  have idle : o.inTx.has .pb = false := by
    have before : (misfiled.slot 0).map (·.inTx.has .pb) = some false := by decide
    simpa [here] using before
  obtain ⟨t, f, ran, -, -, -, -, -, -, -, leaves⟩ := urgent 0 o (by decide) misfiled_serves here (.inr misfiled_still.quiet)
  obtain ⟨-, ⟨st, o', -, -, after, -, -, -, kept, -⟩, -, -, -⟩ := leaves misfiled_still
  have quiet : (transmitOver misfiled .pa).agenda = [] := by decide
  obtain rfl : transmitOver misfiled .pa = t := by
    simpa using (act_quiet (f := (transmitOver · .pa)) ready.1 quiet).symm.trans ran
  have again := misfiled_taken_again
  rw [after, Option.map_some, Option.some.injEq] at again
  exact Bool.noConfusion (again.symm.trans (kept.trans idle))

end Sys2Proof.Machine
end

section
/-! The Order Transactor: the reply deadline of a SENT order (R74), a retried order followed through the queues and the ports. -/

namespace Sys2Proof.Machine

/-! ## A retried attempt under way -/

/-- How far a new attempt of an order has come: it waits to be handed, or a copy has been handed to a port that was free, or a
copy has gone to a port that is DOWN (R2, R70, R74). -/
structure AttemptStands (s t : State) (i : SlotNo) (o o' : Order) : Prop where
  content : o'.content = o.content
  unsent  : o'.state ≠ .sent → o'.deadline = none
  sent    : o'.state = .sent → o'.deadline = some (s.later s.settings.replyTime) ∧ ∃ p : Port, (s.port p).up = false
  fresh   : o'.stamp = none → o'.state ≠ .sent ∧ (o.cls ≠ .report → i ∈ t.orders.waiting ∨ i ∈ t.queue o.cls)
  handed  : o'.stamp ≠ none → i ∉ t.orders.waiting ∧ (o'.state = .sent ∨ ∃ (p : Port) (f : OutFrame),
    (t.port p).up = true ∧ (s.port p).tx = .free ∧ (t.port p).tx = .order i f ∧
      f.payload = .order o.number o.kind (o.value.getD 0))

/-- A state that the grants after a retry pass through. -/
structure Attempted (s : State) (i : SlotNo) (o : Order) (t : State) : Prop where
  now      : t.now = s.now
  service  : t.service = s.service
  up       : ∀ p : Port, (t.port p).up = (s.port p).up
  free     : ∀ p : Port, (t.port p).tx = .free → (s.port p).tx = .free
  single   : i ∈ t.orders.waiting → ∀ c : QClass, i ∉ t.queue c
  stands   : ∃ o' : Order, t.slot i = some o' ∧ AttemptStands s t i o o'

variable {s t u : State} {i j : SlotNo} {o x : Order} {p : Port}

/-- What moves other orders and transmits nothing over a busy port leaves the attempt where it was. -/
theorem Attempted.of_same (h : Attempted s i o t) (now : u.now = t.now) (service : u.service = t.service)
    (up : ∀ p : Port, (u.port p).up = (t.port p).up)
    (busy : ∀ p : Port, PortBusy t p ∨ (u.port p).tx = .free → (u.port p).tx = (t.port p).tx) (slot : u.slot i = t.slot i)
    (waiting : i ∈ u.orders.waiting ↔ i ∈ t.orders.waiting) (queue : ∀ c : QClass, i ∈ u.queue c ↔ i ∈ t.queue c) :
    Attempted s i o u := by
  obtain ⟨o', there, stands⟩ := h.stands
  refine ⟨now.trans h.now, service.trans h.service, fun p => (up p).trans (h.up p), fun p free => ?_,
    fun waits c queued => h.single (waiting.mp waits) c ((queue c).mp queued), o', slot.trans there, ?_⟩
  · exact h.free p ((busy p (.inr free)).symm.trans free)
  · refine ⟨stands.content, stands.unsent, stands.sent, fun none => ?_, fun some => ?_⟩
    · rw [waiting, queue]
      exact stands.fresh none
    · rw [waiting]
      refine (stands.handed some).imp_right (Or.imp_right ?_)
      rintro ⟨p, f, on, free, tx, payload⟩
      exact ⟨p, f, (up p).trans on, free, (busy p (.inl ⟨on, by rw [tx]; nofun⟩)).trans tx, payload⟩

/-- A waiting slot that moves up keeps the attempt (R69). -/
theorem Attempted.move (h : Attempted s i o t) (there : t.slot j = some x) (waits : j ∈ t.orders.waiting) : Attempted s i o
    (joinQueue { t with orders := { t.orders with waiting := t.orders.waiting.filter (· != j) } } j x) := by
  generalize left : ({ t with orders := { t.orders with waiting := t.orders.waiting.filter (· != j) } } : State) = w
  have now : (joinQueue w j x).now = t.now := by simp [joinQueue, ← left]
  have service : (joinQueue w j x).service = t.service := by simp [joinQueue, ← left]
  have port (p : Port) : (joinQueue w j x).port p = t.port p := (joinQueue_port w j x p).trans (by rw [← left]; cases p <;> rfl)
  have waiting : (joinQueue w j x).orders.waiting = t.orders.waiting.filter (· != j) := by rw [joinQueue_waiting, ← left]
  have queue (c : QClass) : (joinQueue w j x).queue c = if c = x.cls ∧ x.cls ≠ .report then t.queue c ++ [j] else t.queue c := by
    rw [joinQueue_queue, ← left]
    rfl
  have slot (k : SlotNo) : (joinQueue w j x).slot k =
      if k = j then some { x with state := .queued, deadline := none } else t.slot k := by
    rw [joinQueue_slot, ← left]
    rfl
  by_cases same : j = i
  · subst same
    obtain ⟨o', here, stands⟩ := h.stands
    obtain rfl : o' = x := Option.some.inj (here.symm.trans there)
    have fresh : o'.stamp = none := Classical.byContradiction fun some => (stands.handed some).1 waits
    have cls : o'.cls = o.cls := by
      have same := stands.content
      simp only [Order.content, Prod.mk.injEq] at same
      exact same.2.2.2.2.2.1
    refine ⟨now.trans h.now, service.trans h.service, fun p => by rw [port, h.up], fun p => by rw [port]; exact h.free p,
      fun still => absurd still (by simp [waiting]), _, (slot j).trans (if_pos rfl), stands.content, fun _ => rfl, nofun,
      fun _ => ⟨nofun, fun real => .inr ?_⟩, fun some => absurd fresh some⟩
    rw [queue, if_pos ⟨cls.symm, cls ▸ real⟩]
    simp
  · refine h.of_same now service (fun p => by rw [port]) (fun p _ => by rw [port])
      ((slot i).trans (if_neg (Ne.symm same))) (by simp [waiting, Ne.symm same]) fun c => ?_
    rw [queue]
    split
    · simp [Ne.symm same]
    · rfl

theorem Attempted.refill (h : Attempted s i o t) : Attempted s i o (Machine.refill t) :=
  refill_keeps (P := Attempted s i o) (fun _ _ _ there waits h => h.move there waits) h

theorem portOpen_free (open_ : portOpen t p = true) (up : (t.port p).up = true) : (t.port p).tx = .free := by
  simpa [portOpen, up] using open_

/-- An order handed to a port keeps the attempt (R2, R70). -/
theorem Attempted.hand (h : Attempted s i o t) (open_ : portOpen t p = true) (there : t.slot j = some x)
    (queued : ∃ c : QClass, j ∈ t.queue c) : Attempted s i o (handOrder t p j) := by
  have work := (handOrder_work t p j).outside
  rw [handOrder_eq there] at work ⊢
  refine Attempted.refill ?_
  have moved := (refill_work (handedTo t p j x)).outside
  have now : (handedTo t p j x).now = t.now := moved.now.symm.trans work.now
  have service : (handedTo t p j x).service = t.service := moved.service.symm.trans work.service
  have taken := handedTo_taken t p j x
  have other (q : Port) (far : q ≠ p) : (handedTo t p j x).port q = t.port q := by
    obtain rfl := (Port.eq_or_other p q).resolve_left far
    exact taken.other
  have here : (handedTo t p j x).port p = t.port p ∨ (t.port p).tx = .free ∧
      (handedTo t p j x).port p = { t.port p with tx := .order j (orderFrame t x (nextStamp t x)) } := by
    cases on : (t.port p).up with
    | true => exact .inr ⟨portOpen_free open_ on, (taken.up on).2⟩
    | false => exact .inl (taken.down on).1
  have up (q : Port) : ((handedTo t p j x).port q).up = (t.port q).up := by
    by_cases far : q = p
    · subst far
      rcases here with same | ⟨-, sends⟩
      · rw [same]
      · rw [sends]
    · rw [other q far]
  have busy (q : Port) (h : PortBusy t q ∨ ((handedTo t p j x).port q).tx = .free) :
      ((handedTo t p j x).port q).tx = (t.port q).tx := by
    by_cases far : q = p
    · subst far
      rcases here with same | ⟨free, sends⟩
      · rw [same]
      · rw [sends] at h ⊢
        exact absurd h (not_or.mpr ⟨fun busy => busy.2 free, nofun⟩)
    · rw [other q far]
  by_cases same : j = i
  · subst same
    obtain ⟨o', stood, stands⟩ := h.stands
    obtain rfl : o' = x := Option.some.inj (stood.symm.trans there)
    obtain ⟨c, queued⟩ := queued
    have unlined : j ∉ t.orders.waiting := fun waits => h.single waits c queued
    have later : t.later t.settings.replyTime = s.later s.settings.replyTime := by
      simp [State.later, State.settings, h.now, h.service]
    have unlined' : j ∉ (handedTo t p j o').orders.waiting := by rw [taken.waiting]; exact unlined
    refine ⟨now.trans h.now, service.trans h.service, fun q => (up q).trans (h.up q),
      fun q free => h.free q ((busy q (.inr free)).symm.trans free), fun waits => absurd waits unlined', ?_⟩
    cases on : (t.port p).up with
    | true =>
      obtain ⟨now_, port⟩ := taken.up on
      refine ⟨_, now_, stands.content, stands.unsent, stands.sent, nofun, fun _ => ⟨unlined', .inr ⟨p, _, ?_,
        h.free p (portOpen_free open_ on), congrArg PortPath.tx port, ?_⟩⟩⟩
      · rw [port, on]
      · have same := stands.content
        simp only [Order.content, Prod.mk.injEq] at same
        obtain ⟨-, kind, value, number, -⟩ := same
        simp [orderFrame, number, kind, value]
    | false =>
      obtain ⟨-, now_⟩ := taken.down on
      refine ⟨_, now_, stands.content, fun other => absurd rfl other, fun _ => ⟨?_, p, (h.up p).symm.trans on⟩, nofun,
        fun _ => ⟨unlined', .inl rfl⟩⟩
      rw [later]
      show (if o'.state = .sent then o'.deadline else _) = _
      split
      next already => exact (stands.sent already).1
      next => rfl
  · refine h.of_same now service up busy (taken.others i (Ne.symm same)) (by rw [taken.waiting]) fun c => ?_
    rw [taken.queue]
    split
    · simp [Ne.symm same]
    · rfl

theorem Attempted.report (h : Attempted s i o t) (open_ : portOpen t p = true) {k : Nat} {r : ReportItem}
    (there : t.egress.report[k]? = some r) : Attempted s i o (handReport t p k) := by
  have taken := handReport_taken (p := p) there
  have work := (handReport_work t p k)
  refine h.of_same work.outside.now work.outside.service work.up (fun q sends => ?_)
    (slot_of_slots (congrArg Transactor.slots taken.orders) i) (by rw [taken.orders]) fun c => by rw [taken.queue]
  rcases Port.eq_or_other p q with rfl | rfl
  · cases on : (t.port q).up with
    | true =>
      rw [taken.up on] at sends ⊢
      exact absurd sends (not_or.mpr ⟨fun busy => busy.2 (portOpen_free open_ on), nofun⟩)
    | false => rw [taken.down on]
  · rw [taken.other]

theorem Attempted.pointer (h : Attempted s i o t) (k : Fin 16) : Attempted s i o (t.setPhase p k) := by
  refine h.of_same ?_ ?_ (fun q => by rw [setPhase_port]) (fun q _ => by rw [setPhase_port]) (setPhase_slot t p k i) ?_ fun c => ?_
  · cases p <;> rfl
  · cases p <;> rfl
  · cases p <;> rfl
  · cases p <;> cases c <;> rfl

theorem mem_queue_of_item {c : QClass} (found : itemOf t p c = some (.order j)) : ∃ c : QClass, j ∈ t.queue c := by
  obtain ⟨-, -, before, later, queue, -⟩ := (itemOf_iff t p c _).mp found
  exact ⟨c, by simp [queue]⟩

/-- An open opportunity keeps the attempt. -/
theorem Attempted.offer (h : Attempted s i o t) (open_ : portOpen t p = true) (offered : offerOpen t p = some u) :
    Attempted s i o u := by
  rcases offerOpen_cases offered with ⟨j, found, rfl⟩ | ⟨y, k, c, -, found, rfl⟩
  · have item : itemOf t p .urgent = some (.order j) := by simp [itemOf, found]
    obtain ⟨x, there⟩ := itemOf_there item
    exact h.hand open_ there (mem_queue_of_item item)
  · have still : portOpen (t.setPhase p k) p = true := by
      unfold portOpen at open_ ⊢
      rwa [setPhase_port]
    have entry := itemOf_there found
    cases y with
    | order j =>
      obtain ⟨x, there⟩ := entry
      obtain ⟨d, queued⟩ := mem_queue_of_item found
      refine (h.pointer k).hand still ((setPhase_slot t p k j).trans there) ⟨d, ?_⟩
      cases p <;> cases d <;> exact queued
    | report n =>
      obtain ⟨r, there⟩ := entry
      exact (h.pointer k).report still (by rw [setPhase_report]; exact there)

theorem Attempted.pump (h : Attempted s i o t) : Attempted s i o (Machine.pump t) :=
  pumpN_keeps (P := Attempted s i o) (fun _ _ _ open_ offered h => h.offer open_ offered) _ h

theorem Attempted.pressure (h : Attempted s i o t) (before : State) : Attempted s i o (pressureRise before t) := by
  obtain ⟨orders, frame, queue⟩ := pressureRise_keeps before t
  have work := (pressureRise_work before t).outside
  have port (p : Port) : (pressureRise before t).port p = t.port p := by
    unfold State.port
    rw [frame]
  exact h.of_same work.now work.service (fun p => by rw [port]) (fun p _ => by rw [port])
    (slot_of_slots (congrArg Transactor.slots orders) i) (by rw [orders]) fun c => by rw [queue]

/-! ## The retry -/

/-- An order that has just joined its queue or the waiting line, in no other queue, begins its attempt. -/
theorem attempted_of_enqueue (now : t.now = s.now) (service : t.service = s.service) (up : ∀ p, (t.port p).up = (s.port p).up)
    (free : ∀ p, (t.port p).tx = .free → (s.port p).tx = .free) (unlined : i ∉ t.orders.waiting)
    (unqueued : ∀ c : QClass, i ∉ t.queue c) (fresh : o.stamp = none) : Attempted s i o (enqueue t i o) := by
  unfold enqueue
  split
  · refine Attempted.pump (Attempted.pressure (t := joinQueue t i o) ?_ _)
    refine ⟨?_, ?_, fun p => by rw [joinQueue_port, up], fun p => by rw [joinQueue_port]; exact free p,
      fun waits => absurd waits (by rw [joinQueue_waiting]; exact unlined), _, (joinQueue_slot t i i o).trans (if_pos rfl), rfl,
      fun _ => rfl, nofun, fun _ => ⟨nofun, fun real => .inr ?_⟩, fun some => absurd fresh some⟩
    · simp [joinQueue, now]
    · simp [joinQueue, service]
    · rw [joinQueue_queue, if_pos ⟨rfl, real⟩]
      simp
  · refine Attempted.pump ⟨now, service, fun p => ?_, fun p => ?_, fun _ c => ?_, _, slot_setSlot_self t i _, rfl, fun _ => rfl,
      nofun, fun _ => ⟨nofun, fun _ => .inl (by simp)⟩, fun some => absurd fresh some⟩
    · rw [← up p]
      cases p <;> rfl
    · refine fun off => free p ?_
      cases p <;> exact off
    · have here := unqueued c
      cases c <;> exact here

/-- A slot taken out of the queues and the waiting line stays out while waiting slots move up. -/
structure Unlined (s : State) (i : SlotNo) (t : State) : Prop where
  port    : ∀ p : Port, t.port p = s.port p
  waiting : i ∉ t.orders.waiting
  queues  : ∀ c : QClass, i ∉ t.queue c

theorem Unlined.refill (h : Unlined s i t) : Unlined s i (Machine.refill t) := by
  refine refill_keeps (P := Unlined s i) ?_ h
  intro t j x _ waits h
  have apart : i ≠ j := fun same => h.waiting (same ▸ waits)
  refine ⟨fun p => (joinQueue_port _ j x p).trans (by rw [← h.port p]; cases p <;> rfl), ?_, fun c => ?_⟩
  · rw [joinQueue_waiting]
    exact fun still => h.waiting (List.mem_of_mem_filter still)
  · have out := h.queues c
    rw [joinQueue_queue]
    split
    · refine fun still => (List.mem_append.mp still).elim (fun old => out ?_) (fun new => apart (List.mem_singleton.mp new))
      cases c <;> exact old
    · cases c <;> exact out

/-- The order as its next attempt begins (R74). -/
def nextAttempt (o : Order) : Order :=
  { o with attempt := o.attempt + 1, state := .waitingRetry, pendingPort := none, deadline := none, stamp := none }

theorem SameOutsidePorts.record (h : SameOutsidePorts s t) : SameOutsideRecord s t := { h with }

/-- What a retry leaves: the attempt under way, every other slot's order, and all outside the bus and the log (R74). -/
theorem retryOrder_attempts (s : State) (i : SlotNo) (o : Order) : Attempted s i (nextAttempt o) (retryOrder s i o) ∧
    SameOutsideRecord s (retryOrder s i o) ∧ (retryOrder s i o).orders.counters = s.orders.counters ∧
    ∀ j : SlotNo, j ≠ i → ((retryOrder s i o).slot j).map Order.content = (s.slot j).map Order.content := by
  have out : Unlined s i ((s.dequeue i).setSlot i (some (nextAttempt o))) := by
    refine ⟨fun p => by cases p <;> rfl, ?_, fun c => ?_⟩
    · simp [State.dequeue]
    · cases c <;> simp [State.dequeue, State.queue]
  have unfolded : retryOrder s i o =
      enqueue (Machine.refill ((s.dequeue i).setSlot i (some (nextAttempt o)))) i (nextAttempt o) := rfl
  have refilled := refill_work ((s.dequeue i).setSlot i (some (nextAttempt o)))
  have started := out.refill
  rw [unfolded]
  generalize Machine.refill ((s.dequeue i).setSlot i (some (nextAttempt o))) = w at refilled started
  have joins := enqueue_work w i (nextAttempt o)
  refine ⟨attempted_of_enqueue refilled.outside.now refilled.outside.service (fun p => by rw [started.port])
    (fun p => by rw [started.port]; exact id) started.waiting started.queues rfl, ?_, ?_, fun j other => ?_⟩
  · exact (SameOutsideRecord.trans (by constructor <;> rfl) refilled.outside.record).trans
      (SameOutsideRecord.trans (by constructor <;> rfl) joins.outside)
  · exact joins.counters.trans refilled.counters
  · refine (joins.slots j).trans ?_
    rw [slot_setSlot_ne other]
    exact (refilled.slots j).trans (by rw [slot_setSlot_ne other]; rfl)

theorem finalTimeout_cases (there : s.slot i = some o) (sent : o.state = .sent) (due : dueAt s.now o.deadline = true) :
    replyExpiry s i = if o.attempt ≤ s.settings.retryLimit ∧ (s.mode = .active ∨ s.mode = .restore)
      then retryOrder s i o else finalTimeout s i o := by
  have orders : s.mode.orders = true ↔ s.mode = .active ∨ s.mode = .restore := by cases s.mode <;> simp [Mode.orders]
  unfold replyExpiry
  simp only [there, sent, due, beq_self_eq_true, Bool.and_self, if_true, Bool.and_eq_true, decide_eq_true_eq, orders]

/-- Settles O42, by the attempt followed through the queues, and by the end of an order on a state that has recorded it. -/
theorem replyTimeoutRetriesOrEnds : Obligations.ReplyTimeoutRetriesOrEnds := by
  intro s i o d ready there sent deadline reached_
  have expires := finalTimeout_cases there sent (by rw [deadline]; exact reached_)
  have runs : exec (.replyTimeout i) s = act s (replyExpiry · i) := rfl
  refine ⟨fun again => ?_, fun over_ => ?_⟩
  · rw [if_pos again] at expires
    obtain ⟨attempt, outside, counters, others⟩ := retryOrder_attempts s i o
    obtain ⟨o', now, stands⟩ := attempt.stands
    refine ⟨_, o', exec_due ready runs expires outside.agenda, now, stands.content, stands.unsent, stands.sent,
      fun real none => (stands.fresh none).2 real, fun some => ?_, others, outside.units, outside.service, outside.shed,
      outside.seqr, outside.tracker, counters⟩
    refine (stands.handed some).2.imp_right ?_
    rintro ⟨p, f, -, free, tx, payload⟩
    exact ⟨p, f, free, tx, payload⟩
  · rw [if_neg ?_] at expires
    · have recorded := record_work s .orderTimedOut (some o.target) (some (o.attempt : Int)) (some (orderCode o.kind))
      have log (room : logOpen s) := record_log room .orderTimedOut (some o.target) (some (o.attempt : Int))
        (some (orderCode o.kind))
      have ends : finalTimeout s i o = endOrder (rise (record s .orderTimedOut (some o.target) (some (o.attempt : Int))
        (some (orderCode o.kind))) .unitUnreachable) i o .timedOut := rfl
      generalize record s .orderTimedOut (some o.target) (some (o.attempt : Int)) (some (orderCode o.kind)) = w
        at recorded log ends
      have latched := rise_latched w .unitUnreachable
      have rises := rise_work w .unitUnreachable
      obtain ⟨ended, events⟩ := orderEnded_of_work (recorded.trans rises) ready.2 i o .timedOut
      obtain ⟨units, service, shed, seqr, tracker⟩ := ended.same
      obtain ⟨jobs, perm, agenda⟩ := ended.handed
      rw [ends] at expires
      refine ⟨_, jobs, ?_, perm, ended.slot, ended.others, units, service, shed, seqr, tracker, ?_, endReceivers_takers s o,
        agenda, fun room => ?_⟩
      · refine runs.trans ((act_running ready.1 (replyExpiry · i)).trans ?_)
        rw [expires]
      · simpa [State.isLatched, events] using latched
      · rw [events]
        exact rises.log _ _ (log room)
    · rintro ⟨within, mode⟩
      rcases over_ with spent | halted | observe
      · omega
      · simp [halted] at mode
      · simp [observe] at mode

end Sys2Proof.Machine
end

section
/-! The Service Unit: delivered requests (R185 to R187), and the requests that change nothing (R180, R188, R190). -/

namespace Sys2Proof.Machine

/-! ## A delivered request -/

theorem sourceTaken_iff (a : Access) (src : Addr) : sourceTaken a src = true ↔
    (a.primaryController = none ∧ a.backupController = none) ∨ a.primaryController = some src ∨
      a.backupController = some src := by
  simp [sourceTaken, or_assoc]

theorem noteSides_eq (s : State) (r : Request) : noteSides s r = { s with events := { s.events with
    primarySide := if s.access.primaryController = some r.src then some r.port else s.events.primarySide
    backupSide := if s.access.backupController = some r.src then some r.port else s.events.backupSide } } := by
  simp [noteSides]

/-- Settles O50, by the source filter and the room of the two queues. -/
theorem requestsAreTakenOrTurnedAway : Obligations.RequestsAreTakenOrTurnedAway := by
  intro s r ready
  have runs : exec (.serviceRequest r) s = act s fun s => takeRequest (takeDelivery s (.request r)) r := rfl
  refine ⟨fun written primary backup => ?_, fun taken => ⟨_, rfl, ?_⟩⟩
  · have dropped : takeRequest (takeDelivery s (.request r)) r = takeDelivery s (.request r) := by
      have filtered : sourceTaken s.access r.src = false := by
        rw [Bool.eq_false_iff, Ne, sourceTaken_iff]
        rintro (⟨first, second⟩ | first | second)
        · exact written.elim (· first) (· second)
        · exact primary first
        · exact backup second
      have filtered' : sourceTaken (takeDelivery s (.request r)).access r.src = false := filtered
      simp [takeRequest, filtered']
    exact exec_due ready runs dropped rfl
  · have noted := noteSides_eq (takeDelivery s (.request r)) r
    have passed : sourceTaken (takeDelivery s (.request r)).access r.src = true := (sourceTaken_iff _ _).mpr taken
    have unfolded : takeRequest (takeDelivery s (.request r)) r =
        let u := noteSides (takeDelivery s (.request r)) r
        if s.service.queue.length < 16 then { u with service := { u.service with queue := u.service.queue ++ [r] } }
        else if 0 < reportFree s then joinReport u (responseTo r .busy .nothing) else u := by
      simp only [takeRequest, passed]
      rfl
    rw [noted] at unfolded
    refine ⟨fun room => ?_, fun full free place => ?_, fun full none => ?_⟩
    · exact exec_due ready runs (unfolded.trans (if_pos room)) rfl
    · have spare : 0 < reportFree s := by
        simp only [reportFree, free, Config.depth]
        simp only [Bool.false_eq_true, if_false]
        omega
      refine exec_due ready runs (unfolded.trans ?_) (joinReport_agenda _ _)
      exact (if_neg (by omega)).trans (if_pos spare)
    · have spare : ¬ 0 < reportFree s := by
        simp only [reportFree, Config.depth]
        omega
      refine exec_due ready runs (unfolded.trans ?_) rfl
      exact (if_neg (by omega)).trans (if_neg spare)

/-! ## Requests that change nothing -/

variable {s : State} {r : Request} {rest : List Request}

/-- A request whose handler leaves the state it was given is answered on the state with the queue's rest. -/
theorem answered_of_unchanged (head : HeadIs s r rest) {wanted : Request → Bool} (takes : wanted r = true)
    {handler : State → Request → Served} {status : Status} {result : Result}
    (served : handler (holdPlace (popRequest s rest) true) r = ⟨holdPlace (popRequest s rest) true, status, result⟩)
    {i : Instr} (runs : exec i s = act s fun s => serve s wanted handler) :
    Answered i s (popRequest s rest) r status result :=
  runs.trans (act_serve_answered head takes served head.ready.2 head.held)

theorem isKind_iff (n : Nat) (r : Request) : isKind n r = true ↔ r.kind.toNat = n ∧ argsFit r.kind r.args = true := by
  simp [isKind]

/-! ### READ RECORD -/

theorem tableRange_of_mem {table low high : Nat} (listed : (table, low, high) ∈ tableIndexes) :
    tableRange table = some (low, high) := by
  simp only [tableIndexes, List.mem_cons, Prod.mk.injEq, List.not_mem_nil, or_false] at listed
  rcases listed with ⟨rfl, rfl, rfl⟩ | ⟨rfl, rfl, rfl⟩ | ⟨rfl, rfl, rfl⟩ | ⟨rfl, rfl, rfl⟩ | ⟨rfl, rfl, rfl⟩ |
    ⟨rfl, rfl, rfl⟩ | ⟨rfl, rfl, rfl⟩ <;> rfl

theorem tableRange_of_absent {table : Nat} (absent : table = 0 ∨ 7 < table) : tableRange table = none := by
  unfold tableRange
  split
  case h_8 => rfl
  all_goals omega

/-- The record that a table returns at an index is that of the table's rule (R190). -/
theorem viewOf_shows (s : State) (table index : Nat) : Shows s table index (viewOf s table index) where
  unit u := by
    rintro rfl rfl
    simp [viewOf, unitView, unitShown, UnitRec.asRead, UnitRec.linkAddr]
  planStep k := by
    rintro rfl rfl
    simp [viewOf, planView]
  stage n := by
    rintro rfl rfl
    simp [viewOf]
  route k := by
    rintro rfl rfl
    simp [viewOf, routeView]
  phase k := by
    rintro rfl rfl
    simp [viewOf]
  settings := by
    rintro rfl
    rfl
  access := by
    rintro rfl
    rfl

theorem serveRead_answered (head : HeadIs s r rest) {table first count : Nat} (kind : r.kind = 2)
    (args : r.args = .read table first count) {status : Status} {result : Result}
    (served : serveRead (holdPlace (popRequest s rest) true) r = ⟨holdPlace (popRequest s rest) true, status, result⟩) :
    Answered .readRecord s (popRequest s rest) r status result :=
  answered_of_unchanged head ((isKind_iff 2 r).mpr ⟨by rw [kind]; rfl, by rw [kind, args]; rfl⟩) served rfl

theorem serveRead_of_range {table first count low high : Nat} (args : r.args = .read table first count)
    (some_ : 1 ≤ count) (few : count ≤ 8) (range : tableRange table = some (low, high)) :
    serveRead s r = if first < low ∨ high < first then refusal s .badIndex
      else ⟨s, .done, .records ((List.range (min count (high + 1 - first))).map fun k => viewOf s table (first + k))⟩ := by
  have counted : (decide (count = 0) || decide (8 < count)) = false := by simp; omega
  simp only [serveRead, args, counted, range, Bool.false_eq_true, if_false, Bool.or_eq_true, decide_eq_true_eq]

/-! ### READ STATE -/

theorem levelOf_is (depth n : Nat) (deep : 2 ≤ depth) : LevelIs depth n (levelOf depth n) := by
  unfold levelOf
  constructor <;> intro h
  · rw [if_pos (by omega)]
  · rw [if_neg (by omega), if_pos (by omega)]
  · rw [if_neg (by omega), if_neg (by omega), if_pos (by omega)]
  · rw [if_neg (by omega), if_neg (by omega), if_neg (by omega)]

theorem pressed_iff (s : State) (c : QClass) : s.pressed c = true ↔ Config.depth c ≤ s.fill c + 1 := by
  have deep : 2 < Config.depth c := by cases c <;> decide
  unfold State.pressed State.level levelOf
  split
  · simp; omega
  · split
    · simp; omega
    · split
      · simp; omega
      · simp; omega

theorem queuePressure_iff (s : State) : queuePressure s = true ↔ 7 ≤ s.egress.urgent.length ∨
    7 ≤ s.egress.dispatch.length ∨ 15 ≤ s.egress.setpoint.length ∨ 15 ≤ s.egress.report.length := by
  simp only [queuePressure, Bool.or_eq_true, pressed_iff, Config.depth, State.fill, State.queue, or_assoc]
  omega

theorem referenceStale_iff (s : State) : referenceStale s = true ↔ ∃ u : UnitNo, s.settings.reference = some u ∧
    (s.unit u).kind = .meter ∧ (s.unit u).live.freshness = .stale := by
  unfold referenceStale
  cases s.settings.reference <;> simp

/-- The held cause of each condition is that of its rule. -/
theorem heldCause_shown (s : State) (c : Condition) : CauseShown s c (heldCause s c) where
  primaryLost := by
    rintro rfl
    simp [heldCause, beq_eq_decide]
  freeRun := by
    rintro rfl
    simp [heldCause, beq_eq_decide]
  reference := by
    rintro rfl
    exact ⟨_, rfl, referenceStale_iff s⟩
  pressure := by
    rintro rfl
    exact ⟨_, rfl, queuePressure_iff s⟩
  shortfall := by
    rintro rfl
    rfl
  momentary lost run stale pressed short := by
    unfold heldCause
    split
    case h_6 => rfl
    all_goals contradiction

theorem logStatus_shown (s : State) : LogShown s (logStatus s) where
  pending := rfl
  empty := (find?_logFrom_eq_none (p := fun i => (s.events.log.get i).isSome)).trans (forall_congr' fun i => by simp)
  first w found := by
    obtain ⟨here, before⟩ := (find?_logFrom_eq_some (p := fun i => (s.events.log.get i).isSome)).mp found
    exact ⟨Option.ne_none_iff_isSome.mpr here, fun k less => by simpa using before k less⟩
  writeIndex := rfl
  overflow := rfl

theorem queueStatus_shown (s : State) : QueuesShown s (queueStatus s) where
  urgent := ⟨rfl, levelOf_is 8 _ (by decide)⟩
  dispatch := ⟨rfl, levelOf_is 8 _ (by decide)⟩
  setpoint := ⟨rfl, levelOf_is 16 _ (by decide)⟩
  report := ⟨rfl, levelOf_is 16 _ (by decide)⟩
  occupied := rfl
  nonUrgent := rfl
  waiting := rfl

theorem allConditions_get (c : Condition) : allConditions[c.code]? = some c := by
  cases c <;> rfl

/-- Every part of READ STATE is as it stands. -/
theorem stateView_shown (s : State) : StateShown s (stateView s) where
  balance := rfl
  mode := rfl
  epoch := rfl
  conditions := by
    refine ⟨rfl, fun c x here => ?_⟩
    obtain rfl : conditionView s c = x := by simpa [stateView, allConditions_get] using here
    exact ⟨rfl, rfl, heldCause_shown s c⟩
  log := logStatus_shown s
  queues := queueStatus_shown s
  commit := rfl
  stack := rfl
  pending := rfl
  timers := ⟨by simp [stateView], fun n => by simp [stateView, Vector.get]⟩
  rocof := rfl
  planLimit := rfl
  lastShortfall := rfl
  progress := rfl
  detector := ⟨rfl, rfl⟩
  codes := rfl

/-! ### READ EVENTS and unknown requests -/

theorem slotNumbers_of_small {ns : List Nat} (small : ∀ n ∈ ns, n < 32) :
    slotNumbers ns = some (ns.map (Fin.ofNat 32)) := by
  induction ns with
  | nil => rfl
  | cons n ns ih =>
    have here : n < 32 := small n (by simp)
    have ofNat : Fin.ofNat 32 n = ⟨n, here⟩ := Fin.ext (Nat.mod_eq_of_lt here)
    rw [slotNumbers, dif_pos here, ih fun m listed => small m (by simp [listed]), List.map_cons, ofNat]
    rfl

theorem slotNumbers_of_large {ns : List Nat} (large : ∃ n ∈ ns, 32 ≤ n) : slotNumbers ns = none := by
  induction ns with
  | nil => simp at large
  | cons n ns ih =>
    unfold slotNumbers
    split
    next here =>
      obtain ⟨m, listed, big⟩ := large
      have behind : m ∈ ns := (List.mem_cons.mp listed).resolve_left (by omega)
      simp [ih ⟨m, behind, big⟩]
    next => rfl

/-- Settles O52, request by request. -/
theorem readsChangeNothing : Obligations.ReadsChangeNothing := by
  intro s r rest head
  refine ⟨fun table first count kind args some_ few => ⟨fun low high listed => ⟨fun above below => ?_, fun outside => ?_⟩,
    fun absent => ?_⟩, fun table first count kind args counts => ?_, fun kind args => ?_, fun ns kind args some_ few =>
    ⟨fun small => ?_, fun large => ?_⟩, fun unfit => ?_⟩
  · refine ⟨(List.range (min count (high + 1 - first))).map fun k => viewOf s table (first + k), ?_, by simp, fun k v here => ?_⟩
    · exact serveRead_answered head kind args
        ((serveRead_of_range args some_ few (tableRange_of_mem listed)).trans (if_neg (by omega)))
    · rw [List.getElem?_map, Option.map_eq_some_iff] at here
      obtain ⟨j, at_k, rfl⟩ := here
      obtain ⟨-, rfl⟩ := List.getElem?_eq_some_iff.mp at_k
      rw [List.getElem_range]
      exact viewOf_shows s table (first + k)
  · exact serveRead_answered head kind args
      ((serveRead_of_range args some_ few (tableRange_of_mem listed)).trans (if_pos outside))
  · refine serveRead_answered head kind args ?_
    have counted : (decide (count = 0) || decide (8 < count)) = false := by simp; omega
    simp only [serveRead, args, counted, tableRange_of_absent absent]
    rfl
  · refine serveRead_answered head kind args ?_
    have counted : (decide (count = 0) || decide (8 < count)) = true := by simpa using counts
    simp only [serveRead, args, counted]
    rfl
  · refine ⟨stateView s, ?_, stateView_shown s⟩
    exact answered_of_unchanged head ((isKind_iff 3 r).mpr ⟨by rw [kind]; rfl, by rw [kind, args]; rfl⟩)
      (handler := serveState) rfl rfl
  · have fits : isKind 4 r = true := (isKind_iff 4 r).mpr ⟨by rw [kind]; rfl, by rw [kind, args]; simp [argsFit, some_, few]⟩
    refine answered_of_unchanged head fits (handler := serveReadEvents) ?_ rfl
    simp [serveReadEvents, args, slotNumbers_of_small small]
  · have fits : isKind 4 r = true := (isKind_iff 4 r).mpr ⟨by rw [kind]; rfl, by rw [kind, args]; simp [argsFit, some_, few]⟩
    refine answered_of_unchanged head fits (handler := serveReadEvents) ?_ rfl
    simp [serveReadEvents, args, slotNumbers_of_large large, refusal]
  · exact answered_of_unchanged head (wanted := fun r => !argsFit r.kind r.args) (by simp [unfit]) (handler := serveUnknown) rfl rfl

end Sys2Proof.Machine
end

section
/-! The Service Unit: ACK EVENTS (R182, R185) and CLEAR CONDITIONS (R178). -/

namespace Sys2Proof.Machine

/-! ## ACK EVENTS -/

theorem emptySlots_get (s : State) (l : List LogNo) (i : LogNo) :
    (emptySlots s l).events.log.get i = if i ∈ l then none else s.events.log.get i := by
  have main (l : List LogNo) (log : Vector (Option EventRec) 32) :
      (l.foldl (fun l (i : LogNo) => l.set i none) log).get i = if i ∈ l then none else log.get i := by
    induction l generalizing log with
    | nil => simp
    | cons j l ih =>
      rw [List.foldl_cons, ih]
      by_cases same : i = j
      · subst same
        simp [Vector.get_eq_getElem]
      · have apart : j.val ≠ i.val := fun e => same (Fin.ext e.symm)
        simp [Vector.get_eq_getElem, same, Vector.getElem_set_ne _ _ apart]
  exact main l s.events.log

theorem groupPending_iff (s : State) (g : Fin 8) : groupPending s g = true ↔
    ∃ (i : LogNo) (e : EventRec), s.events.log.get i = some e ∧ (s.events.routing.get e.kind.index).group = g := by
  unfold groupPending
  simp [List.any_eq_true, Option.any_eq_true]

theorem judgeGroups_get (s : State) (g : Fin 8) : (judgeGroups s).events.groups.get g = true ↔
    s.events.groups.get g = true ∧ groupPending s g = true := by
  simp [judgeGroups, Vector.get_eq_getElem]

/-- Settles O53, by the slots emptied and the groups judged over what is left. -/
theorem ackEventsEmptiesTheListedSlots : Obligations.AckEventsEmptiesTheListedSlots := by
  intro s r rest ns head kind args some_ few
  have fits : isKind 5 r = true := (isKind_iff 5 r).mpr ⟨by rw [kind]; rfl, by rw [kind, args]; simp [argsFit, some_, few]⟩
  refine ⟨fun small => ?_, fun large => ?_⟩
  · have runs : Answered .ackEvents s (judgeGroups (emptySlots (popRequest s rest) (ns.map (Fin.ofNat 32)))) r .done
        (.pendingCount (pendingCount (judgeGroups (emptySlots (popRequest s rest) (ns.map (Fin.ofNat 32)))))) := by
      refine act_serve_answered head fits (handler := serveAck) ?_ head.ready.2 head.held
      simp only [serveAck, args, slotNumbers_of_small small]
      rfl
    have log (i : LogNo) : (emptySlots (popRequest s rest) (ns.map (Fin.ofNat 32))).events.log.get i =
        if i.val ∈ ns then none else s.events.log.get i := by
      have listed : i ∈ ns.map (Fin.ofNat 32) ↔ i.val ∈ ns := by
        rw [List.mem_map]
        constructor
        · rintro ⟨n, here, rfl⟩
          rwa [show (Fin.ofNat 32 n).val = n from Nat.mod_eq_of_lt (small n here)]
        · exact fun here => ⟨i.val, here, Fin.ext (Nat.mod_eq_of_lt i.isLt)⟩
      rw [emptySlots_get, if_congr listed rfl rfl]
      rfl
    exact ⟨_, _, runs, rfl, log, rfl, rfl, rfl, rfl,
      fun g => (judgeGroups_get _ g).trans (and_congr_right fun _ => groupPending_iff _ g), rfl⟩
  · refine answered_of_unchanged head fits (handler := serveAck) ?_ rfl
    simp [serveAck, args, slotNumbers_of_large large, refusal]

/-! ## CLEAR CONDITIONS -/

/-- The held cause of a condition other than QUEUE_PRESSURE lies outside the bus and the log. -/
theorem heldCause_of_outside {s t : State} (h : SameOutsideRecord s t) {c : Condition} (calm : c ≠ .queuePressure) :
    heldCause t c = heldCause s c := by
  cases c <;> simp_all [heldCause, h.tracker, h.alloc, referenceStale, State.settings, h.service, unit_of_units h.units]

theorem CauseShown.eq_heldCause {s : State} {c : Condition} {p : Option Bool} (shown : CauseShown s c p) : p = heldCause s c := by
  have held := heldCause_shown s c
  cases c with
  | epochPrimaryLost => exact (shown.primaryLost rfl).trans (held.primaryLost rfl).symm
  | epochFreeRun => exact (shown.freeRun rfl).trans (held.freeRun rfl).symm
  | curtailShortfall => exact (shown.shortfall rfl).trans (held.shortfall rfl).symm
  | referenceStale =>
    obtain ⟨b, rfl, tells⟩ := shown.reference rfl
    exact congrArg some (Bool.eq_iff_iff.mpr (tells.trans (referenceStale_iff s).symm))
  | queuePressure =>
    obtain ⟨b, rfl, tells⟩ := shown.pressure rfl
    exact congrArg some (Bool.eq_iff_iff.mpr (tells.trans (queuePressure_iff s).symm))
  | passOverrun | forwardDrop | slotsExhausted | unitUnreachable | reserveShort | gensetTrip | shedInsufficient | planFailed |
    addressMismatch => exact shown.momentary nofun nofun nofun nofun nofun

theorem recordEntry_latched (s : State) (k : EventKind) (u : Option UnitNo) (v : Option Int) (d : Option Nat) :
    (recordEntry s k u v d).events.latched = s.events.latched := by
  obtain ⟨more, groups, made, -⟩ := recordEntry_says s k u v d
  rw [made]
  show (recordsMade s.events [recordNow s k u v d]).latched = s.events.latched
  simp only [recordsMade, List.foldl_cons, List.foldl_nil]
  split
  · rfl
  · split <;> rfl

/-- The joining of entries latches QUEUE_PRESSURE at most (R80). -/
theorem joined_isLatched (before s : State) {d : Condition} (calm : d ≠ .queuePressure) :
    (joined before s).isLatched d = s.isLatched d := by
  have pumped : (joined before s).events = (pressureRise before s).events := (pump_work _).outside.events
  unfold State.isLatched
  rw [pumped]
  unfold pressureRise
  split
  · rw [recordEntry_latched]
    exact (latch_isLatched s .queuePressure d).trans (by simp [calm, State.isLatched])
  · rfl

/-- A rising latches its condition and at most QUEUE_PRESSURE beside it (R80, R177). -/
theorem rise_isLatched (s : State) (c : Condition) {d : Condition} (calm : d ≠ .queuePressure) :
    (rise s c).isLatched d = (s.isLatched d || decide (d = c)) := by
  unfold rise
  split
  next already =>
    by_cases same : d = c
    · simp [same, already]
    · simp [same]
  next =>
    rw [record, joined_isLatched _ _ calm, ← latch_isLatched]
    unfold State.isLatched
    rw [recordEntry_latched]

/-- The conditions of a list latched again where a mask names them and their held cause is present (R178). -/
def relatch (mask : BitVec 14) (s : State) (cs : List Condition) : State :=
  cs.foldl (fun s c => if mask.getLsbD c.code && heldCause s c == some true then rise s c else s) s

theorem relatch_work (mask : BitVec 14) (s : State) (cs : List Condition) : RecordWork s (relatch mask s cs) := by
  induction cs generalizing s with
  | nil => exact .refl s
  | cons c cs ih =>
    refine RecordWork.trans (t := if mask.getLsbD c.code && heldCause s c == some true then rise s c else s) ?_ (ih _)
    split
    · exact rise_work s c
    · exact .refl s

theorem relatch_isLatched (mask : BitVec 14) (s : State) (cs : List Condition) {d : Condition} (calm : d ≠ .queuePressure) :
    (relatch mask s cs).isLatched d = true ↔ s.isLatched d = true ∨
      d ∈ cs ∧ mask.getLsbD d.code = true ∧ heldCause s d = some true := by
  induction cs generalizing s with
  | nil => simp [relatch]
  | cons c cs ih =>
    have step : relatch mask s (c :: cs) =
        relatch mask (if mask.getLsbD c.code && heldCause s c == some true then rise s c else s) cs := rfl
    rw [step, ih]
    split
    next rises =>
      obtain ⟨named, present⟩ : mask.getLsbD c.code = true ∧ heldCause s c = some true := by simpa using rises
      rw [rise_isLatched s c calm, heldCause_of_outside (rise_work s c).outside calm, List.mem_cons, Bool.or_eq_true,
        decide_eq_true_eq]
      constructor
      · rintro ((old | rfl) | ⟨later, rest⟩)
        · exact .inl old
        · exact .inr ⟨.inl rfl, named, present⟩
        · exact .inr ⟨.inr later, rest⟩
      · rintro (old | ⟨rfl | later, rest⟩)
        · exact .inl (.inl old)
        · exact .inl (.inr rfl)
        · exact .inr ⟨later, rest⟩
    next stays =>
      rw [List.mem_cons]
      refine or_congr_right ⟨fun ⟨later, rest⟩ => ⟨.inr later, rest⟩, fun ⟨at_, named, present⟩ => ⟨?_, named, present⟩⟩
      refine at_.resolve_left ?_
      rintro rfl
      exact stays (by simp [named, present])

theorem mem_allConditions (c : Condition) : c ∈ allConditions := by
  cases c <;> decide

/-- A request is answered once the hand-offs of its handler are taken, when none is left over (R187). -/
theorem responds_of_served {s v : State} {r : Request} {rest : List Request} (head : HeadIs s r rest)
    {wanted : Request → Bool} (takes : wanted r = true) {handler : State → Request → Served} {status : Status} {result : Result}
    (served : handler (holdPlace (popRequest s rest) true) r = ⟨v, status, result⟩) (quiet : (settle v).agenda = [])
    {i : Instr} (runs : exec i s = act s fun s => serve s wanted handler) : Responds i s v r status result := by
  have left := serve_head head takes handler
  rw [served] at left
  refine runs.trans ((act_quiet head.ready.1 ?_).trans ?_)
  · rw [left, joinReport_agenda, holdPlace_agenda, quiet]
  · rw [left]

/-- Settles O54, by the named conditions unlatched and the latching again of those whose held cause is present. -/
theorem clearConditionsUnlatches : Obligations.ClearConditionsUnlatches := by
  intro s r rest mask head kind args
  have fits : isKind 6 r = true := (isKind_iff 6 r).mpr ⟨by rw [kind]; rfl, by rw [kind, args]; rfl⟩
  generalize given : holdPlace (popRequest s rest) true = g
  generalize unlatched : ({ g with events := { g.events with latched := g.events.latched &&& ~~~mask } } : State) = u
  have work := relatch_work mask u allConditions
  have still (d : Condition) : u.isLatched d = (s.isLatched d && !mask.getLsbD d.code) := by
    have small := code_lt d
    rw [← unlatched, ← given]
    simp [State.isLatched, small]
  have outside : SameOutsideRecord { s with service := { s.service with queue := rest } } u := by
    rw [← unlatched, ← given]
    constructor <;> rfl
  have log : u.events.log = s.events.log := by rw [← unlatched, ← given]; rfl
  have all := outside.trans work.outside
  refine ⟨relatch mask u allConditions, ?_, all.agenda.trans head.ready.2, fun c present calm shown => ?_, fun latched unnamed => ?_,
    fun i e here => work.log i e (by rw [log]; exact here), all.units, all.shed, all.seqr, all.tracker, all.dispatcher,
    all.service⟩
  · refine responds_of_served head fits (handler := serveClear) ?_ ?_ rfl
    · rw [given, ← unlatched]
      simp only [serveClear, args]
      rfl
    · have none := all.agenda.trans head.ready.2
      rw [settle_nil none, none]
  · have cause : heldCause u c = heldCause s c := by
      refine (heldCause_of_outside outside calm).trans ?_
      cases c with
      | queuePressure => exact absurd rfl calm
      | epochPrimaryLost | epochFreeRun | referenceStale | curtailShortfall | passOverrun | forwardDrop | slotsExhausted |
        unitUnreachable | reserveShort | gensetTrip | shedInsufficient | planFailed | addressMismatch => rfl
    rw [relatch_isLatched mask u allConditions calm, still, shown.eq_heldCause, cause]
    by_cases named : mask.getLsbD c.code = true
    · simp [named, mem_allConditions]
    · simp [named]
  · refine work.latched .queuePressure ?_
    have spared : mask.getLsbD Condition.queuePressure.code = false := unnamed
    rw [still, latched, spared]
    rfl

end Sys2Proof.Machine
end

section
/-! The Service Unit: ENGINE RESET (R192), its records one after the other and the REPORT entries they bring. -/

namespace Sys2Proof.Machine

variable {s t v : State}

/-! ## A part without orders -/

/-- No slot holds an order, and no order waits. -/
structure NoOrders (s : State) : Prop where
  slots    : ∀ i : SlotNo, s.slot i = none
  waiting  : s.orders.waiting = []
  urgent   : s.egress.urgent = []
  dispatch : s.egress.dispatch = []
  setpoint : s.egress.setpoint = []

theorem NoOrders.of_same (h : NoOrders s) (orders : t.orders = s.orders) (queue : ∀ c : QClass, t.queue c = s.queue c) :
    NoOrders t where
  slots i := (slot_of_slots (congrArg Transactor.slots orders) i).trans (h.slots i)
  waiting := (congrArg Transactor.waiting orders).trans h.waiting
  urgent := (queue .urgent).trans h.urgent
  dispatch := (queue .dispatch).trans h.dispatch
  setpoint := (queue .setpoint).trans h.setpoint

/-- A part without orders, whose ORDER sequence is that of another state. -/
structure Orderless (s t : State) : Prop where
  none     : NoOrders t
  seqOrder : t.frame.seqOrder = s.frame.seqOrder

theorem Orderless.report (h : Orderless s t) {p : Port} {k : Nat} {r : ReportItem} (there : t.egress.report[k]? = some r) :
    Orderless s (handReport t p k) := by
  have taken := handReport_taken (p := p) there
  refine ⟨h.none.of_same taken.orders taken.queue, ?_⟩
  have count := congrArg Prod.fst taken.count
  refine Eq.trans ?_ h.seqOrder
  refine count.trans ?_
  split
  · rfl
  · cases r.body <;> rfl

/-- Without orders the grants send REPORT entries alone. -/
theorem Orderless.pump (h : Orderless s t) : Orderless s (Machine.pump t) := by
  refine pumpN_keeps (P := Orderless s) ?_ _ h
  intro t u p _ offered h
  have nothing {c : QClass} {i : SlotNo} (found : itemOf t p c = some (.order i)) : False := by
    obtain ⟨o, there⟩ := itemOf_there found
    rw [h.none.slots] at there
    cases there
  rcases offerOpen_cases offered with ⟨i, found, -⟩ | ⟨x, k, c, -, found, rfl⟩
  · exact (nothing (c := .urgent) (i := i) (by simp [itemOf, found])).elim
  · cases x with
    | order i => exact (nothing found).elim
    | report n =>
      obtain ⟨r, there⟩ := itemOf_there found
      have pointer : Orderless s (t.setPhase p k) := by
        refine ⟨h.none.of_same ?_ fun c => ?_, ?_⟩
        · cases p <;> rfl
        · cases p <;> cases c <;> rfl
        · rw [← h.seqOrder]
          cases p <;> rfl
      exact pointer.report (by rw [setPhase_report]; exact there)

theorem recordEntry_keeps (s : State) (k : EventKind) (u : Option UnitNo) (x : Option Int) (d : Option Nat) :
    (recordEntry s k u x d).orders = s.orders ∧ (recordEntry s k u x d).frame = s.frame ∧
    ∀ c : QClass, (recordEntry s k u x d).queue c = s.queue c := by
  obtain ⟨more, groups, made, -⟩ := recordEntry_says s k u x d
  rw [made]
  exact ⟨rfl, rfl, fun c => by cases c <;> rfl⟩

theorem Orderless.record (h : Orderless s t) (k : EventKind) (u : Option UnitNo) (x : Option Int) (d : Option Nat) :
    Orderless s (Machine.record t k u x d) := by
  refine Orderless.pump ?_
  obtain ⟨orders, frame, queue⟩ := recordEntry_keeps t k u x d
  obtain ⟨orders', frame', queue'⟩ := pressureRise_keeps t (recordEntry t k u x d)
  exact ⟨h.none.of_same (orders'.trans orders) fun c => (queue' c).trans (queue c),
    (congrArg FramePath.seqOrder (frame'.trans frame)).trans h.seqOrder⟩

/-- Without orders, QUEUE_PRESSURE's cause is that of REPORT. -/
theorem NoOrders.pressure_iff (h : NoOrders s) : queuePressure s = true ↔ 15 ≤ s.egress.report.length := by
  simp [queuePressure_iff, h.urgent, h.dispatch, h.setpoint]

/-! ## The records in their order -/

theorem isLatched_of_latched {c : Condition} (same : t.events.latched = s.events.latched) : t.isLatched c = s.isLatched c := by
  simp [State.isLatched, same]

theorem recordNow_of_outside (h : SameOutsideRecord s t) : recordNow t = recordNow s := by
  funext k u x d
  simp [recordNow, h.now, h.tracker]

/-- An event raised gains its record; and while QUEUE_PRESSURE is not latched, it may latch that with its record after it. -/
theorem record_latches (s : State) (k : EventKind) (u : Option UnitNo) (x : Option Int) (d : Option Nat) :
    (LogGains s (record s k u x d) [recordNow s k u x d] ∧
      (record s k u x d).isLatched .queuePressure = s.isLatched .queuePressure) ∨
    (s.isLatched .queuePressure = false ∧ (record s k u x d).isLatched .queuePressure = true ∧
      LogGains s (record s k u x d) [recordNow s k u x d, pressureRecord s]) := by
  have pumped : (record s k u x d).events = (pressureRise s (recordEntry s k u x d)).events :=
    (pump_work (pressureRise s (recordEntry s k u x d))).outside.events
  have entry := recordEntry_gains s k u x d
  have latched := recordEntry_latched s k u x d
  have same := recordNow_of_outside (recordEntry_work s k u x d).outside
  generalize recordEntry s k u x d = w at pumped entry latched same
  unfold pressureRise at pumped
  split at pumped
  next rises =>
    right
    have unlatched : w.isLatched .queuePressure = false := by
      simp only [Bool.and_eq_true, Bool.not_eq_true'] at rises
      exact rises.2
    have gains := recordEntry_gains (w.latch .queuePressure) .conditionLatched none none (some Condition.queuePressure.code)
    have raised : recordNow (w.latch .queuePressure) .conditionLatched none none (some Condition.queuePressure.code) =
        pressureRecord s := congrFun (congrFun (congrFun (congrFun same .conditionLatched) none) none) _
    rw [raised] at gains
    refine ⟨(isLatched_of_latched latched).symm.trans unlatched, ?_,
      entry.trans (((LogGains.latch w _).trans gains).trans (.of_events pumped))⟩
    have after : (record s k u x d).events.latched = (w.latch .queuePressure).events.latched := by
      rw [pumped, recordEntry_latched]
    rw [isLatched_of_latched after, latch_isLatched]
    simp
  next =>
    exact .inl ⟨entry.trans (.of_events pumped), isLatched_of_latched ((congrArg Events.latched pumped).trans latched)⟩

/-- Certain events recorded in their order, with the record of QUEUE_PRESSURE latching after one of them when it latched. -/
structure RecordedInOrder (s v : State) (rs : List EventRec) : Prop where
  made : ∃ all : List EventRec, LogGains s v all ∧ (v.isLatched .queuePressure = false → all = rs) ∧
    (v.isLatched .queuePressure = true → ∃ before later : List EventRec, before ≠ [] ∧ rs = before ++ later ∧
      all = before ++ pressureRecord s :: later)

theorem RecordedInOrder.nil (gains : LogGains s v []) (unlatched : v.isLatched .queuePressure = false) : RecordedInOrder s v [] :=
  ⟨[], gains, fun _ => rfl, fun latched => (by rw [unlatched] at latched; cases latched)⟩

theorem RecordedInOrder.record {rs : List EventRec} (h : RecordedInOrder s v rs) (now : recordNow v = recordNow s)
    (k : EventKind) (u : Option UnitNo) (x : Option Int) (d : Option Nat) :
    RecordedInOrder s (Machine.record v k u x d) (rs ++ [recordNow s k u x d]) := by
  obtain ⟨all, gains, plain, pressed⟩ := h
  have pressure : pressureRecord v = pressureRecord s := by simp [pressureRecord, now]
  rcases record_latches v k u x d with ⟨one, same⟩ | ⟨unlatched, latched, two⟩
  · rw [now] at one
    refine ⟨_, gains.trans one, fun unlatched => by rw [plain (same.symm.trans unlatched)], fun latched => ?_⟩
    obtain ⟨before, later, some, rfl, rfl⟩ := pressed (same.symm.trans latched)
    exact ⟨before, later ++ [recordNow s k u x d], some, by simp, by simp⟩
  · rw [now, pressure] at two
    obtain rfl := plain unlatched
    refine ⟨_, gains.trans two, fun off => (by rw [latched] at off; cases off), fun _ =>
      ⟨all ++ [recordNow s k u x d], [], by simp, by simp, by simp⟩⟩

theorem rise_pressure_gains (unlatched : s.isLatched .queuePressure = false) :
    LogGains s (rise s .queuePressure) [pressureRecord s] ∧ (rise s .queuePressure).isLatched .queuePressure = true := by
  refine ⟨?_, rise_latched s _⟩
  unfold rise
  rw [unlatched]
  rcases record_latches (s.latch .queuePressure) .conditionLatched none none (some Condition.queuePressure.code) with
    ⟨one, -⟩ | ⟨off, -⟩
  · exact (LogGains.latch s _).trans one
  · rw [latch_isLatched] at off
    simp at off

theorem RecordedInOrder.rise {rs : List EventRec} (h : RecordedInOrder s v rs) (some_ : rs ≠ [])
    (now : recordNow v = recordNow s) : RecordedInOrder s (Machine.rise v .queuePressure) rs := by
  cases latched : v.isLatched .queuePressure with
  | true => rwa [rise_of_latched latched]
  | false =>
    obtain ⟨all, gains, plain, -⟩ := h
    obtain ⟨more, after⟩ := rise_pressure_gains latched
    rw [plain latched] at gains
    have pressure : pressureRecord v = pressureRecord s := by simp [pressureRecord, now]
    rw [pressure] at more
    exact ⟨_, gains.trans more, fun off => (by rw [after] at off; cases off), fun _ => ⟨rs, [], some_, by simp, rfl⟩⟩

/-! ## Records while both ports transmit -/

/-- With both ports transmitting, an event's record queues its notices and no more, and raises QUEUE_PRESSURE alone. -/
theorem record_of_busy (busy : Busy s) (k : EventKind) (u : Option UnitNo) (x : Option Int) (d : Option Nat)
    (calm : queuePressure s = true ∨ queuePressure (recordEntry s k u x d) = false) :
    record s k u x d = recordEntry s k u x d := by
  have busy' : Busy (recordEntry s k u x d) := busy_of_frame busy (recordEntry_keeps s k u x d).2.1
  rw [record, joined_of_busy busy', pressureRise, if_neg]
  rcases calm with before | after
  · simp [before]
  · simp [after]

/-- A state in which certain events have been recorded while both ports transmit, no notice finding a place because REPORT stands at
EDGE with one place held, or all notices leaving it below EDGE. -/
structure QuietlyRecorded (s v : State) (rs : List EventRec) : Prop where
  busy      : Busy v
  phase     : ∀ p : Port, v.phase p = s.phase p
  sequences : sequences v = sequences s
  gains     : (s.egress.report.length = 15 ∨ s.egress.report.length + controllers s * rs.length < 15) → LogGains s v rs ∧
    v.isLatched .queuePressure = false
  pressed   : s.egress.report.length = 15 → v.egress.report.length = 15
  calm      : s.egress.report.length + controllers s * rs.length < 15 →
    v.egress.report.length ≤ s.egress.report.length + controllers s * rs.length

theorem recordEntry_phase (s : State) (k : EventKind) (u : Option UnitNo) (x : Option Int) (d : Option Nat) (p : Port) :
    (recordEntry s k u x d).phase p = s.phase p := by
  obtain ⟨more, groups, made, -⟩ := recordEntry_says s k u x d
  rw [made]
  cases p <;> rfl

theorem pressureRise_phase (before s : State) (p : Port) : (pressureRise before s).phase p = s.phase p := by
  unfold pressureRise
  split
  · rw [recordEntry_phase]
    cases p <;> rfl
  · rfl

theorem QuietlyRecorded.nil (busy : Busy v) (phase : ∀ p : Port, v.phase p = s.phase p) (seqs : Machine.sequences v = Machine.sequences s)
    (gains : LogGains s v []) (unlatched : v.isLatched .queuePressure = false) (report : v.egress.report = s.egress.report) :
    QuietlyRecorded s v [] :=
  ⟨busy, phase, seqs, fun _ => ⟨gains, unlatched⟩, fun full => by rw [report, full], fun _ => by simp [report]⟩

theorem QuietlyRecorded.record {rs : List EventRec} (h : QuietlyRecorded s v rs) (none : NoOrders v)
    (now : recordNow v = recordNow s) (access : controllers v = controllers s) (held : v.egress.held = true) (k : EventKind) (u : Option UnitNo) (x : Option Int)
    (d : Option Nat) : QuietlyRecorded s (Machine.record v k u x d) (rs ++ [recordNow s k u x d]) := by
  have entry := recordEntry_gains v k u x d
  have latched := recordEntry_latched v k u x d
  have phase := recordEntry_phase v k u x d
  obtain ⟨orders, frame, queue⟩ := recordEntry_keeps v k u x d
  have none' : NoOrders (recordEntry v k u x d) := none.of_same orders queue
  have plain := record_of_busy h.busy k u x d
  have joins : Machine.record v k u x d = pressureRise v (recordEntry v k u x d) := joined_of_busy (busy_of_frame h.busy frame)
  obtain ⟨more, few, fits, report⟩ : ∃ more : List ReportItem, more.length ≤ controllers v ∧ more.length ≤ reportFree v ∧
      (recordEntry v k u x d).egress.report = v.egress.report ++ more := by
    obtain ⟨more, groups, made, few, fits⟩ := recordEntry_says v k u x d
    exact ⟨more, few, fits, by rw [made]⟩
  generalize recordEntry v k u x d = w at *
  obtain ⟨-, frame', -⟩ := pressureRise_keeps v w
  rw [now] at entry
  rw [access] at few
  have length : (rs ++ [recordNow s k u x d]).length = rs.length + 1 := by simp
  have room : s.egress.report.length + controllers s * (rs.length + 1) < 15 →
      s.egress.report.length + controllers s * rs.length < 15 := by
    rw [Nat.mul_add]
    omega
  have quiet (case : s.egress.report.length = 15 ∨ s.egress.report.length + controllers s * (rs.length + 1) < 15) :
      Machine.record v k u x d = w ∧ (s.egress.report.length = 15 → w.egress.report.length = 15) ∧
      (s.egress.report.length + controllers s * (rs.length + 1) < 15 →
        w.egress.report.length ≤ s.egress.report.length + controllers s * (rs.length + 1)) := by
    have grown : w.egress.report.length = v.egress.report.length + more.length := by rw [report, List.length_append]
    rcases case with full | small
    · have stands := h.pressed full
      have nothing : reportFree v = 0 := by simp [reportFree, held, stands, Config.depth]
      exact ⟨plain (.inl (none.pressure_iff.mpr (by omega))), fun _ => by omega, fun few => by omega⟩
    · have stands := h.calm (room small)
      have below : w.egress.report.length ≤ s.egress.report.length + controllers s * (rs.length + 1) := by
        rw [Nat.mul_add]
        omega
      refine ⟨plain (.inr (Bool.eq_false_iff.mpr fun pressed => ?_)), fun full => by omega, fun _ => below⟩
      have := none'.pressure_iff.mp pressed
      omega
  refine ⟨?_, fun p => ?_, ?_, fun case => ?_, fun full => ?_, fun small => ?_⟩
  · rw [joins]
    exact busy_of_frame h.busy (frame'.trans frame)
  · rw [joins, pressureRise_phase, phase, h.phase]
  · rw [joins]
    exact (sequences_of_frame (frame'.trans frame)).trans h.sequences
  · rw [length] at case
    obtain ⟨gains, unlatched⟩ := h.gains (case.imp_right room)
    rw [(quiet case).1]
    exact ⟨gains.trans entry, (isLatched_of_latched latched).trans unlatched⟩
  · obtain ⟨same, grown, -⟩ := quiet (.inl full)
    rw [same, grown full]
  · rw [length] at small ⊢
    obtain ⟨same, -, grown⟩ := quiet (.inr small)
    rw [same]
    exact grown small

/-! ## The engine reset -/

/-- A state in which an engine reset has recorded certain events. -/
structure ResetTo (s v : State) (rs : List EventRec) : Prop where
  work      : RecordWork (resetEngineState s) v
  orderless : Orderless s v
  calm      : ∀ c : Condition, c ≠ .queuePressure → v.isLatched c = false
  order     : RecordedInOrder s v rs
  quiet     : Busy s → QuietlyRecorded s v rs

theorem resetEngineState_to (s : State) : ResetTo s (resetEngineState s) [] := by
  have unlatched (c : Condition) : (resetEngineState s).isLatched c = false := by
    simp [State.isLatched, resetEngineState, resetOrders]
  have slots := resetEngineState_slot s
  refine ⟨.refl _, ⟨⟨slots, rfl, rfl, rfl, rfl⟩, rfl⟩, fun c _ => unlatched c, .nil ⟨rfl, rfl, rfl⟩ (unlatched _), fun busy => ?_⟩
  exact .nil (busy_of_frame busy rfl) (fun p => by cases p <;> rfl) rfl ⟨rfl, rfl, rfl⟩ (unlatched _) rfl

theorem ResetTo.record {rs : List EventRec} (h : ResetTo s v rs) (held : s.egress.held = true) (k : EventKind)
    (u : Option UnitNo) (x : Option Int) (d : Option Nat) :
    ResetTo s (Machine.record v k u x d) (rs ++ [recordNow s k u x d]) := by
  have now : recordNow v = recordNow s := (recordNow_of_outside h.work.outside).trans rfl
  refine ⟨h.work.trans (record_work v k u x d), h.orderless.record k u x d, fun c calm => ?_, h.order.record now k u x d,
    fun busy => ?_⟩
  · rw [Machine.record, joined_isLatched _ _ calm, isLatched_of_latched (recordEntry_latched v k u x d)]
    exact h.calm c calm
  · refine (h.quiet busy).record h.orderless.none now ?_ (h.work.held.trans held) k u x d
    simp only [controllers, State.access, h.work.outside.service]
    rfl

theorem ResetTo.rise {rs : List EventRec} (h : ResetTo s v rs) (some_ : rs ≠ []) :
    RecordedInOrder s (Machine.rise v .queuePressure) rs :=
  h.order.rise some_ ((recordNow_of_outside h.work.outside).trans rfl)

/-- After an engine reset no held cause but QUEUE_PRESSURE's can be present. -/
theorem heldCause_of_reset (work : RecordWork (resetEngineState s) v) {c : Condition} (calm : c ≠ .queuePressure) :
    heldCause v c ≠ some true := by
  rw [heldCause_of_outside work.outside calm]
  have stale : referenceStale (resetEngineState s) = false := by
    rw [Bool.eq_false_iff, Ne, referenceStale_iff]
    rintro ⟨u, -, -, stale⟩
    rw [resetEngineState_unit] at stale
    cases stale
  cases c with
  | queuePressure => exact absurd rfl calm
  | referenceStale => simp [heldCause, stale]
  | epochPrimaryLost | epochFreeRun | curtailShortfall => exact Ne.symm nofun
  | passOverrun | forwardDrop | slotsExhausted | unitUnreachable | reserveShort | gensetTrip | shedInsufficient | planFailed |
    addressMismatch => exact nofun

/-- Conditions without a held cause are not latched again. -/
theorem relatch_nothing {cs : List Condition} (nothing : ∀ c ∈ cs, heldCause s c ≠ some true) :
    cs.foldl (fun s c => if heldCause s c == some true then rise s c else s) s = s := by
  induction cs with
  | nil => rfl
  | cons c cs ih =>
    rw [List.foldl_cons, if_neg (by simpa using nothing c (by simp))]
    exact ih fun d listed => nothing d (by simp [listed])

/-- Of the held causes, QUEUE_PRESSURE's alone is latched again after an engine reset. -/
theorem relatchHeld_of_reset (work : RecordWork (resetEngineState s) v) :
    relatchHeld v = if queuePressure v then rise v .queuePressure else v := by
  have nothing (w : State) (work : RecordWork (resetEngineState s) w) (cs : List Condition) (calm : .queuePressure ∉ cs) :=
    relatch_nothing (s := w) (cs := cs) fun c listed => heldCause_of_reset work fun same => calm (same ▸ listed)
  have split : allConditions = [.epochPrimaryLost, .epochFreeRun, .referenceStale, .passOverrun, .forwardDrop] ++
      .queuePressure :: [.slotsExhausted, .unitUnreachable, .reserveShort, .curtailShortfall, .gensetTrip, .shedInsufficient,
        .planFailed, .addressMismatch] := rfl
  unfold relatchHeld
  rw [split, List.foldl_append, nothing v work _ (by decide), List.foldl_cons]
  have cause : (heldCause v .queuePressure == some true) = queuePressure v := by
    cases pressed : queuePressure v <;> simp [heldCause, pressed]
  rw [cause]
  cases queuePressure v with
  | true => exact nothing _ (work.trans (rise_work v _)) _ (by decide)
  | false => exact nothing v work _ (by decide)

/-- The state of an engine reset once its three records are made. -/
def resetRecorded (s : State) : State :=
  let v := record (resetEngineState s) .engineReset none (some (s.mode.code : Int)) none
  let v := if s.mode == .observe then v else record v .modeChanged none (some (s.mode.code : Int)) (some Mode.observe.code)
  if s.tracker.state == .unset then v
  else record v .epochSourceChanged none (some (s.tracker.state.code : Int)) (some EpochState.unset.code)

theorem resetRecorded_to (held : s.egress.held = true) : ResetTo s (resetRecorded s) (resetRecords s) := by
  have first := (resetEngineState_to s).record held .engineReset none (some (s.mode.code : Int)) none
  rw [List.nil_append] at first
  have second : ResetTo s (if s.mode == .observe then
        record (resetEngineState s) .engineReset none (some (s.mode.code : Int)) none
      else record (record (resetEngineState s) .engineReset none (some (s.mode.code : Int)) none) .modeChanged none
        (some (s.mode.code : Int)) (some Mode.observe.code))
      (recordNow s .engineReset none (some (s.mode.code : Int)) none ::
        (if s.mode = .observe then [] else [recordNow s .modeChanged none (some (s.mode.code : Int)) (some 1)])) := by
    by_cases observe : s.mode = .observe
    · simpa only [observe, beq_self_eq_true, if_true] using first
    · rw [if_neg (by simpa using observe), if_neg observe]
      exact first.record held _ _ _ _
  unfold resetRecorded resetRecords
  by_cases unset : s.tracker.state = .unset
  · simpa only [unset, beq_self_eq_true, if_true, List.append_nil] using second
  · rw [if_neg unset]
    dsimp only
    rw [if_neg (by simpa using unset)]
    exact second.record held _ _ _ _

theorem Orderless.rise (h : Orderless s t) (c : Condition) : Orderless s (Machine.rise t c) := by
  unfold Machine.rise
  split
  · exact h
  · have latched : Orderless s (t.latch c) := ⟨h.none.of_same rfl fun d => by cases d <;> rfl, h.seqOrder⟩
    exact latched.record .conditionLatched Option.none Option.none (some c.code)

/-- With both ports transmitting, a rising leaves the phase pointers and the sequence counters. -/
theorem rise_still_of_busy (busy : Busy s) (c : Condition) :
    (∀ p : Port, (rise s c).phase p = s.phase p) ∧ sequences (rise s c) = sequences s := by
  unfold rise
  split
  · exact ⟨fun _ => rfl, rfl⟩
  · obtain ⟨-, frame, -⟩ := recordEntry_keeps (s.latch c) .conditionLatched none none (some c.code)
    have phase := recordEntry_phase (s.latch c) .conditionLatched none none (some c.code)
    rw [record, joined_of_busy (busy_of_frame busy frame)]
    obtain ⟨-, frame', -⟩ := pressureRise_keeps (s.latch c) (recordEntry (s.latch c) .conditionLatched none none (some c.code))
    refine ⟨fun p => ?_, sequences_of_frame (frame'.trans frame)⟩
    rw [pressureRise_phase, phase]
    cases p <;> rfl

theorem resetRecords_ne_nil (s : State) : resetRecords s ≠ [] := by simp [resetRecords]

/-- What an engine reset leaves (R192), its place of REPORT held. -/
structure EngineWasReset (s v : State) : Prop where
  work      : RecordWork (resetEngineState s) v
  orderless : Orderless s v
  calm      : ∀ c : Condition, v.isLatched c = true → c = .queuePressure
  still     : Busy s → (∀ p : Port, v.phase p = s.phase p) ∧ sequences v = sequences s
  recorded  : ResetRecorded s v

/-- ENGINE_RESET is the first record of an engine reset. -/
theorem ResetRecorded.first (h : ResetRecorded s v) : ∃ more : List EventRec,
    LogGains s v (recordNow s .engineReset none (some (s.mode.code : Int)) none :: more) := by
  obtain ⟨rs, gains, plain, pressed⟩ := h.order
  cases latched : v.isLatched .queuePressure with
  | false =>
    rw [plain latched] at gains
    exact ⟨_, gains⟩
  | true =>
    obtain ⟨before, later, some_, split, rfl⟩ := pressed latched
    obtain ⟨x, before, rfl⟩ := List.exists_cons_of_ne_nil some_
    obtain ⟨rfl, -⟩ := List.cons.inj split
    exact ⟨_, gains⟩

theorem engineResetEffect_was (held : s.egress.held = true) : EngineWasReset s (engineResetEffect s) := by
  have reset := resetRecorded_to held
  have effect : engineResetEffect s = relatchHeld (resetRecorded s) := rfl
  rw [effect, relatchHeld_of_reset reset.work]
  generalize resetRecorded s = w at reset
  have some_ := resetRecords_ne_nil s
  have now : recordNow w = recordNow s := (recordNow_of_outside reset.work.outside).trans rfl
  have pressure : pressureRecord w = pressureRecord s := by simp [pressureRecord, now]
  cases pressed : queuePressure w with
  | false =>
    rw [if_neg Bool.false_ne_true]
    have below : w.egress.report.length < 15 := by
      by_contra edge
      rw [reset.orderless.none.pressure_iff.mpr (by omega)] at pressed
      cases pressed
    refine ⟨reset.work, reset.orderless, fun c latched => ?_, fun busy => ⟨(reset.quiet busy).phase, (reset.quiet busy).sequences⟩,
      reset.order.made, fun busy full => ?_, fun busy small => ?_⟩
    · by_contra calm
      rw [reset.calm c calm] at latched
      cases latched
    · have := (reset.quiet busy).pressed full
      omega
    · exact ((reset.quiet busy).gains (.inr small)).symm
  | true =>
    rw [if_pos rfl]
    have edge : 15 ≤ w.egress.report.length := reset.orderless.none.pressure_iff.mp pressed
    refine ⟨reset.work.trans (rise_work w _), reset.orderless.rise _, fun c latched => ?_, fun busy => ?_,
      (reset.rise some_).made, fun busy full => ?_, fun busy small => ?_⟩
    · by_contra calm
      rw [rise_isLatched w _ calm, reset.calm c calm] at latched
      exact calm (by simpa using latched)
    · obtain ⟨phase, seqs⟩ := rise_still_of_busy (reset.quiet busy).busy .queuePressure
      exact ⟨fun p => (phase p).trans ((reset.quiet busy).phase p), seqs.trans (reset.quiet busy).sequences⟩
    · obtain ⟨gains, unlatched⟩ := (reset.quiet busy).gains (.inl full)
      obtain ⟨more, latched⟩ := rise_pressure_gains unlatched
      rw [pressure] at more
      exact ⟨latched, gains.trans more⟩
    · have := (reset.quiet busy).calm small
      omega

/-- Settles O60, by the reset state, its records one after the other, and the pressure that REPORT alone can make. -/
theorem engineResetKeepsTheConfiguration : Obligations.EngineResetKeepsTheConfiguration := by
  intro s r rest head kind args
  have fits : isKind 14 r = true := (isKind_iff 14 r).mpr ⟨by rw [kind]; rfl, by rw [kind, args]; rfl⟩
  have was := engineResetEffect_was (s := holdPlace (popRequest s rest) true) rfl
  have served : serveEngineReset (holdPlace (popRequest s rest) true) r =
      ⟨engineResetEffect (holdPlace (popRequest s rest) true), .done, .nothing⟩ := rfl
  generalize engineResetEffect (holdPlace (popRequest s rest) true) = v at was served
  have work := was.work
  have quiet : v.agenda = [] := work.outside.agenda
  have ports : Busy s → Busy (holdPlace (popRequest s rest) true) := fun busy => busy_of_frame busy rfl
  refine ⟨v, responds_of_served head fits served (by rw [settle_nil quiet, quiet]) rfl, quiet, ?_, work.outside.now,
    work.outside.service, work.outside.tracker, fun u => ?_, work.outside.lastSource, work.outside.balance, work.outside.alloc,
    work.outside.dispatcher, work.outside.shed, work.outside.seqr, was.orderless.none.slots, was.orderless.none.waiting,
    work.counters, was.orderless.none.urgent, was.orderless.none.dispatch, was.orderless.none.setpoint, work.phases,
    was.orderless.seqOrder, fun busy => ?_, work.station, work.delivered, was.calm, work.routing, work.primarySide,
    work.backupSide, work.log, fun room => ?_, ?_⟩
  · exact congrArg Service.mode work.outside.service
  · exact (unit_of_units work.outside.units u).trans (resetEngineState_unit _ u)
  · obtain ⟨phase, seqs⟩ := was.still (ports busy)
    exact ⟨fun p => (phase p).trans (by cases p <;> rfl), seqs⟩
  · obtain ⟨more, gains⟩ := was.recorded.first
    exact gains.first room
  · exact ⟨was.recorded.order, fun busy => was.recorded.pressed (ports busy), fun busy => was.recorded.calm (ports busy)⟩

end Sys2Proof.Machine
end

section
/-! The Order Transactor: order requests (R63 to R69). -/

namespace Sys2Proof.Machine

variable {s : State} {u : UnitNo} {k : OrderKind} {w : Owner}

/-! ## The judgement -/

theorem isSetpoint_iff (k : OrderKind) : isSetpoint k = true ↔ k = .setCap ∨ k = .clearCap := by
  cases k <;> simp [isSetpoint]

theorem canCoalesce_iff (s : State) (u : UnitNo) (i : SlotNo) : canCoalesce s u i = true ↔ Rewritable s u i := by
  unfold canCoalesce Rewritable
  cases s.slot i with
  | none => simp
  | some o => simp [State.unhanded, isSetpoint_iff, and_assoc]

theorem coalesceSlot_of_rewritable (found : ∃ i : SlotNo, (k = .setCap ∨ k = .clearCap) ∧ Rewritable s u i) :
    ∃ i : SlotNo, coalesceSlot s u k = some i ∧ (k = .setCap ∨ k = .clearCap) ∧ Rewritable s u i := by
  obtain ⟨i, setpoint, can⟩ := found
  unfold coalesceSlot
  rw [if_pos ((isSetpoint_iff k).mpr setpoint)]
  cases hit : allSlots.find? (canCoalesce s u) with
  | none => exact absurd ((canCoalesce_iff s u i).mpr can) (List.find?_eq_none.mp hit i (mem_allSlots i))
  | some j => exact ⟨j, rfl, setpoint, (canCoalesce_iff s u j).mp (List.find?_some hit)⟩

theorem coalesceSlot_of_none (nothing : ∀ i : SlotNo, ¬ ((k = .setCap ∨ k = .clearCap) ∧ Rewritable s u i)) :
    coalesceSlot s u k = none := by
  unfold coalesceSlot
  split
  next setpoint =>
    exact List.find?_eq_none.mpr fun i _ can => nothing i ⟨(isSetpoint_iff k).mp setpoint, (canCoalesce_iff s u i).mp can⟩
  next => rfl

/-- A request passes the checks of R66 that come before coalescing. -/
structure PassesFirst (s : State) (u : UnitNo) (k : OrderKind) : Prop where
  mode      : s.mode = .active ∨ s.mode = .restore
  permitted : (s.unit u).permits.has k = true
  unheld    : (s.unit u).holdCurrent s.now = false

theorem PassesFirst.orders (h : PassesFirst s u k) : (s.mode != .active && s.mode != .restore) = false := by
  rcases h.mode with mode | mode <;> simp [mode]

theorem judgeRequest_coalesces {i : SlotNo} (h : PassesFirst s u k) (slot : coalesceSlot s u k = some i) :
    judgeRequest s u k w = .coalesced i := by
  simp [judgeRequest, h.orders, h.permitted, h.unheld, slot]

theorem judgeRequest_of_new (h : PassesFirst s u k) (slot : coalesceSlot s u k = none) : judgeRequest s u k w =
    if (s.unit u).credit ≤ s.inFlight u then .refused .noCredit
    else if orderClass w k ≠ .urgent ∧ 8 ≤ s.nonUrgent then .refused .noSlot
    else s.freeSlot.elim (.refused .noSlot) .created := by
  have crowded : (orderClass w k != .urgent && decide (Config.nonUrgentSlots ≤ s.nonUrgent)) = true ↔
      orderClass w k ≠ .urgent ∧ 8 ≤ s.nonUrgent := by
    rw [Bool.and_eq_true, bne_iff_ne, decide_eq_true_eq]
    rfl
  unfold judgeRequest
  simp only [h.orders, h.permitted, h.unheld, slot, Bool.not_true, Bool.false_eq_true, if_false]
  rw [if_congr Iff.rfl rfl (if_congr crowded rfl ?_)]
  cases s.freeSlot <;> rfl

theorem freeSlot_of_full (full : ∀ i : SlotNo, s.slot i ≠ none) : s.freeSlot = none :=
  List.find?_eq_none.mpr fun i _ => by simpa [Option.isNone_iff_eq_none] using full i

/-- The free slot is the lowest-numbered one (R63). -/
theorem freeSlot_of_first {i : SlotNo} (free : s.slot i = none) (before : ∀ j : SlotNo, j < i → s.slot j ≠ none) :
    s.freeSlot = some i := by
  refine List.find?_eq_some_iff_getElem.mpr ⟨by simp [free], i.val, by simp [allSlots], by simp [allSlots], fun j below => ?_⟩
  have := before ⟨j, by omega⟩ below
  simpa [allSlots, Option.isSome_iff_ne_none] using this

/-! ## What a request leaves -/

theorem granted_joins (s : State) (i : SlotNo) (u : UnitNo) (k : OrderKind) (v : Option Nat) (w : Owner) (step : Option (Fin 32)) :
    OrderJoins { s with orders := { s.orders with counters := s.orders.counters.set u (nextNumber s u) } }
      (fillSlot s i u k v w step) i (newOrder s u k v w step) := by
  refine enqueue_joins _ i (newOrder s u k v w step) ?_
  show orderClass w k ≠ .report
  cases w <;> cases k <;> exact nofun

/-- Settles O40: the classes, what each answer leaves, and the checks in their order. -/
theorem requestsAreJudgedInOrder : Obligations.RequestsAreJudgedInOrder := by
  refine ⟨fun k => ?_, ?_, fun s u k w => ?_⟩
  · cases k <;> exact ⟨rfl, rfl, rfl, rfl, rfl⟩
  · rintro s t u k v w step rfl
    obtain ⟨answer, leaves⟩ := requestOrder_spec s u k v w step
    refine ⟨answer, fun i created => ?_, fun i o coalesced there => ?_, fun refused urgent => ?_, fun why refused plain => ?_⟩
    · have made : (requestOrder s u k v w step).1 = fillSlot s i u k v w step := by simp [requestOrder, created]
      rw [created] at leaves
      refine ⟨?_, fun j other => ?_, leaves.counters, made ▸ granted_joins s i u k v w step⟩
      · rw [leaves.slots]
        simp [granted, State.slot, vectorGet_set]
        rfl
      · rw [leaves.slots]
        simp [granted, State.slot, vectorGet_set, other]
    · rw [coalesced] at leaves
      simpa [rewriteSlot, there] using leaves
    · rw [refused] at leaves
      simp only [urgent, if_true] at leaves
      rw [leaves]
      exact ⟨rise_work s _, rise_latched s _⟩
    · rw [refused] at leaves
      cases why with
      | noSlot => simpa [plain.resolve_left (fun h => h rfl)] using leaves
      | wrongMode | notPermitted | held | noCredit => exact leaves
  · refine ⟨fun idle => ?_, fun mode forbidden => ?_, fun mode permitted held => ?_, fun mode permitted unheld can cans => ?_⟩
    · rcases idle with mode | mode <;> simp [judgeRequest, mode]
    · rcases mode with mode | mode <;> simp [judgeRequest, mode, forbidden]
    · rcases mode with mode | mode <;> simp [judgeRequest, mode, permitted, held]
    · have passes : PassesFirst s u k := ⟨mode, permitted, unheld⟩
      have none (nothing : ∀ i : SlotNo, ¬ can i) := judgeRequest_of_new (w := w) passes
        (coalesceSlot_of_none fun i here => nothing i ((cans i).mpr here))
      refine ⟨fun ⟨i, here⟩ => ?_, fun nothing spent => ?_, fun nothing credit short => ?_,
        fun nothing credit room i free before => ?_⟩
      · obtain ⟨j, slot, found⟩ := coalesceSlot_of_rewritable ⟨i, (cans i).mp here⟩
        exact ⟨j, judgeRequest_coalesces passes slot, (cans j).mpr found⟩
      · rw [none nothing, if_pos spent]
      · rw [none nothing, if_neg (by omega)]
        rcases short with crowded | full
        · rw [if_pos crowded]
        · rw [freeSlot_of_full full]
          split <;> rfl
      · rw [none nothing, if_neg (by omega), if_neg, freeSlot_of_first free before]
        · rfl
        · rintro ⟨other, crowded⟩
          exact room.elim other fun few => by omega

end Sys2Proof.Machine
end

section
/-! The Balance Engine: what a pass publishes (R87 to R101). -/

namespace Sys2Proof.Machine

variable {r : UnitRec}

/-! ## Units, as the formulas read them -/

theorem heard_iff : r.live.heard = true ↔ r.live.freshness = .fresh ∨ r.live.freshness = .held := by
  simp [Live.heard]

theorem holdCurrent_eq_false_iff (now : Time) : r.holdCurrent now = false ↔ ∀ d : Time, r.live.hold = some d → reached now d = true := by
  unfold UnitRec.holdCurrent
  cases r.live.hold <;> simp

theorem headroom_eq (r : UnitRec) : r.headroom = onlineHeadroom r := by
  unfold UnitRec.headroom onlineHeadroom UnitRec.lim
  exact if_congr heard_iff rfl rfl

theorem stopQualifies_iff (passTime : Time) : stopQualifies r passTime = true ↔ MayStop r passTime := by
  unfold stopQualifies
  cases since : r.gensetJob.onlineSince with
  | none =>
    refine ⟨fun h => (by simp at h), fun ⟨_, _, _, ⟨t, here, _⟩, _⟩ => ?_⟩
    rw [since] at here
    cases here
  | some t =>
    simp only [Bool.and_eq_true, Bool.not_eq_true', dispatchIs_iff, holdCurrent_eq_false_iff, decide_eq_true_eq]
    refine ⟨fun ⟨⟨⟨⟨online, remote⟩, noHold⟩, permits⟩, run⟩ => ⟨online, remote, noHold, ⟨t, since, run⟩, permits⟩,
      fun ⟨online, remote, noHold, ⟨x, here, run⟩, permits⟩ => ⟨⟨⟨⟨online, remote⟩, noHold⟩, permits⟩, ?_⟩⟩
    obtain rfl : t = x := Option.some.inj (since.symm.trans here)
    exact run

theorem sumUnits_congr {units : Vector UnitRec 64} {f g : UnitRec → Int} (same : ∀ r : UnitRec, f r = g r) :
    sumUnits units f = sumUnits units g := by
  rw [show f = g from funext same]

theorem clampPass_bounds (x : Int) : -4194240 ≤ clampPass x ∧ clampPass x ≤ 4194240 := by
  unfold clampPass clampInt Config.passBound
  omega

/-! ## The sums of power and the reserves -/

theorem passPg_eq (units : Vector UnitRec 64) : passPg units = clampPass (sumUnits units fun r =>
    if r.kind = .genset ∧ r.live.values.breaker = .closed then r.live.values.output else 0) := by
  refine congrArg clampPass (sumUnits_congr fun r => ?_)
  by_cases genset : r.kind = .genset <;> simp [UnitRec.outputOf, genset]

theorem outputOf_eq (r : UnitRec) (k : UnitKind) : r.outputOf k = if r.kind = k then r.live.values.output else 0 := by
  simp [UnitRec.outputOf]

theorem passPpv_eq (units : Vector UnitRec 64) : passPpv units = clampPass (sumUnits units fun r =>
    if r.kind = .pv then r.live.values.output else 0) :=
  congrArg clampPass (sumUnits_congr fun r => outputOf_eq r .pv)

theorem passPs_eq (units : Vector UnitRec 64) : passPs units = clampPass (sumUnits units fun r =>
    if r.kind = .storage then r.live.values.output else 0) :=
  congrArg clampPass (sumUnits_congr fun r => outputOf_eq r .storage)

theorem passPl_eq (units : Vector UnitRec 64) : passPl units = clampPass (sumUnits units fun r =>
    if r.kind = .feeder ∧ r.live.values.breaker = .closed then (r.live.values.load : Int) else 0) := by
  refine congrArg clampPass (sumUnits_congr fun r => ?_)
  simp

theorem passSr_eq (units : Vector UnitRec 64) (pvCredit : Nat) : passSr units pvCredit = clampPass (
    (sumUnits units fun r =>
      if r.kind = .genset ∧ r.gensetJob.dispatch = .online then onlineHeadroom r else 0) +
    (sumUnits units fun r =>
      if r.kind = .storage ∧ (r.live.freshness = .fresh ∨ r.live.freshness = .held) ∧ r.live.values.breaker = .closed
      then max 0 ((r.live.values.discharge : Int) - max 0 r.live.values.output) else 0) +
    ((pvCredit * (sumUnits units fun r =>
      if r.kind = .pv ∧ (r.live.freshness = .fresh ∨ r.live.freshness = .held) ∧ r.pvJob.commanded ≠ none
      then max 0 ((r.live.values.available : Int) - r.live.values.output) else 0).toNat / 100 : Nat) : Int)) := by
  have gensets := sumUnits_congr (units := units) (f := fun r => if r.dispatchIs .online then r.headroom else 0)
    (g := fun r => if r.kind = .genset ∧ r.gensetJob.dispatch = .online then onlineHeadroom r else 0) fun r =>
      if_congr dispatchIs_iff (headroom_eq r) rfl
  have storage := sumUnits_congr (units := units) (f := UnitRec.storageReserve)
    (g := fun r => if r.kind = .storage ∧ (r.live.freshness = .fresh ∨ r.live.freshness = .held) ∧
      r.live.values.breaker = .closed then max 0 ((r.live.values.discharge : Int) - max 0 r.live.values.output) else 0) fun r =>
      if_congr (by simp [UnitRec.readsClosed, heard_iff]) rfl rfl
  have credit := sumUnits_congr (units := units) (f := UnitRec.curtailed)
    (g := fun r => if r.kind = .pv ∧ (r.live.freshness = .fresh ∨ r.live.freshness = .held) ∧ r.pvJob.commanded ≠ none
      then max 0 ((r.live.values.available : Int) - r.live.values.output) else 0) fun r =>
      if_congr (by simp [heard_iff, Option.isSome_iff_ne_none, and_assoc]) rfl rfl
  unfold passSr
  rw [gensets, storage, credit]

/-- The largest output that RR is taken over is that of the ONLINE gen-sets but the one left out (R91). -/
theorem largestOnline_is (units : Vector UnitRec 64) (leftOut : Option UnitNo) :
    LargestOnline units leftOut (largestOnline units leftOut) := by
  have counts (u : UnitNo) : ((units.get u).dispatchIs .online && leftOut != some u) = true ↔
      leftOut ≠ some u ∧ (units.get u).kind = .genset ∧ (units.get u).gensetJob.dispatch = .online := by
    rw [Bool.and_eq_true, dispatchIs_iff, bne_iff_ne]
    tauto
  have main (l : List UnitNo) (m : Int) (top : Int) (folded : top = l.foldl (fun m u =>
      if (units.get u).dispatchIs .online && leftOut != some u then max m (units.get u).live.values.output else m) m) :
      m ≤ top ∧ (∀ u ∈ l, leftOut ≠ some u → (units.get u).kind = .genset → (units.get u).gensetJob.dispatch = .online →
        (units.get u).live.values.output ≤ top) ∧
      (top = m ∨ ∃ u : UnitNo, leftOut ≠ some u ∧ (units.get u).kind = .genset ∧
        (units.get u).gensetJob.dispatch = .online ∧ (units.get u).live.values.output = top) := by
    induction l generalizing m with
    | nil => exact ⟨folded.symm.le, by simp, .inl folded⟩
    | cons u l ih =>
      rw [List.foldl_cons] at folded
      obtain ⟨above, others, reached⟩ := ih _ folded
      by_cases here : ((units.get u).dispatchIs .online && leftOut != some u) = true
      · rw [if_pos here] at above reached
        refine ⟨by omega, fun v listed => ?_, ?_⟩
        · rcases List.mem_cons.mp listed with rfl | later
          · intros
            omega
          · exact others v later
        · rcases reached with same | found
          · rcases max_choice m (units.get u).live.values.output with low | high
            · exact .inl (same.trans low)
            · obtain ⟨out, kind, online⟩ := (counts u).mp here
              exact .inr ⟨u, out, kind, online, (same.trans high).symm⟩
          · exact .inr found
      · rw [if_neg here] at above reached
        refine ⟨above, fun v listed out kind online => ?_, reached⟩
        rcases List.mem_cons.mp listed with rfl | later
        · exact absurd ((counts v).mpr ⟨out, kind, online⟩) here
        · exact others v later out kind online
  obtain ⟨floor, above, reached⟩ := main allUnits 0 _ rfl
  exact ⟨floor, fun u => above u (List.mem_finRange u), reached⟩

theorem passRr_eq (units : Vector UnitRec 64) (st : Settings) (leftOut : Option UnitNo) : ∃ top : Int,
    LargestOnline units leftOut top ∧ passRr units st leftOut = clampPass (max (max (st.rrMin : Int) top)
      (((passPpv units).toNat * st.pvRisk + 99) / 100 : Nat)) :=
  ⟨_, largestOnline_is units leftOut, rfl⟩

theorem startingLim_eq (units : Vector UnitRec 64) : startingLim units = sumUnits units fun r =>
    if r.kind = .genset ∧ (r.gensetJob.dispatch = .startPending ∨ r.gensetJob.dispatch = .starting)
    then ((r.rating * r.genset.loadLimit / 100 : Nat) : Int) else 0 := by
  refine sumUnits_congr fun r => if_congr ?_ rfl rfl
  rw [UnitRec.isStarting, Bool.or_eq_true, dispatchIs_iff, dispatchIs_iff]
  tauto

theorem minimumLoadTerm_eq (units : Vector UnitRec 64) : minimumLoadTerm units = sumUnits units fun r =>
    if r.kind = .genset ∧ r.gensetJob.dispatch = .online
    then max 0 (((r.rating * r.genset.minLoad + 99) / 100 : Nat) - r.live.values.output) else 0 :=
  sumUnits_congr fun _ => if_congr dispatchIs_iff rfl rfl

/-! ## The grid condition and the demand record -/

theorem passCondition_of_live {fValid : Bool} {f stage1 limit cd : Nat} {rocof : Option Int} {rm : Int} :
    ((fValid = true ∧ f < stage1 ∨ ∃ x : Int, rocof = some x ∧ x ≤ -(limit : Int)) →
      passCondition false fValid f stage1 rocof limit rm cd = .short) ∧
    (¬ (fValid = true ∧ f < stage1 ∨ ∃ x : Int, rocof = some x ∧ x ≤ -(limit : Int)) →
      passCondition false fValid f stage1 rocof limit rm cd = if rm < 0 then .lean else if 0 < cd then .surplus else .normal) := by
  have falls : ((fValid && decide (f < stage1)) || rocof.any fun x => decide (x ≤ -(limit : Int))) = true ↔
      fValid = true ∧ f < stage1 ∨ ∃ x : Int, rocof = some x ∧ x ≤ -(limit : Int) := by
    cases rocof <;> simp
  unfold passCondition
  refine ⟨fun short => ?_, fun fine => ?_⟩
  · rw [if_neg Bool.false_ne_true, if_pos (falls.mpr short)]
  · rw [if_neg Bool.false_ne_true, if_neg (mt falls.mp fine)]

theorem stopCandidate_eq_none (sn : Snapshot) : stopCandidate sn = none ↔
    ∀ u ∈ sn.commit, ¬ MayStop (sn.units.get u) sn.passTime := by
  simp only [stopCandidate, List.find?_eq_none, List.mem_reverse, stopQualifies_iff]

/-- The stop candidate is the last entry of the Commitment List that may stop (R98). -/
theorem stopCandidate_eq_some {sn : Snapshot} {c : UnitNo} (found : stopCandidate sn = some c) :
    MayStop (sn.units.get c) sn.passTime ∧ ∃ before later : List UnitNo, sn.commit = before ++ c :: later ∧
      ∀ u ∈ later, ¬ MayStop (sn.units.get u) sn.passTime := by
  obtain ⟨may, before, later, order, none⟩ := List.find?_eq_some_iff_append.mp found
  refine ⟨stopQualifies_iff _ |>.mp may, later.reverse, before.reverse, ?_, fun u listed => ?_⟩
  · simpa using congrArg List.reverse order
  · have := none u (List.mem_reverse.mp listed)
    rw [← stopQualifies_iff]
    simpa using this

theorem carryCount_eq {holds : Bool} {unit carried : Option UnitNo} {count : Nat} (named : holds = true → unit ≠ none) :
    carryCount holds unit carried count =
      if holds then (if unit = carried then min 255 (count + 1) else 1, unit) else (0, none) := by
  unfold carryCount bump
  cases holds with
  | false => rfl
  | true =>
    obtain ⟨u, rfl⟩ := Option.ne_none_iff_exists'.mp (named rfl)
    by_cases same : some u = carried
    · simp [← same]
    · simp [same]

theorem any_iff {α : Type} (x : Option α) (q : α → Bool) : x.any q = true ↔ ∃ a : α, x = some a ∧ q a = true := by
  cases x <;> simp

/-- A test of a count read as an integer, as the formulas of the need read it. -/
theorem any_cast_iff (x : Option Nat) (q : Int → Bool) : Option.any q (do let n ← x; pure (n : Int)) = true ↔
    ∃ n : Nat, x = some n ∧ q n = true := by
  cases x <;> simp

/-- The count of a unit of a published record and the unit carried with it, by what the count requires (R99, R100). -/
theorem carryCount_by {holds test : Bool} {unit carried : Option UnitNo} {count : Nat} (same : test = holds)
    (named : test = true → unit ≠ none) : ((carryCount test unit carried count).1, (carryCount test unit carried count).2) =
      if holds then (if unit = carried then min 255 (count + 1) else 1, unit) else (0, none) := by
  rw [← same]
  exact carryCount_eq named

/-- The margin after the stop of the candidate (R98). -/
theorem rmAfter_eq (sn : Snapshot) (sr : Int) (c : UnitNo) : ∃ top : Int, LargestOnline sn.units (some c) top ∧
    rmAfter sn sr c = clampPass (sr - onlineHeadroom (sn.units.get c) - max 0 (sn.units.get c).live.values.output -
      clampPass (max (max (sn.settings.rrMin : Int) top) (((passPpv sn.units).toNat * sn.settings.pvRisk + 99) / 100 : Nat))) := by
  obtain ⟨top, largest, rr⟩ := passRr_eq sn.units sn.settings (some c)
  refine ⟨top, largest, ?_⟩
  unfold rmAfter
  dsimp only
  rw [headroom_eq, rr]

/-- The grid condition of a published record while the bus is live (R95). -/
theorem published_condition (b : Balance) {sn : Snapshot} (alive : sn.dead = false) :
    (passResult b sn).published.condition = passCondition false sn.meter.isSome (passResult b sn).published.f sn.stage1 sn.rocof
      sn.settings.rocofLimit (passResult b sn).published.rm (passResult b sn).published.cd := by
  rw [← alive]
  rfl

/-- Settles O32, formula by formula. -/
theorem publishedRecordIsConsistent : Obligations.PublishedRecordIsConsistent := by
  rintro b sn p rfl
  refine ⟨⟨rfl, rfl, rfl, rfl⟩, ⟨passPg_eq _, passPpv_eq _, passPs_eq _, passPl_eq _, rfl⟩, passSr_eq _ _, passRr_eq _ _ _,
    ⟨rfl, ?_⟩, ?_, ⟨rfl, ?_, ?_, rfl⟩, ?_, ⟨?_, ?_, ?_, ?_⟩, ?_, ⟨stopCandidate_eq_none sn, ?_, ?_⟩, ?_, rfl, ?_, ?_⟩
  · exact congrArg (fun x => clampPass (_ + x)) (startingLim_eq sn.units)
  · intro x listed
    simp only [List.mem_cons, List.not_mem_nil, or_false] at listed
    rcases listed with rfl | rfl | rfl | rfl | rfl | rfl | rfl | rfl | rfl <;> exact clampPass_bounds _
  · intro m meter
    simp only [passResult, meter]
  · intro meter
    simp only [passResult, meter]
  · exact congrArg (fun x : Int => min 4194240 (x.toNat +
      if sn.meter.isSome = true then ((passResult b sn).published.f - sn.settings.fHigh) * sn.settings.kCurt / 1000 else 0))
      (minimumLoadTerm_eq sn.units)
  · intro dead
    simp [passResult, passCondition, dead]
  · intro alive valid low
    rw [published_condition b alive]
    exact passCondition_of_live.1 (.inl ⟨valid, low⟩)
  · intro alive falls
    rw [published_condition b alive]
    exact passCondition_of_live.1 (.inr falls)
  · intro alive high slow
    rw [published_condition b alive]
    refine passCondition_of_live.2 ?_
    rintro (⟨valid, low⟩ | ⟨x, value, falls⟩)
    · have := high valid
      omega
    · have := slow x value
      omega
  · intro holds means
    have same : (decide ((passResult b sn).published.rmProspect < 0) || (sn.settings.startForRestore &&
        (passResult b sn).published.restoreNeed.any fun n => decide ((passResult b sn).published.rmProspect < (n : Int)))) =
        holds := by
      rw [Bool.eq_iff_iff, means, Bool.or_eq_true, Bool.and_eq_true, any_cast_iff]
      simp only [decide_eq_true_eq]
    rw [← same]
    refine ⟨rfl, Bool.and_eq_true_iff.trans (and_congr_right fun _ => ?_)⟩
    exact Bool.or_eq_true_iff.trans (or_congr_left decide_eq_true_iff)
  · intro c found
    obtain ⟨may, split⟩ := stopCandidate_eq_some found
    obtain ⟨top, largest, after⟩ := rmAfter_eq sn (passResult b sn).published.sr c
    refine ⟨may, split, top, largest, ?_⟩
    have chosen : (passResult b sn).published.rmAfter = (stopCandidate sn).map (rmAfter sn (passResult b sn).published.sr) := rfl
    have found' : stopCandidate sn = some c := found
    rw [chosen, found', Option.map_some, after]
    rfl
  · intro none
    have chosen : (passResult b sn).published.rmAfter = (stopCandidate sn).map (rmAfter sn (passResult b sn).published.sr) := rfl
    have none' : stopCandidate sn = Option.none := none
    rw [chosen, none', Option.map_none]
  · intro holds means
    refine carryCount_by (Bool.eq_iff_iff.mpr (((any_iff _ _).trans ?_).trans means.symm)) fun after none => ?_
    · simp only [decide_eq_true_eq]
      rfl
    · have none' : stopCandidate sn = Option.none := none
      simp only [none', Option.map_none, Option.any_none] at after
      cases after
  · intro holds means
    refine carryCount_by (Bool.eq_iff_iff.mpr (Iff.trans ?_ means.symm)) fun after none => ?_
    · rw [Bool.and_eq_true, Bool.and_eq_true, Bool.and_eq_true, any_cast_iff]
      simp only [decide_eq_true_eq, beq_iff_eq, and_assoc]
      rfl
    · have none' : sn.stackTop = Option.none := by simpa using none
      simp [none'] at after
  · exact decide_eq_true_iff

end Sys2Proof.Machine
end

section
/-! The byte layouts of section 1.7: fields, enumerated codes, and the payloads that carry a reading (R9 to R12). -/

namespace Sys2Proof.Machine

/-! ## Fields -/

@[simp] theorem beNat_one (a : Byte) : beNat [a] = a.toNat := by simp [beNat]

@[simp] theorem beNat_two (a b : Byte) : beNat [a, b] = a.toNat * 256 + b.toNat := by simp [beNat]

@[simp] theorem beNat_four (a b c d : Byte) :
    beNat [a, b, c, d] = ((a.toNat * 256 + b.toNat) * 256 + c.toNat) * 256 + d.toNat := by simp [beNat]

/-- The 32-bit number that four bytes spell. -/
def wordOf (a b c d : Byte) : BitVec 32 := BitVec.ofNat 32 (beNat [a, b, c, d])

/-- Four bytes spell a number exactly when they are its bytes. -/
theorem wordOf_eq_iff {a b c d : Byte} {x : BitVec 32} : wordOf a b c d = x ↔
    a = x.extractLsb' 24 8 ∧ b = x.extractLsb' 16 8 ∧ c = x.extractLsb' 8 8 ∧ d = x.extractLsb' 0 8 := by
  have ha := a.isLt
  have hb := b.isLt
  have hc := c.isLt
  have hd := d.isLt
  have hx := x.isLt
  simp only [wordOf, beNat_four, ← BitVec.toNat_inj, BitVec.toNat_ofNat, BitVec.extractLsb'_toNat, Nat.shiftRight_eq_div_pow]
  omega

theorem field16_bytes16 (x : Num16) : (x.extractLsb' 8 8).toNat * 256 + (x.extractLsb' 0 8).toNat = x.toNat := by
  have hx := x.isLt
  simp only [BitVec.extractLsb'_toNat, Nat.shiftRight_eq_div_pow]
  omega

/-! ## Enumerated codes -/

theorem breakerOf_iff {n : Nat} {b : Breaker} : breakerOf n = some b ↔ n = (breakerByte b).toNat := by
  match n with
  | 0 | 1 | n + 2 => cases b <;> simp [breakerOf, breakerByte]

theorem engineOf_iff {n : Nat} {e : Engine} : engineOf n = some e ↔ n = (engineByte e).toNat := by
  match n with
  | 0 | 1 | 2 | 3 | n + 4 => cases e <;> simp [engineOf, engineByte]

theorem selectorOf_iff {n : Nat} {x : Selector} : selectorOf n = some x ↔ n = (selectorByte x).toNat := by
  match n with
  | 0 | 1 | n + 2 => cases x <;> simp [selectorOf, selectorByte]

theorem orderOf_iff {n : Nat} {k : OrderKind} : orderOf n = some k ↔ n = orderCode k := by
  match n with
  | 0 | 1 | 2 | 3 | 4 | 5 | 6 | n + 7 => cases k <;> simp [orderOf, orderCode]

theorem kindOfCode_iff {n : Nat} {k : UnitKind} : kindOfCode n = some k ↔ n = kindCode k := by
  match n with
  | 0 | 1 | 2 | 3 | 4 | 5 | n + 6 => cases k <;> simp [kindOfCode, kindCode]

theorem unitOf_iff {n : Nat} {u : UnitNo} : unitOf n = some u ↔ n = u.val := by
  unfold unitOf
  split
  next small => simp [Fin.ext_iff]
  next large => simp; omega

theorem unitOf_eq_none {n : Nat} : unitOf n = none ↔ 64 ≤ n := by
  simp [unitOf]

theorem verdictOf_iff {m n : Nat} {v : Verdict} : verdictOf m n = some v ↔
    m = (verdictBytes v).1.toNat ∧ n = (verdictBytes v).2.toNat := by
  unfold verdictOf
  split
  all_goals rcases v with _ | ⟨_ | _ | _ | _⟩
  all_goals simp_all [verdictBytes]

/-! ## Lists of bytes of a length -/

theorem eq_of_length_four {l : List Byte} (h : l.length = 4) : ∃ a b c d : Byte, l = [a, b, c, d] := by
  match l, h with
  | [a, b, c, d], _ => exact ⟨a, b, c, d, rfl⟩

theorem eq_of_length_eight {l : List Byte} (h : l.length = 8) :
    ∃ a b c d e f g i : Byte, l = [a, b, c, d] ++ [e, f, g, i] := by
  obtain ⟨a, b, c, d, first⟩ := eq_of_length_four (l := l.take 4) (by simp [h])
  obtain ⟨e, f, g, i, second⟩ := eq_of_length_four (l := l.drop 4) (by simp [h])
  exact ⟨a, b, c, d, e, f, g, i, by rw [← first, ← second, List.take_append_drop]⟩

theorem append_bytes32_iff {a b c d : Byte} {l m : List Byte} {x : BitVec 32} :
    [a, b, c, d] ++ l = bytes32 x ++ m ↔ wordOf a b c d = x ∧ l = m := by
  rw [wordOf_eq_iff]
  simp [bytes32, and_assoc]

theorem length_bytes32 (x : BitVec 32) : (bytes32 x).length = 4 := rfl

theorem eq_of_length_sixteen {l : List Byte} (h : l.length = 16) : ∃ a b c d e f g i j k m n o p q r : Byte,
    l = [a, b, c, d] ++ ([e, f, g, i] ++ ([j, k, m, n] ++ [o, p, q, r])) := by
  obtain ⟨a, b, c, d, e, f, g, i, first⟩ := eq_of_length_eight (l := l.take 8) (by simp [h])
  obtain ⟨j, k, m, n, o, p, q, r, second⟩ := eq_of_length_eight (l := l.drop 8) (by simp [h])
  exact ⟨a, b, c, d, e, f, g, i, j, k, m, n, o, p, q, r, by
    rw [← second, ← List.append_assoc, ← first, List.take_append_drop]⟩

/-! ## Readings -/

/-- The length of the payload that carries a reading (section 1.7). -/
def readingLength : UnitKind → Nat
  | .pv => 16
  | .storage => 16
  | _ => 8

theorem ReadingBytes.length {b : List Byte} {x : ReadingBody} (h : ReadingBytes b x) :
    b.length = readingLength (bodyKind x) := by
  cases x with
  | genset output breaker engine selector =>
    obtain ⟨a, rfl⟩ := h
    rfl
  | pv output available cap breaker =>
    obtain ⟨a, b, c, -, rfl⟩ := h
    rfl
  | storage output discharge charge soc breaker =>
    obtain ⟨a, b, rfl⟩ := h
    rfl
  | feeder load breaker =>
    obtain ⟨a, b, c, rfl⟩ := h
    rfl
  | meter frequency voltage =>
    obtain rfl := h
    rfl

variable {b : List Byte} {x : ReadingBody}

/-- A payload of another length than its kind's carries no reading. -/
theorem readingBodyOf_of_length {k : UnitKind} (length : b.length ≠ readingLength k) :
    readingBodyOf (kindCode k) b = some x ↔ bodyKind x = k ∧ ReadingBytes b x := by
  have right : ¬ (bodyKind x = k ∧ ReadingBytes b x) := fun ⟨kind, bytes⟩ => length (kind ▸ bytes.length)
  refine iff_of_false ?_ right
  cases k <;> simp_all [readingBodyOf, kindCode, readingLength]

theorem readingBodyOf_genset_iff : readingBodyOf 1 b = some x ↔ bodyKind x = .genset ∧ ReadingBytes b x := by
  by_cases length : b.length = 8
  · obtain ⟨b0, b1, b2, b3, b4, b5, b6, b7, rfl⟩ := eq_of_length_eight length
    have reads : readingBodyOf 1 ([b0, b1, b2, b3] ++ [b4, b5, b6, b7]) =
        (breakerOf b4.toNat).bind fun br => (engineOf b5.toNat).bind fun en =>
          (selectorOf b6.toNat).map fun se => .genset (wordOf b0 b1 b2 b3) br en se := by
      simp [readingBodyOf, fieldAt, word32, wordOf]
    rw [reads]
    simp only [Option.bind_eq_some_iff, Option.map_eq_some_iff, breakerOf_iff, engineOf_iff, selectorOf_iff, BitVec.toNat_inj]
    constructor
    · rintro ⟨br, rfl, en, rfl, se, rfl, rfl⟩
      exact ⟨rfl, b7, append_bytes32_iff.mpr ⟨rfl, rfl⟩⟩
    · rintro ⟨kind, bytes⟩
      cases x with
      | genset output br en se =>
        obtain ⟨a, same⟩ := bytes
        obtain ⟨word, rest⟩ := append_bytes32_iff.mp same
        simp only [List.cons.injEq, and_true] at rest
        obtain ⟨rfl, rfl, rfl, -⟩ := rest
        exact ⟨br, rfl, en, rfl, se, rfl, by rw [word]⟩
      | pv | storage | feeder | meter => cases kind
  · exact readingBodyOf_of_length (k := .genset) length

theorem readingBodyOf_pv_iff : readingBodyOf 2 b = some x ↔ bodyKind x = .pv ∧ ReadingBytes b x := by
  by_cases length : b.length = 16
  · obtain ⟨a0, a1, a2, a3, a4, a5, a6, a7, b0, b1, b2, b3, b4, b5, b6, b7, rfl⟩ := eq_of_length_sixteen length
    have reads : readingBodyOf 2 ([a0, a1, a2, a3] ++ ([a4, a5, a6, a7] ++ ([b0, b1, b2, b3] ++ [b4, b5, b6, b7]))) =
        some x ↔ ∃ br : Breaker, b1 = breakerByte br ∧
          (b0 = 0 ∧ .pv (wordOf a0 a1 a2 a3) (wordOf a4 a5 a6 a7) none br = x ∨
           b0 = 1 ∧ .pv (wordOf a0 a1 a2 a3) (wordOf a4 a5 a6 a7) (some (wordOf b4 b5 b6 b7)) br = x) := by
      have flag : b0.toNat = 0 ↔ b0 = 0 := BitVec.toNat_inj (y := 0#8)
      have flag' : b0.toNat = 1 ↔ b0 = 1 := BitVec.toNat_inj (y := 1#8)
      rw [← flag, ← flag']
      simp only [readingBodyOf, fieldAt, word32, wordOf]
      simp only [List.cons_append, List.nil_append, List.length_cons, List.length_nil, if_true, List.drop_succ_cons, List.drop_zero,
        List.take_succ_cons, List.take_zero, beNat_one, Option.bind_eq_some_iff, breakerOf_iff, BitVec.toNat_inj]
      refine exists_congr fun br => and_congr_right fun _ => ?_
      generalize b0.toNat = n
      match n with
      | 0 | 1 | n + 2 => simp
    rw [reads]
    have laid {output available c : BitVec 32} {flag : Byte} {br : Breaker} {a d : Byte} :
        [a0, a1, a2, a3] ++ ([a4, a5, a6, a7] ++ ([b0, b1, b2, b3] ++ [b4, b5, b6, b7])) =
          bytes32 output ++ bytes32 available ++ [flag, breakerByte br, a, d] ++ bytes32 c ↔
        wordOf a0 a1 a2 a3 = output ∧ wordOf a4 a5 a6 a7 = available ∧ (b0 = flag ∧ b1 = breakerByte br ∧ b2 = a ∧ b3 = d) ∧
          wordOf b4 b5 b6 b7 = c := by
      rw [List.append_assoc, List.append_assoc, append_bytes32_iff, append_bytes32_iff]
      refine and_congr_right fun _ => and_congr_right fun _ => ?_
      have last := append_bytes32_iff (a := b4) (b := b5) (c := b6) (d := b7) (l := []) (m := []) (x := c)
      simp only [List.append_nil, and_true] at last
      rw [← last]
      simp [and_assoc]
    constructor
    · rintro ⟨br, rfl, ⟨rfl, rfl⟩ | ⟨rfl, rfl⟩⟩
      · exact ⟨rfl, b2, b3, wordOf b4 b5 b6 b7, nofun, laid.mpr ⟨rfl, rfl, ⟨rfl, rfl, rfl, rfl⟩, rfl⟩⟩
      · exact ⟨rfl, b2, b3, wordOf b4 b5 b6 b7, fun y same => Option.some.inj same,
          laid.mpr ⟨rfl, rfl, ⟨rfl, rfl, rfl, rfl⟩, rfl⟩⟩
    · rintro ⟨kind, bytes⟩
      cases x with
      | pv output available cap br =>
        obtain ⟨a, d, c, held, same⟩ := bytes
        obtain ⟨rfl, rfl, ⟨flag, rfl, -, -⟩, rfl⟩ := laid.mp same
        refine ⟨br, rfl, ?_⟩
        cases cap with
        | none => exact .inl ⟨flag, rfl⟩
        | some y => exact .inr ⟨flag, by rw [held y rfl]⟩
      | genset | storage | feeder | meter => cases kind
  · exact readingBodyOf_of_length (k := .pv) length

theorem readingBodyOf_storage_iff : readingBodyOf 3 b = some x ↔ bodyKind x = .storage ∧ ReadingBytes b x := by
  by_cases length : b.length = 16
  · obtain ⟨a0, a1, a2, a3, a4, a5, a6, a7, b0, b1, b2, b3, b4, b5, b6, b7, rfl⟩ := eq_of_length_sixteen length
    have reads : readingBodyOf 3 ([a0, a1, a2, a3] ++ ([a4, a5, a6, a7] ++ ([b0, b1, b2, b3] ++ [b4, b5, b6, b7]))) =
        (breakerOf b5.toNat).map fun br => .storage (wordOf a0 a1 a2 a3) (wordOf a4 a5 a6 a7) (wordOf b0 b1 b2 b3) b4 br := by
      simp [readingBodyOf, fieldAt, word32, wordOf]
    rw [reads]
    simp only [Option.map_eq_some_iff, breakerOf_iff, BitVec.toNat_inj]
    constructor
    · rintro ⟨br, rfl, rfl⟩
      exact ⟨rfl, b6, b7, append_bytes32_iff.mpr ⟨rfl, append_bytes32_iff.mpr ⟨rfl, append_bytes32_iff.mpr ⟨rfl, rfl⟩⟩⟩⟩
    · rintro ⟨kind, bytes⟩
      cases x with
      | storage output discharge charge soc br =>
        obtain ⟨a, c, same⟩ := bytes
        rw [List.append_assoc, List.append_assoc] at same
        obtain ⟨first, same⟩ := append_bytes32_iff.mp same
        obtain ⟨second, same⟩ := append_bytes32_iff.mp same
        obtain ⟨third, rest⟩ := append_bytes32_iff.mp same
        simp only [List.cons.injEq, and_true] at rest
        obtain ⟨rfl, rfl, -, -⟩ := rest
        exact ⟨br, rfl, by rw [first, second, third]⟩
      | genset | pv | feeder | meter => cases kind
  · exact readingBodyOf_of_length (k := .storage) length

theorem readingBodyOf_feeder_iff : readingBodyOf 4 b = some x ↔ bodyKind x = .feeder ∧ ReadingBytes b x := by
  by_cases length : b.length = 8
  · obtain ⟨b0, b1, b2, b3, b4, b5, b6, b7, rfl⟩ := eq_of_length_eight length
    have reads : readingBodyOf 4 ([b0, b1, b2, b3] ++ [b4, b5, b6, b7]) =
        (breakerOf b4.toNat).map fun br => .feeder (wordOf b0 b1 b2 b3) br := by
      simp [readingBodyOf, fieldAt, word32, wordOf]
    rw [reads]
    simp only [Option.map_eq_some_iff, breakerOf_iff, BitVec.toNat_inj]
    constructor
    · rintro ⟨br, rfl, rfl⟩
      exact ⟨rfl, b5, b6, b7, append_bytes32_iff.mpr ⟨rfl, rfl⟩⟩
    · rintro ⟨kind, bytes⟩
      cases x with
      | feeder load br =>
        obtain ⟨a, c, d, same⟩ := bytes
        obtain ⟨word, rest⟩ := append_bytes32_iff.mp same
        simp only [List.cons.injEq, and_true] at rest
        obtain ⟨rfl, -⟩ := rest
        exact ⟨br, rfl, by rw [word]⟩
      | genset | pv | storage | meter => cases kind
  · exact readingBodyOf_of_length (k := .feeder) length

theorem readingBodyOf_meter_iff : readingBodyOf 5 b = some x ↔ bodyKind x = .meter ∧ ReadingBytes b x := by
  by_cases length : b.length = 8
  · obtain ⟨b0, b1, b2, b3, b4, b5, b6, b7, rfl⟩ := eq_of_length_eight length
    have reads : readingBodyOf 5 ([b0, b1, b2, b3] ++ [b4, b5, b6, b7]) =
        some (.meter (wordOf b0 b1 b2 b3) (wordOf b4 b5 b6 b7)) := by
      simp [readingBodyOf, fieldAt, word32, wordOf]
    rw [reads, Option.some.injEq]
    constructor
    · rintro rfl
      exact ⟨rfl, append_bytes32_iff.mpr ⟨rfl, (append_bytes32_iff (l := []) (m := [])).mpr ⟨rfl, rfl⟩⟩⟩
    · rintro ⟨kind, bytes⟩
      cases x with
      | meter frequency voltage =>
        obtain ⟨first, rest⟩ := append_bytes32_iff.mp bytes
        obtain ⟨second, -⟩ := (append_bytes32_iff (l := []) (m := [])).mp (by simpa using rest)
        rw [first, second]
      | genset | pv | storage | feeder => cases kind
  · exact readingBodyOf_of_length (k := .meter) length

/-- A payload carries a reading of a kind exactly when it is laid out as that kind's (R10, section 1.7). -/
theorem readingBodyOf_iff {n : Nat} : readingBodyOf n b = some x ↔ n = kindCode (bodyKind x) ∧ ReadingBytes b x := by
  match n with
  | 1 => exact readingBodyOf_genset_iff.trans (and_congr_left fun _ => by cases x <;> simp [bodyKind, kindCode])
  | 2 => exact readingBodyOf_pv_iff.trans (and_congr_left fun _ => by cases x <;> simp [bodyKind, kindCode])
  | 3 => exact readingBodyOf_storage_iff.trans (and_congr_left fun _ => by cases x <;> simp [bodyKind, kindCode])
  | 4 => exact readingBodyOf_feeder_iff.trans (and_congr_left fun _ => by cases x <;> simp [bodyKind, kindCode])
  | 5 => exact readingBodyOf_meter_iff.trans (and_congr_left fun _ => by cases x <;> simp [bodyKind, kindCode])
  | 0 | n + 6 => cases x <;> simp [readingBodyOf, bodyKind, kindCode]

end Sys2Proof.Machine
end

section
/-! Received frames: the protocol's header in a frame with or without a tag, and what each class delivers (R9 to R12, R15). -/

namespace Sys2Proof.Machine

/-! ## The header -/

/-- The protocol bytes of a frame whose last four bytes are its check sequence (R9). -/
theorem protocolBytes_append (body check : List Byte) (length : check.length = 4) : protocolBytes (body ++ check) =
    if fieldAt body 0 2 = 0x89A2 then some (body.drop 2)
    else if fieldAt body 0 2 = 0x8100 ∧ fieldAt body 4 2 = 0x89A2 then some (body.drop 6)
    else none := by
  have cut : (body ++ check).take ((body ++ check).length - 4) = body := by
    rw [List.length_append, length, Nat.add_sub_cancel, List.take_left]
  unfold protocolBytes
  rw [cut]

/-- The last four bytes split off a list that has them. -/
theorem split_check {l : List Byte} (long : 4 ≤ l.length) :
    ∃ front check : List Byte, l = front ++ check ∧ check.length = 4 ∧ front.length = l.length - 4 :=
  ⟨l.take (l.length - 4), l.drop (l.length - 4), (List.take_append_drop _ _).symm, by rw [List.length_drop]; omega,
    by rw [List.length_take]; omega⟩

theorem protocolBytes_tagged {tag : List Byte} (tagged : IsTag tag) (body check : List Byte) (length : check.length = 4) :
    protocolBytes (tag ++ 0x89 :: 0xA2 :: (body ++ check)) = some body := by
  have joined : tag ++ 0x89 :: 0xA2 :: (body ++ check) = (tag ++ 0x89 :: 0xA2 :: body) ++ check := by simp
  rw [joined, protocolBytes_append _ _ length]
  rcases tagged with rfl | ⟨a, b, rfl⟩
  · simp [fieldAt]
  · simp [fieldAt]

/-- The header of a station-protocol frame, tagged or not: there with version 1 and a payload length not above the bytes present
(R9, R10). -/
theorem headerOf_wire {tag : List Byte} (tagged : IsTag tag) (version cls unit kind : Byte) (seq epoch len : Num16)
    (payload : List Byte) {tail : List Byte} (long : 4 ≤ tail.length) :
    headerOf (wireBytes tag version cls unit kind seq epoch len payload tail) =
      if version = 1 ∧ len.toNat ≤ payload.length + (tail.length - 4) then some {
        version := version.toNat, cls := cls.toNat, unit := unit.toNat, kind := kind.toNat, seq := seq, epoch := epoch,
        payload := (payload ++ tail.take (tail.length - 4)).take len.toNat }
      else none := by
  obtain ⟨front, check, rfl, four, rest⟩ := split_check long
  have cut : (front ++ check).take ((front ++ check).length - 4) = front := by
    rw [← rest, List.take_left]
  have wire : wireBytes tag version cls unit kind seq epoch len payload (front ++ check) = tag ++ 0x89 :: 0xA2 ::
      ((version :: cls :: unit :: kind :: (bytes16 seq ++ bytes16 epoch ++ bytes16 len ++ (payload ++ front))) ++ check) := by
    simp [wireBytes]
  have spelled (x : Num16) : x.toNat >>> 8 % 256 * 256 + x.toNat % 256 = x.toNat := by
    simpa [BitVec.extractLsb'_toNat] using field16_bytes16 x
  have one : version.toNat = 1 ↔ version = 1 := BitVec.toNat_inj (y := 1#8)
  rw [cut, ← rest, wire, headerOf, protocolBytes_tagged tagged _ _ four]
  simp only [Option.bind_some]
  simp [fieldAt, bytes16, spelled, one]

/-! ## The classes -/

/-- What a well-formed header delivers, by its class (R10 to R12). -/
theorem deliveryOf_of_header {rest : List Byte} {h : Header} (found : headerOf rest = some h) (p : Port) (src : Addr)
    (toPart : Bool) :
    (h.cls = 1 → deliveryOf p src toPart rest = (unitOf h.unit).bind fun u => (readingBodyOf h.kind h.payload).map fun body =>
      .reading { port := p, src := src, unit := u, seq := h.seq, epoch := h.epoch, body := body }) ∧
    (h.cls = 2 → deliveryOf p src toPart rest = if h.payload.length = 4 then
      some (.mark { src := src, unit := BitVec.ofNat 8 h.unit, kind := BitVec.ofNat 8 h.kind, seq := h.seq, number := h.epoch,
                    period := BitVec.ofNat 16 (fieldAt h.payload 0 2) }) else none) ∧
    (h.cls = 3 → deliveryOf p src toPart rest = if toPart ∨ h.payload.length ≠ 8 ∨ h.kind = 0 then none
      else (unitOf h.unit).bind fun u => (kindOfCode h.kind).bind fun k => (orderOf (fieldAt h.payload 1 1)).map fun o =>
        .observed { src := src, unit := u, kind := k, seq := h.seq, epoch := h.epoch,
                    number := BitVec.ofNat 8 (fieldAt h.payload 0 1), order := o, value := word32 h.payload 4 }) ∧
    (h.cls = 4 → deliveryOf p src toPart rest = if toPart ∧ h.payload.length = 4 then
        (unitOf h.unit).bind fun u => (verdictOf (fieldAt h.payload 1 1) (fieldAt h.payload 2 1)).map fun v =>
          .reply { port := p, src := src, unit := u, kind := BitVec.ofNat 8 h.kind, seq := h.seq, epoch := h.epoch,
                   number := BitVec.ofNat 8 (fieldAt h.payload 0 1), verdict := v } else none) ∧
    (h.cls = 5 → deliveryOf p src toPart rest = if toPart ∧ 4 ≤ h.payload.length then
        some (.request { port := p, src := src, unit := BitVec.ofNat 8 h.unit, unitKind := BitVec.ofNat 8 h.kind, seq := h.seq,
                         epoch := h.epoch, tag := BitVec.ofNat 16 (fieldAt h.payload 0 2),
                         kind := BitVec.ofNat 8 (fieldAt h.payload 2 1),
                         args := argsOf (BitVec.ofNat 8 (fieldAt h.payload 2 1)) (h.payload.drop 4) }) else none) ∧
    ((h.cls = 0 ∨ 5 < h.cls) → deliveryOf p src toPart rest = none) := by
  unfold deliveryOf
  rw [found]
  simp only [Option.bind_some]
  refine ⟨fun cls => by rw [cls]; rfl, fun cls => by rw [cls]; rfl, fun cls => by rw [cls]; rfl, fun cls => by rw [cls]; rfl, fun cls => by rw [cls]; rfl,
    fun cls => ?_⟩
  split
  case h_6 => rfl
  all_goals omega

theorem argsOf_eq (k : Byte) (args : List Byte) : argsOf k args =
    if k = 3 ∨ k = 7 ∨ k = 10 ∨ k = 11 ∨ k = 14 then (if args = [] then .nothing else .malformed)
    else Config.requestArgs k args := by
  have takes : takesNothing k = true ↔ k = 3 ∨ k = 7 ∨ k = 10 ∨ k = 11 ∨ k = 14 := by
    simp only [takesNothing, List.contains_cons, List.contains_nil, Bool.or_false, Bool.or_eq_true, beq_iff_eq,
      ← BitVec.toNat_inj]
    rfl
  unfold argsOf
  exact if_congr takes (if_congr List.isEmpty_iff rfl rfl) rfl

theorem fieldAt_bytes16 (x : Num16) (l : List Byte) : fieldAt (bytes16 x ++ l) 0 2 = x.toNat := by
  simpa [fieldAt, bytes16] using field16_bytes16 x

theorem word32_bytes32 (a b c d : Byte) (x : BitVec 32) : word32 ([a, b, c, d] ++ bytes32 x) 4 = x :=
  wordOf_eq_iff.mpr ⟨rfl, rfl, rfl, rfl⟩

variable {p : Port} {src : Addr} {toPart : Bool} {cls unit kind : Byte} {seq epoch : Num16} {payload rest : List Byte}

/-- A frame whose header carries certain fields delivers as its class says (R10 to R12). -/
theorem deliveryOf_delivers {version : Nat} (found : headerOf rest = some {
      version := version, cls := cls.toNat, unit := unit.toNat, kind := kind.toNat, seq := seq, epoch := epoch,
      payload := payload }) : Delivers p src toPart cls unit kind seq epoch payload (deliveryOf p src toPart rest) := by
  obtain ⟨reading, mark, order, reply, request, others⟩ := deliveryOf_of_header found p src toPart
  dsimp only at reading mark order reply request others
  constructor
  · rintro rfl u body unit_ kind_ bytes
    rw [reading rfl, unitOf_iff.mpr unit_, Option.bind_some, readingBodyOf_iff.mpr ⟨kind_, bytes⟩, Option.map_some]
  · rintro rfl bad
    rw [reading rfl]
    rcases bad with far | nothing
    · rw [unitOf_eq_none.mpr far, Option.bind_none]
    · cases found : readingBodyOf kind.toNat payload with
      | none => simp
      | some body =>
        obtain ⟨kind_, bytes⟩ := readingBodyOf_iff.mp found
        exact absurd bytes (nothing body kind_)
  · rintro rfl period a b rfl
    rw [mark rfl, if_pos (by simp [bytes16]), fieldAt_bytes16]
    simp
  · rintro rfl length
    rw [mark rfl, if_neg length]
  · rintro rfl rfl u k o number code a b value unit_ real kind_ code_ rfl
    have some_ : kind.toNat ≠ 0 := by
      rw [kind_]
      cases k <;> simp_all [kindCode]
    have coded : orderOf (fieldAt ([number, code, a, b] ++ bytes32 value) 1 1) = some o := by
      simpa [fieldAt] using orderOf_iff.mpr code_
    rw [order rfl, if_neg (by simp [length_bytes32, some_]), unitOf_iff.mpr unit_, Option.bind_some, kindOfCode_iff.mpr kind_,
      Option.bind_some, coded, Option.map_some, word32_bytes32]
    simp [fieldAt]
  · rintro rfl bad
    rw [order rfl]
    split
    next => rfl
    next fits =>
      simp only [not_or, not_not] at fits
      obtain ⟨away, length, kind_⟩ := fits
      rcases bad with here | far | zero | large | short | unknown
      · exact absurd here away
      · rw [unitOf_eq_none.mpr far, Option.bind_none]
      · exact absurd (by simp [zero]) kind_
      · have undefined : kindOfCode kind.toNat = none := by
          cases coded : kindOfCode kind.toNat with
          | none => rfl
          | some k =>
            have := kindOfCode_iff.mp coded
            cases k <;> simp_all [kindCode]
        simp [undefined]
      · exact absurd length short
      · obtain ⟨b0, b1, b2, b3, b4, b5, b6, b7, rfl⟩ := eq_of_length_eight length
        have undefined : orderOf (fieldAt ([b0, b1, b2, b3] ++ [b4, b5, b6, b7]) 1 1) = none := by
          cases coded : orderOf (fieldAt ([b0, b1, b2, b3] ++ [b4, b5, b6, b7]) 1 1) with
          | none => rfl
          | some o =>
            have code : b1.toNat = orderCode o := by simpa [fieldAt] using orderOf_iff.mp coded
            rcases unknown b1 rfl with rfl | large
            · cases o <;> simp [orderCode] at code
            · cases o <;> simp [orderCode] at code <;> omega
        rw [undefined]
        simp
  · rintro rfl rfl u v number a unit_ rfl
    have coded : verdictOf (fieldAt [number, (verdictBytes v).1, (verdictBytes v).2, a] 1 1)
        (fieldAt [number, (verdictBytes v).1, (verdictBytes v).2, a] 2 1) = some v := by
      simpa [fieldAt] using verdictOf_iff.mpr ⟨rfl, rfl⟩
    rw [reply rfl, if_pos ⟨rfl, rfl⟩, unitOf_iff.mpr unit_, Option.bind_some, coded, Option.map_some]
    simp [fieldAt]
  · rintro rfl bad
    rw [reply rfl]
    split
    next fits =>
      obtain ⟨here, length⟩ := fits
      rcases bad with away | far | unknown
      · rw [away] at here
        cases here
      · rw [unitOf_eq_none.mpr far, Option.bind_none]
      · obtain ⟨b0, b1, b2, b3, rfl⟩ := eq_of_length_four length
        have undefined : verdictOf (fieldAt [b0, b1, b2, b3] 1 1) (fieldAt [b0, b1, b2, b3] 2 1) = none := by
          cases coded : verdictOf (fieldAt [b0, b1, b2, b3] 1 1) (fieldAt [b0, b1, b2, b3] 2 1) with
          | none => rfl
          | some v =>
            obtain ⟨verdict, reason⟩ := verdictOf_iff.mp coded
            simp only [fieldAt, List.drop_succ_cons, List.drop_zero, List.take_succ_cons, List.take_zero, beNat_one,
              BitVec.toNat_inj] at verdict reason
            exact absurd (by rw [verdict, reason]) (unknown v b0 b3)
        rw [undefined]
        simp
    next => rfl
  · rintro rfl rfl tag k a args rfl
    have kind_ : BitVec.ofNat 8 (fieldAt (bytes16 tag ++ [k, a] ++ args) 2 1) = k := by simp [fieldAt, bytes16]
    refine ⟨_, ?_, argsOf_eq k args⟩
    rw [request rfl, if_pos ⟨rfl, by simp [bytes16]⟩, kind_, List.append_assoc, fieldAt_bytes16]
    simp [bytes16]
  · rintro rfl bad
    rw [request rfl, if_neg]
    rintro ⟨here, length⟩
    rcases bad with away | short
    · rw [away] at here
      cases here
    · omega
  · intro other
    refine others (other.imp_left ?_)
    rintro rfl
    rfl

/-! ## Frames that carry no station protocol -/

theorem field_eq_iff {a b x y : Byte} : a.toNat * 256 + b.toNat = x.toNat * 256 + y.toNat ↔ (a, b) = (x, y) := by
  have ha := a.isLt
  have hb := b.isLt
  have hx := x.isLt
  have hy := y.isLt
  rw [Prod.mk.injEq, ← BitVec.toNat_inj, ← BitVec.toNat_inj]
  omega

/-- Two bytes are not the station's protocol type, nor a tag where no tag stands: nothing is delivered (R9). -/
theorem deliveryOf_foreign {tag : List Byte} (tagged : IsTag tag) (a b : Byte) (foreign : (a, b) ≠ (0x89, 0xA2))
    (untagged : tag = [] → (a, b) ≠ (0x81, 0x00)) : deliveryOf p src toPart (tag ++ a :: b :: rest) = none := by
  have ha := a.isLt
  have protocol : a.toNat * 256 + b.toNat ≠ 0x89A2 := fun same => foreign ((field_eq_iff (x := 0x89) (y := 0xA2)).mp same)
  have nothing : protocolBytes (tag ++ a :: b :: rest) = none := by
    unfold protocolBytes
    generalize (tag ++ a :: b :: rest).length - 4 = n
    rcases tagged with rfl | ⟨x, y, rfl⟩
    · have plain : a.toNat * 256 + b.toNat ≠ 0x8100 := fun same =>
        untagged rfl ((field_eq_iff (x := 0x81) (y := 0x00)).mp same)
      match n with
      | 0 => simp [fieldAt, beNat]
      | 1 =>
        have small : a.toNat ≠ 0x89A2 ∧ a.toNat ≠ 0x8100 := by omega
        simp [fieldAt, small]
      | n + 2 => simp [fieldAt, protocol, plain]
    · match n with
      | 0 | 1 | 2 | 3 | 4 => simp [fieldAt, beNat]
      | 5 =>
        have small : a.toNat ≠ 0x89A2 := by omega
        simp [fieldAt, small]
      | n + 6 => simp [fieldAt, protocol]
  simp [deliveryOf, headerOf, nothing]

/-! ## The part's own ORDER frame -/

theorem beBytes_eq_bytes16 (x : Num16) : beBytes 2 x.toNat = bytes16 x := by
  have hx := x.isLt
  have high : BitVec.ofNat 8 (x.toNat / 256) = x.extractLsb' 8 8 := by
    apply BitVec.eq_of_toNat_eq
    simp [BitVec.extractLsb'_toNat, Nat.shiftRight_eq_div_pow]
  have low : BitVec.ofNat 8 x.toNat = x.extractLsb' 0 8 := by
    apply BitVec.eq_of_toNat_eq
    simp
  simp [beBytes, bytes16, high, low]

theorem beBytes_eq_bytes32 {n : Nat} (small : n < 2 ^ 32) : beBytes 4 n = bytes32 (BitVec.ofNat 32 n) := by
  have byte (k : Nat) : BitVec.ofNat 8 (n / 2 ^ k) = (BitVec.ofNat 32 n).extractLsb' k 8 := by
    apply BitVec.eq_of_toNat_eq
    have whole : n % 4294967296 = n := Nat.mod_eq_of_lt small
    simp [BitVec.extractLsb'_toNat, Nat.shiftRight_eq_div_pow, whole]
  have b0 := byte 0
  have b1 := byte 8
  have b2 := byte 16
  have b3 := byte 24
  norm_num at b0 b1 b2 b3
  simp [beBytes, bytes32, b0, b1, b2, b3]

theorem beBytes_one (n : Nat) : beBytes 1 n = [BitVec.ofNat 8 n] := by simp [beBytes]

/-- An ORDER frame is, after its addresses, a station-protocol frame with no tag, padded to 60 bytes (R15). -/
theorem order_bytes {f : OutFrame} {number : Byte} {kind : OrderKind} {value : Nat} (payload : f.payload = .order number kind value)
    (small : value < 2 ^ 32) (check : List Byte) : f.bytes ++ check = (beBytes 6 f.dst.toNat ++ beBytes 6 f.src.toNat) ++
      wireBytes [] 1 3 (BitVec.ofNat 8 f.unit) (BitVec.ofNat 8 (kindCode f.kind)) f.seq f.epoch 8
        ([number, BitVec.ofNat 8 (orderCode kind), 0, 0] ++ bytes32 (BitVec.ofNat 32 value)) (List.replicate 28 0 ++ check) := by
  have body : f.payload.bytes = [number, BitVec.ofNat 8 (orderCode kind), 0, 0] ++ bytes32 (BitVec.ofNat 32 value) := by
    simp [payload, OutPayload.bytes, beBytes_one, beBytes_eq_bytes32 small]
  have cls : f.payload.classCode = 3 := by rw [payload]; rfl
  have pad (l : List Byte) (length : l.length = 32) : l ++ List.replicate (60 - l.length) (0 : Byte) = l ++ List.replicate 28 0 := by
    rw [length]
  unfold OutFrame.bytes
  dsimp only
  rw [body, cls, beBytes_one, beBytes_one, beBytes_one, beBytes_one, beBytes_eq_bytes16, beBytes_eq_bytes16, pad _ rfl]
  have protocol : beBytes 2 0x89A2 = [0x89, 0xA2] := by decide
  have length : beBytes 2 ([number, BitVec.ofNat 8 (orderCode kind), 0, 0] ++ bytes32 (BitVec.ofNat 32 value)).length = bytes16 8 :=
    beBytes_eq_bytes16 8
  rw [protocol, length]
  simp [wireBytes]

/-- Settles O19: the header found in the frame's bytes, its class's delivery, and the part's own ORDER frame read back. -/
theorem orderFrameReadsBackAsObserved : Obligations.OrderFrameReadsBackAsObserved := by
  refine ⟨fun p src toPart tag version cls unit kind seq epoch len payload tail d tagged long made => ?_,
    fun p src toPart tag rest a b tagged foreign untagged => deliveryOf_foreign tagged a b foreign untagged,
    fun f number kind value check p u payload unit real small four => ?_⟩
  · obtain rfl := made
    have header := headerOf_wire tagged version cls unit kind seq epoch len payload long
    refine ⟨fun one fits => ?_, fun bad => ?_⟩
    · rw [if_pos ⟨one, by omega⟩, fits, List.take_left] at header
      exact deliveryOf_delivers header
    · rw [if_neg fun ⟨one, fits⟩ => bad.elim (· one) fun beyond => by omega] at header
      simp [deliveryOf, header]
  · have bytes := order_bytes payload small check
    have dropped : (f.bytes ++ check).drop 12 = wireBytes [] 1 3 (BitVec.ofNat 8 f.unit) (BitVec.ofNat 8 (kindCode f.kind)) f.seq
        f.epoch 8 ([number, BitVec.ofNat 8 (orderCode kind), 0, 0] ++ bytes32 (BitVec.ofNat 32 value))
        (List.replicate 28 0 ++ check) := by
      rw [bytes]
      exact List.drop_left' rfl
    have header := headerOf_wire (.inl rfl) 1 3 (BitVec.ofNat 8 f.unit) (BitVec.ofNat 8 (kindCode f.kind)) f.seq f.epoch 8
      ([number, BitVec.ofNat 8 (orderCode kind), 0, 0] ++ bytes32 (BitVec.ofNat 32 value)) (tail := List.replicate 28 0 ++ check)
      (by simp)
    have eight : (8 : Num16).toNat = ([number, BitVec.ofNat 8 (orderCode kind), 0, 0] ++ bytes32 (BitVec.ofNat 32 value)).length := rfl
    rw [if_pos ⟨rfl, by rw [eight]; omega⟩, eight, List.take_left] at header
    refine ⟨by rw [bytes]; simp [beBytes, wireBytes, bytes16, bytes32, four], ?_⟩
    rw [dropped]
    have codes : kindCode f.kind < 256 ∧ orderCode kind < 256 := by
      constructor
      · cases f.kind <;> simp [kindCode]
      · cases kind <;> simp [orderCode]
    refine (deliveryOf_delivers (p := p) (src := f.src) (toPart := false) header).order rfl rfl u f.kind kind number _ 0 0 _ ?_
      real ?_ ?_ rfl
    · rw [unit]
      exact Nat.mod_eq_of_lt (by omega)
    · exact Nat.mod_eq_of_lt codes.1
    · exact Nat.mod_eq_of_lt codes.2

end Sys2Proof.Machine
end

section
/-! WRITE RECORD (R188, R189): a mask that names its one field twice. -/

namespace Sys2Proof.Machine

/-- A write of the kind of record 0 under a mask that names field 0 twice, which is no mask (notes/assumptions/2.md). -/
def twiceNamed : Request where
  port := .pa
  src := 0
  unit := 0
  unitKind := 0
  seq := 0
  epoch := 0
  tag := 0
  kind := 1
  args := .write 1 0 [0, 0] [.num 0, .num 0]

/-- The part as after reset, with a GENSET in record 0 and that write at the head of the queue. -/
def twiceNamedAsked : State :=
  { State.reset.setUnit 0 { kind := .genset } with service := { State.reset.service with queue := [twiceNamed] } }

theorem twiceNamed_head : HeadIs twiceNamedAsked twiceNamed [] := ⟨⟨rfl, rfl⟩, rfl, by decide, rfl⟩

/-- The arguments do not fit their kind, so WRITE RECORD leaves the request at the head of the queue. -/
theorem twiceNamed_waits : exec .writeRecord twiceNamedAsked = .next twiceNamedAsked :=
  act_quiet (f := fun s => serve s (isKind 1) serveWrite) rfl rfl

/-- Refutes O51: of two fields written together, the kind NONE and another, the other may be the kind again; such a mask does not
rise, and the request is not served as WRITE RECORD, where the statement has it refused by WRITE RECORD. -/
theorem not_writeRecordStoresOrRefuses : ¬ Obligations.WriteRecordStoresOrRefuses := by
  intro claim
  obtain ⟨units, -⟩ := claim twiceNamedAsked twiceNamed [] twiceNamed_head rfl
  obtain ⟨refused, -⟩ := (units 0).withKind .noUnit ⟨0, 0, 0, fun r _ => r⟩ 0 (by decide) rfl
  have answered := refused (.inl rfl)
  have same := Host.Outcome.next.inj (twiceNamed_waits.symm.trans answered)
  have queue := congrArg (fun s : State => s.service.queue) same
  have popped := congrArg Service.queue (joinReport_work (popRequest twiceNamedAsked []) (responseTo twiceNamed .badRequest .nothing)).outside.service
  exact absurd (queue.trans popped) (by simp [twiceNamedAsked, popRequest])

end Sys2Proof.Machine
end

section
/-! The Curtailment Allocator (chapter 6): who takes part, the shares of a cut, the proposals, and the requests of a decision. -/

namespace Sys2Proof.Machine

/-! ## Who takes part -/

theorem hasRoom_iff (s : State) (u : UnitNo) : hasRoom s u = true ↔
    (s.unit u).pvJob.setpoint = .idle ∧ s.inFlight u < (s.unit u).credit ∨
    (s.unit u).pvJob.setpoint = .ordered ∧ ∃ i : SlotNo, (s.unit u).pvJob.slot = some i ∧ Rewritable s u i := by
  unfold hasRoom
  cases point : (s.unit u).pvJob.setpoint <;> cases slot : (s.unit u).pvJob.slot <;> simp [point, slot, canCoalesce_iff]

theorem reachable_iff (s : State) (u : UnitNo) : reachable s u = true ↔ Reachable s u := by
  simp only [reachable, Bool.and_eq_true, beq_iff_eq, bne_iff_ne, heard_iff, Bool.not_eq_true', holdCurrent_eq_false_iff,
    hasRoom_iff]
  exact ⟨fun ⟨⟨⟨⟨isPv, heard⟩, noHold⟩, settled⟩, room⟩ => ⟨isPv, heard, noHold, settled, room⟩,
    fun ⟨isPv, heard, noHold, settled, room⟩ => ⟨⟨⟨⟨isPv, heard⟩, noHold⟩, settled⟩, room⟩⟩

theorem curtailable_iff (r : UnitRec) (m : Mode) :
    r.curtailable m = true ↔ r.winLow ≤ r.winHigh ∧ r.effFloor m ≤ r.ceiling := by
  simp [UnitRec.curtailable, UnitRec.windowOn]

theorem eligible_iff_parts (s : State) (u : UnitNo) : eligible s u = true ↔
    reachable s u = true ∧ (s.unit u).permits.setCap = true ∧ (s.unit u).curtailable s.mode = true := by
  simp only [eligible, Bool.and_eq_true, and_assoc]

theorem eligible_iff (s : State) (u : UnitNo) : eligible s u = true ↔ Eligible s u := by
  rw [eligible_iff_parts, reachable_iff, curtailable_iff]
  exact ⟨fun ⟨reach, permits, window, bounds⟩ => ⟨reach, permits, window, bounds⟩,
    fun ⟨reach, permits, window, bounds⟩ => ⟨reach, permits, window, bounds⟩⟩

theorem mem_eligibleUnits (s : State) (u : UnitNo) : u ∈ eligibleUnits s ↔ Eligible s u := by
  simp [eligibleUnits, mem_allUnits, eligible_iff]

theorem eligibleUnits_ascending (s : State) : (eligibleUnits s).Pairwise (· < ·) := (List.pairwise_lt_finRange 64).filter _

/-! ## Shares -/

theorem sum_filter_map {α : Type} (l : List α) (p : α → Bool) (f : α → Nat) :
    ((l.filter p).map f).sum = (l.map fun a => if p a = true then f a else 0).sum := by
  induction l with
  | nil => rfl
  | cons a l ih => cases h : p a <;> simp [h, ih]

theorem overEligible_eq (s : State) (x : UnitNo → Nat) : overEligible s x = ((eligibleUnits s).map x).sum :=
  (sum_filter_map _ _ _).symm

theorem sum_indicator {α : Type} (l : List α) (p : α → Bool) :
    (l.map fun a => if p a = true then 1 else 0).sum = (l.filter p).length := by
  rw [← sum_filter_map l p fun _ => 1]
  simp

theorem sum_map_add {α : Type} (l : List α) (f g : α → Nat) :
    (l.map fun a => f a + g a).sum = (l.map f).sum + (l.map g).sum := by
  induction l with
  | nil => rfl
  | cons a l ih => simp only [List.map_cons, List.sum_cons, ih]; omega

/-- A floor share is at most its 1 kW short of the exact share, for each entry with headroom. -/
theorem share_bound {total : Nat} (some : 0 < total) (cd h : Nat) :
    cd * h + (if 0 < h then 1 else 0) ≤ total * (cd * h / total + if 0 < h then 1 else 0) ∧ total * (cd * h / total) ≤ cd * h := by
  have whole := Nat.div_add_mod (cd * h) total
  have below := Nat.mod_lt (cd * h) some
  refine ⟨?_, Nat.mul_div_le _ _⟩
  split
  · rw [Nat.mul_add]; omega
  next none => simp [Nat.le_zero.mp (not_lt.mp none)]

theorem shares_bound {α : Type} {total : Nat} (some : 0 < total) (cd : Nat) (h : α → Nat) (l : List α) :
    cd * (l.map h).sum + (l.map fun a => if 0 < h a then 1 else 0).sum ≤
      total * ((l.map fun a => cd * h a / total).sum + (l.map fun a => if 0 < h a then 1 else 0).sum) ∧
    total * (l.map fun a => cd * h a / total).sum ≤ cd * (l.map h).sum := by
  induction l with
  | nil => simp
  | cons a l ih =>
    obtain ⟨upper, lower⟩ := share_bound some cd (h a)
    simp only [List.map_cons, List.sum_cons, Nat.mul_add] at upper ih ⊢
    omega

theorem exists_headroom {α : Type} (h : α → Nat) (l : List α) (some : 0 < (l.map h).sum) :
    0 < (l.map fun a => if 0 < h a then 1 else 0).sum := by
  by_contra none
  have empty : ∀ a ∈ l, h a = 0 := by
    intro a mem
    have zero := List.sum_eq_zero_iff.mp (Nat.le_zero.mp (not_lt.mp none)) _ (List.mem_map_of_mem mem)
    split at zero
    · cases zero
    · omega
  rw [List.map_congr_left empty] at some
  simp at some

/-- The remainder of the floor shares: what they leave of CD, and less than the number of units with headroom (R111). -/
theorem shareRemainder_spec {s : State} {cd : Nat} (short : cd < totalHeadroom s) :
    ((eligibleUnits s).map (floorShare s cd)).sum + shareRemainder s cd = cd ∧
    shareRemainder s cd < ((eligibleUnits s).filter fun v => decide (0 < cutHeadroom s v)).length := by
  have headroom : 0 < totalHeadroom s := by omega
  obtain ⟨upper, lower⟩ := shares_bound headroom cd (cutHeadroom s) (eligibleUnits s)
  have units := exists_headroom (cutHeadroom s) (eligibleUnits s) headroom
  have count : ((eligibleUnits s).map fun a => if 0 < cutHeadroom s a then 1 else 0).sum =
      ((eligibleUnits s).filter fun v => decide (0 < cutHeadroom s v)).length := by
    simpa using sum_indicator (eligibleUnits s) fun v => decide (0 < cutHeadroom s v)
  have within : ((eligibleUnits s).map (floorShare s cd)).sum ≤ cd :=
    Nat.le_of_mul_le_mul_left (lower.trans_eq (Nat.mul_comm cd _)) headroom
  have beyond : totalHeadroom s * cd < totalHeadroom s * (((eligibleUnits s).map (floorShare s cd)).sum +
      ((eligibleUnits s).filter fun v => decide (0 < cutHeadroom s v)).length) := by
    rw [Nat.mul_comm, ← count]
    exact lt_of_lt_of_le (Nat.lt_add_of_pos_right units) upper
  have := Nat.lt_of_mul_lt_mul_left beyond
  unfold shareRemainder
  omega

/-- An entry of an ascending list stands in its first `r` when fewer than `r` entries are below it. -/
theorem mem_take_iff_below {n : Nat} (l : List (Fin n)) (ascending : l.Pairwise (· < ·)) (r : Nat) (u : Fin n) (there : u ∈ l) :
    u ∈ l.take r ↔ (l.filter fun v => decide (v < u)).length < r := by
  induction l generalizing r with
  | nil => cases there
  | cons a l ih =>
    obtain ⟨first, rest⟩ := List.pairwise_cons.mp ascending
    cases r with
    | zero => simp
    | succ r =>
      rcases List.mem_cons.mp there with rfl | later
      · have none : (l.filter fun v => decide (v < u)) = [] :=
          List.filter_eq_nil_iff.mpr fun v mem => by simpa using (first v mem).le
        simp [none]
      · have below := first u later
        simp [below, below.ne', ih rest r later]

theorem takesRemainder_iff (s : State) (cd : Nat) (u : UnitNo) (takes : Eligible s u) : takesRemainder s cd u = true ↔
    0 < cutHeadroom s u ∧ overEligible s (fun v => if v < u ∧ 0 < cutHeadroom s v then 1 else 0) < shareRemainder s cd := by
  have count : overEligible s (fun v => if v < u ∧ 0 < cutHeadroom s v then 1 else 0) =
      (((eligibleUnits s).filter fun v => decide (0 < cutHeadroom s v)).filter fun v => decide (v < u)).length := by
    rw [overEligible_eq, List.filter_filter, ← sum_indicator]
    simp
  rw [takesRemainder, List.contains_iff_mem, count]
  by_cases headroom : 0 < cutHeadroom s u
  · rw [mem_take_iff_below _ ((eligibleUnits_ascending s).filter _) _ u
      (List.mem_filter.mpr ⟨(mem_eligibleUnits s u).mpr takes, by simpa using headroom⟩)]
    exact ⟨fun few => ⟨headroom, few⟩, And.right⟩
  · exact ⟨fun mem => absurd (by simpa using (List.mem_filter.mp (List.mem_of_mem_take mem)).2) headroom,
      fun ⟨positive, _⟩ => absurd positive headroom⟩

theorem cutHeadroom_int (s : State) (u : UnitNo) : (cutHeadroom s u : Int) =
    max 0 ((s.unit u).live.values.output - ((s.unit u).effFloor s.mode : Int)) := by
  unfold cutHeadroom pvOutput
  omega

theorem allocatedCut_of_whole {s : State} {cd : Nat} (whole : totalHeadroom s ≤ cd) (u : UnitNo) :
    allocatedCut s cd u = cutHeadroom s u := if_pos whole

theorem allocatedCut_of_short {s : State} {cd : Nat} (short : cd < totalHeadroom s) (u : UnitNo) :
    allocatedCut s cd u = floorShare s cd u + if takesRemainder s cd u = true then 1 else 0 := if_neg (by omega)

theorem cutShares (s : State) (cd : Nat) : CutShares s cd where
  whoReach := reachable_iff s
  whoTakes := eligible_iff s
  listed := ⟨mem_eligibleUnits s, eligibleUnits_ascending s⟩
  headroom := cutHeadroom_int s
  total := (overEligible_eq s _).symm
  whole whole u _ := allocatedCut_of_whole whole u
  share short := by
    rintro _ r rfl parts
    obtain ⟨sum, few⟩ := shareRemainder_spec short
    have same : r = shareRemainder s cd := by
      rw [overEligible_eq] at parts
      exact Nat.add_left_cancel (parts.trans sum.symm)
    subst same
    refine ⟨?_, fun u takes => ?_⟩
    · rw [overEligible_eq]
      have count := sum_indicator (eligibleUnits s) fun v => decide (0 < cutHeadroom s v)
      simp only [decide_eq_true_eq] at count
      rwa [count]
    · rw [allocatedCut_of_short short, if_congr (takesRemainder_iff s cd u takes) rfl rfl]
      rfl

/-- No cut exceeds its unit's headroom. -/
theorem allocatedCut_le {s : State} {cd : Nat} (u : UnitNo) : allocatedCut s cd u ≤ cutHeadroom s u := by
  by_cases whole : totalHeadroom s ≤ cd
  · exact (allocatedCut_of_whole whole u).le
  · have short : cd < totalHeadroom s := by omega
    rw [allocatedCut_of_short short]
    have positive : 0 < totalHeadroom s := by omega
    by_cases headroom : 0 < cutHeadroom s u
    · have : floorShare s cd u < cutHeadroom s u := by
        rw [floorShare, Nat.div_lt_iff_lt_mul positive, Nat.mul_comm]
        exact Nat.mul_lt_mul_of_pos_left short headroom
      split <;> omega
    · have out : takesRemainder s cd u = false := by
        rw [Bool.eq_false_iff, takesRemainder, ne_eq, List.contains_iff_mem]
        exact fun mem => headroom (by simpa using (List.mem_filter.mp (List.mem_of_mem_take mem)).2)
      have zero : cutHeadroom s u = 0 := by omega
      simp [out, floorShare, zero]

/-- The cuts total the demand, when it is below the total headroom (R111). -/
theorem allocatedCut_sum {s : State} {cd : Nat} (short : cd < totalHeadroom s) :
    ((eligibleUnits s).map (allocatedCut s cd)).sum = cd := by
  obtain ⟨sum, few⟩ := shareRemainder_spec short
  have takers : ((eligibleUnits s).filter (takesRemainder s cd)).length = shareRemainder s cd := by
    have distinct := ((eligibleUnits_ascending s).imp fun lt => ne_of_lt lt : (eligibleUnits s).Nodup)
    have same : ((eligibleUnits s).filter (takesRemainder s cd)).Perm
        (((eligibleUnits s).filter fun v => decide (0 < cutHeadroom s v)).take (shareRemainder s cd)) := by
      refine (List.perm_ext_iff_of_nodup (distinct.filter _) ((distinct.filter _).sublist (List.take_sublist _ _))).mpr fun u => ?_
      rw [List.mem_filter, takesRemainder, List.contains_iff_mem]
      exact ⟨And.right, fun mem => ⟨(List.mem_filter.mp (List.mem_of_mem_take mem)).1, mem⟩⟩
    rw [same.length_eq, List.length_take, Nat.min_eq_left few.le]
  rw [List.map_congr_left fun u _ => allocatedCut_of_short short u, sum_map_add, sum_indicator, takers, sum]

/-! ## Proposals -/

theorem ceiling_of_on {r : UnitRec} (window : r.winLow ≤ r.winHigh) : r.ceiling = min r.rating r.winHigh := by
  simp [UnitRec.ceiling, UnitRec.windowOn, window]

theorem lowering_of_lower {commanded : Option Nat} {cap : Nat} (lower : ∀ c : Nat, commanded = some c → cap < c) :
    lowering commanded cap = .value cap := by
  cases commanded with
  | none => rfl
  | some c => exact if_neg (not_le.mpr (lower c rfl))

theorem cutProposal_of_out {s : State} {u : UnitNo} (cd : Nat) (out : eligible s u = false) : cutProposal s cd u = .unchanged := by
  simp [cutProposal, out]

/-- The cap that a cut proposes for a unit it reaches, held to what is commanded already (R110, R112). -/
theorem cutProposal_of_cut {s : State} {u : UnitNo} {cd cap : Nat} (takes : eligible s u = true)
    (cut : totalHeadroom s ≤ cd ∧ cap = (s.unit u).effFloor s.mode ∨ cd < totalHeadroom s ∧ 0 < allocatedCut s cd u ∧
      cap = min ((s.unit u).live.values.output.toNat - allocatedCut s cd u) (s.unit u).ceiling) :
    cutProposal s cd u = lowering (s.unit u).pvJob.commanded cap := by
  rcases cut with ⟨whole, rfl⟩ | ⟨short, some, rfl⟩
  · simp [cutProposal, takes, whole]
  · simp [cutProposal, takes, not_le.mpr short, some.ne', pvOutput]

theorem cutProposal_of_no_cut {s : State} {u : UnitNo} {cd : Nat} (takes : eligible s u = true) (short : cd < totalHeadroom s)
    (none : allocatedCut s cd u = 0) : cutProposal s cd u = .unchanged := by
  simp [cutProposal, takes, not_le.mpr short, none]

theorem floor_le_cut {s : State} {u : UnitNo} {cd cap : Nat} (takes : eligible s u = true)
    (cut : totalHeadroom s ≤ cd ∧ cap = (s.unit u).effFloor s.mode ∨ cd < totalHeadroom s ∧ 0 < allocatedCut s cd u ∧
      cap = min ((s.unit u).live.values.output.toNat - allocatedCut s cd u) (s.unit u).ceiling) :
    (s.unit u).effFloor s.mode ≤ cap ∧ cap ≤ (s.unit u).ceiling := by
  have bounds := ((eligible_iff s u).mp takes).bounds
  rcases cut with ⟨-, rfl⟩ | ⟨-, some, rfl⟩
  · exact ⟨le_rfl, bounds⟩
  · have within : allocatedCut s cd u ≤ (s.unit u).live.values.output.toNat - (s.unit u).effFloor s.mode := allocatedCut_le u
    omega

theorem effFloor_of (r : UnitRec) (m : Mode) : r.effFloor m =
    if m = .restore then (if r.winLow ≤ r.winHigh then r.winLow else 0)
    else max r.pv.floor (if r.winLow ≤ r.winHigh then r.winLow else 0) := by
  simp [UnitRec.effFloor, UnitRec.windowOn]

/-- The bounds of a unit (R37, R106). -/
theorem bounds_of_window (r : UnitRec) (m : Mode) :
    (r.winLow ≤ r.winHigh → r.ceiling = min r.rating r.winHigh ∧
      (m ≠ .restore → r.effFloor m = max r.pv.floor r.winLow) ∧ r.effFloor .restore = r.winLow ∧
      (r.curtailable m = true ↔ r.effFloor m ≤ r.ceiling)) ∧
    (r.winHigh < r.winLow → r.curtailable m = false ∧ r.ceiling = r.rating ∧
      (m ≠ .restore → r.effFloor m = r.pv.floor) ∧ r.effFloor .restore = 0) := by
  refine ⟨fun on => ⟨ceiling_of_on on, fun other => ?_, ?_, ?_⟩, fun off => ⟨?_, ?_, fun other => ?_, ?_⟩⟩
  · rw [effFloor_of, if_neg other, if_pos on]
  · rw [effFloor_of, if_pos rfl, if_pos on]
  · rw [curtailable_iff]
    exact and_iff_right on
  · rw [Bool.eq_false_iff, ne_eq, curtailable_iff]
    exact fun ⟨on, _⟩ => not_le.mpr off on
  · simp [UnitRec.ceiling, UnitRec.windowOn, off]
  · rw [effFloor_of, if_neg other, if_neg (not_le.mpr off), Nat.max_zero]
  · rw [effFloor_of, if_pos rfl, if_neg (not_le.mpr off)]

theorem releaseTest_iff (s : State) : releaseTest s = true ↔
    (s.settings.releaseMargin : Int) ≤ (sumUnits s.units fun r =>
      if r.kind = .genset ∧ r.gensetJob.dispatch = .online
      then max 0 r.live.values.output - (((r.rating * r.genset.minLoad + 99) / 100 : Nat) : Int) else 0) ∧
    s.balance.published.fValid = true ∧ s.balance.published.f < s.settings.fHigh ∧ frozen s = false := by
  have headroom : releaseHeadroom s = sumUnits s.units fun r =>
      if r.kind = .genset ∧ r.gensetJob.dispatch = .online
      then max 0 r.live.values.output - (((r.rating * r.genset.minLoad + 99) / 100 : Nat) : Int) else 0 :=
    sumUnits_congr fun _ => if_congr dispatchIs_iff rfl rfl
  simp only [releaseTest, Bool.and_eq_true, decide_eq_true_eq, Bool.not_eq_true', headroom, and_assoc]

theorem planBound_eq (s : State) (r : UnitRec) :
    planBound s r = if s.mode = .restore then s.alloc.planLimit.map (fun pct => r.rating * pct / 100) else none := by
  simp [planBound]

theorem releaseProposal_of_unreached {s : State} {u : UnitNo} (out : reachable s u = false) :
    releaseProposal s u = .unchanged := by
  unfold releaseProposal
  rw [out]

theorem releaseProposal_of_uncapped {s : State} {u : UnitNo} (none : (s.unit u).pvJob.commanded = none) :
    releaseProposal s u = .unchanged := by
  unfold releaseProposal
  rw [none]
  cases reachable s u <;> rfl

theorem releaseProposal_of_cap {s : State} {u : UnitNo} {cap : Nat} (reach : reachable s u = true)
    (capped : (s.unit u).pvJob.commanded = some cap) : releaseProposal s u = releaseFrom s u cap := by
  unfold releaseProposal
  rw [reach, capped]

/-- The release of an eligible unit (R115). -/
theorem releaseFrom_of_eligible {s : State} {u : UnitNo} {cap t : Nat} {l : Option Nat} (takes : eligible s u = true)
    (raised : t = cap + s.settings.releaseStep) (limit : l = planBound s (s.unit u)) : releaseFrom s u cap =
    if (s.unit u).rating ≤ t ∧ (s.unit u).ceiling = (s.unit u).rating ∧ (∀ x : Nat, l = some x → (s.unit u).rating ≤ x) then
      if (s.unit u).permits.clearCap then .clear else .value (s.unit u).rating
    else .value (max ((s.unit u).effFloor s.mode) (min (min t (s.unit u).ceiling) (l.getD (min t (s.unit u).ceiling)))) := by
  subst raised limit
  simp only [releaseFrom, takes, if_true]
  cases planBound s (s.unit u) <;> simp [and_assoc]

/-- The release of a unit that takes no cap (R115). -/
theorem releaseFrom_of_ineligible {s : State} {u : UnitNo} {cap : Nat} (out : eligible s u = false) : releaseFrom s u cap =
    if (s.unit u).curtailable s.mode = true then .unchanged
    else if s.mode = .active ∧ (s.unit u).permits.clearCap = true then .clear else .unchanged := by
  simp [releaseFrom, out]

theorem boundTarget_eq (s : State) (u : UnitNo) : boundTarget s u = max ((s.unit u).effFloor s.mode)
    (min (s.unit u).ceiling ((planBound s (s.unit u)).getD (s.unit u).ceiling)) := by
  unfold boundTarget
  cases limit : planBound s (s.unit u) <;> simp [limit]

theorem applyBound_of_out {s : State} {u : UnitNo} (p : Proposal) (out : eligible s u = false) : applyBound s u p = p := by
  simp [applyBound, out]

theorem applyBound_unchanged {s : State} {u : UnitNo} (takes : eligible s u = true) :
    applyBound s u .unchanged = (s.unit u).pvJob.commanded.elim (.value (boundTarget s u))
      fun c => if boundTarget s u < c then .value (boundTarget s u) else .unchanged := by
  simp only [applyBound, takes]
  cases (s.unit u).pvJob.commanded <;> rfl

/-! ## Requests -/

/-- Two states show the clock, the tracker and the items of the Allocator, the Dispatcher, the Shed Controller and the Sequencer
alike: what a request of one of the four leaves of them. -/
structure JobsStand (s t : State) : Prop where
  now        : t.now = s.now
  epoch      : t.tracker = s.tracker
  alloc      : t.alloc = s.alloc
  dispatcher : t.dispatcher = s.dispatcher
  shed       : t.shed = s.shed
  seqr       : t.seqr = s.seqr
  service    : t.service = s.service
  balance    : t.balance = s.balance
  agenda     : t.agenda = s.agenda

theorem JobsStand.refl (s : State) : JobsStand s s := ⟨rfl, rfl, rfl, rfl, rfl, rfl, rfl, rfl, rfl⟩

theorem JobsStand.trans {s t u : State} (a : JobsStand s t) (b : JobsStand t u) : JobsStand s u :=
  ⟨b.now.trans a.now, b.epoch.trans a.epoch, b.alloc.trans a.alloc, b.dispatcher.trans a.dispatcher, b.shed.trans a.shed,
    b.seqr.trans a.seqr, b.service.trans a.service, b.balance.trans a.balance, b.agenda.trans a.agenda⟩

theorem RecordWork.jobs {s t : State} (h : RecordWork s t) : JobsStand s t :=
  ⟨h.outside.now, h.outside.tracker, h.outside.alloc, h.outside.dispatcher, h.outside.shed, h.outside.seqr,
    h.outside.service, h.outside.balance, h.outside.agenda⟩

theorem requestOrder_refused {s : State} {u : UnitNo} {k : OrderKind} {w : Owner} {why : Refuse}
    (v : Option Nat) (step : Option (Fin 32)) (plain : orderClass w k ≠ .urgent)
    (refused : judgeRequest s u k w = .refused why) : requestOrder s u k v w step = (s, .refused why) := by
  obtain ⟨answer, leaves⟩ := requestOrder_spec s u k v w step
  rw [refused] at answer leaves
  refine Prod.ext ?_ answer
  cases why with
  | noSlot => simpa [plain] using leaves
  | wrongMode | notPermitted | held | noCredit => exact leaves

/-- What a request that is not refused leaves of the records and of its slot. -/
theorem requestOrder_granted {s : State} {u : UnitNo} {k : OrderKind} {w : Owner} {i : SlotNo} (v : Option Nat)
    (step : Option (Fin 32)) (granted : judgeRequest s u k w = .created i ∨ judgeRequest s u k w = .coalesced i) :
    (requestOrder s u k v w step).1.units = s.units ∧
    ((requestOrder s u k v w step).1.slot i).map (fun o => (o.target, o.kind, o.value)) = some (u, k, v) := by
  obtain ⟨-, leaves⟩ := requestOrder_spec s u k v w step
  rcases granted with made | joined
  · rw [made] at leaves
    refine ⟨leaves.outside.units, ?_⟩
    have filled : (Machine.granted s i u k v w step).slot i = some (newOrder s u k v w step) := by
      simp [Machine.granted, State.slot, vectorGet_set]
    obtain ⟨o, there, same⟩ := Option.map_eq_some_iff.mp ((leaves.slots i).trans (congrArg _ filled))
    rw [there]
    simp only [Order.content, newOrder, Prod.mk.injEq] at same
    obtain ⟨target, kind, value, -⟩ := same
    simp [target, kind, value]
  · rw [joined] at leaves
    obtain ⟨-, o, there, rfl, -⟩ := coalesceSlot_some (judgeRequest_coalesced joined).2.2
    rw [leaves]
    simp only [rewriteSlot, there]
    exact ⟨rfl, by simp⟩

theorem requestOrder_stands (s : State) (u : UnitNo) (k : OrderKind) (v : Option Nat) (w : Owner) (step : Option (Fin 32)) :
    JobsStand s (requestOrder s u k v w step).1 := by
  obtain ⟨-, leaves⟩ := requestOrder_spec s u k v w step
  split at leaves
  next i _ =>
    exact JobsStand.trans (t := granted s i u k v w step) ⟨rfl, rfl, rfl, rfl, rfl, rfl, rfl, rfl, rfl⟩ leaves.jobs
  · rw [leaves]
    unfold rewriteSlot
    split
    · exact .refl s
    · exact ⟨rfl, rfl, rfl, rfl, rfl, rfl, rfl, rfl, rfl⟩
  · rw [leaves]
    split
    · exact (rise_work s _).jobs
    · exact .refl s
  · rw [leaves]
    exact .refl s

theorem askCap_stands (s : State) (u : UnitNo) (cap : Option Nat) : JobsStand s (askCap s u cap) := by
  unfold askCap
  split
  · exact .refl s
  · refine (requestOrder_stands s u (if cap.isSome then .setCap else .clearCap) cap .curtail none).trans ?_
    show JobsStand _ (takeAnswer _ u cap (requestOrder s u _ cap .curtail none).2)
    cases (requestOrder s u (if cap.isSome then .setCap else .clearCap) cap .curtail none).2 with
    | created i | coalesced i => exact ⟨rfl, rfl, rfl, rfl, rfl, rfl, rfl, rfl, rfl⟩
    | refused why => exact .refl _

theorem askCap_of_commanded {s : State} {u : UnitNo} {cap : Option Nat} (same : (s.unit u).pvJob.commanded = cap) :
    askCap s u cap = s := if_pos (by simpa using same)

theorem askCap_of_new {s : State} {u : UnitNo} {cap : Option Nat} (new : (s.unit u).pvJob.commanded ≠ cap) :
    askCap s u cap = takeAnswer (requestOrder s u (if cap.isSome then .setCap else .clearCap) cap .curtail none).1 u cap
      (judgeRequest s u (if cap.isSome then .setCap else .clearCap) .curtail) := by
  unfold askCap
  rw [if_neg (by simpa using new), ← (requestOrder_spec s u _ cap .curtail none).1]

theorem askAll_eq (s : State) (p : UnitNo → Proposal) : askAll s p = requestsMade s p := by
  unfold askAll requestsMade
  rw [List.foldl_map]
  rfl

theorem askAll_stands (s : State) (p : UnitNo → Proposal) : JobsStand s (askAll s p) := by
  unfold askAll
  generalize allUnits.map (fun u => (u, p u)) = l
  induction l generalizing s with
  | nil => exact .refl s
  | cons x l ih =>
    refine .trans ?_ (ih _)
    unfold askProposal
    split
    · exact .refl s
    · exact askCap_stands s _ _
    · exact askCap_stands s _ _

/-! ## Decisions -/

theorem proposes_decision {s : State} {b : UnitNo → Proposal} (proposes : ∀ u : UnitNo, Proposes s u (b u)) :
    b = decisionProposal s := by
  funext u
  obtain ⟨disabled, cut, release, rest⟩ := proposes u
  unfold decisionProposal
  cases enabled : s.settings.curtailEnable with
  | false => exact disabled enabled
  | true =>
    simp only [Bool.not_true, Bool.false_eq_true, if_false]
    by_cases demand : 0 < s.balance.published.cd
    · rw [if_pos demand]; exact cut enabled demand
    · rw [if_neg demand]
      have none : s.balance.published.cd = 0 := by omega
      cases test : releaseTest s with
      | false => exact rest enabled none test
      | true => exact release enabled none test

theorem decisionShortfall_eq (s : State) : decisionShortfall s =
    if s.settings.curtailEnable = true then s.balance.published.cd - totalHeadroom s else 0 := rfl

theorem noteShortfall_of_quiet {w : State} {n : Nat} (count : Nat) (quiet : w.alloc.lastShortfall ≠ 0 ∨ n = 0) :
    noteShortfall w n count = setShortfall w n := by
  refine if_neg ?_
  rw [Bool.and_eq_true, beq_iff_eq, decide_eq_true_eq]
  omega

theorem noteShortfall_of_onset {w : State} {n : Nat} (count : Nat) (clear : w.alloc.lastShortfall = 0) (short : 0 < n) :
    noteShortfall w n count = rise (record (setShortfall w n) .curtailShortfall none (some (n : Int)) (some count))
      .curtailShortfall := by
  refine if_pos ?_
  rw [Bool.and_eq_true, beq_iff_eq, decide_eq_true_eq]
  exact ⟨clear, short⟩

/-- The end of a decision whose requests are made (R113). -/
theorem noteShortfall_decides {s v w t : State} {n count : Nat} (stands : JobsStand s w)
    (here : v = { w with alloc := { s.alloc with lastShortfall := n } }) (ends : t = noteShortfall w n count) :
    ((s.alloc.lastShortfall ≠ 0 ∨ n = 0) → t = v) ∧
    (s.alloc.lastShortfall = 0 → 0 < n → RecordWork v t ∧ t.isLatched .curtailShortfall = true ∧
      (logOpen v → t.events.log.get v.events.writeIndex =
        some (recordNow s .curtailShortfall none (some (n : Int)) (some count)))) := by
  have set : v = setShortfall w n := by rw [here, ← stands.alloc]; rfl
  subst set ends
  refine ⟨fun quiet => noteShortfall_of_quiet count (by rwa [stands.alloc]), fun clear short => ?_⟩
  rw [noteShortfall_of_onset count (by rwa [stands.alloc]) short]
  refine ⟨(record_work _ _ _ _ _).trans (rise_work _ _), rise_latched _ _, fun room => ?_⟩
  refine (rise_work _ _).log _ _ ?_
  rw [record_log room]
  simp [recordNow, setShortfall, stands.now, stands.epoch]

/-- What a completion does at the Allocator (R108). -/
theorem allocatorCompletion_decides (s : State) : AllocatorDecides s (allocatorCompletion s) where
  idle := by
    unfold allocatorCompletion
    rintro (mode | mode) <;> rw [mode] <;> rfl
  acting mode b p n v proposes bounded short here := by
    obtain rfl := proposes_decision proposes
    have made : allocatorCompletion s = noteShortfall (askAll s p) n (eligibleUnits s).length := by
      rw [short, ← decisionShortfall_eq, funext bounded]
      unfold allocatorCompletion
      rcases mode with mode | mode <;> simp [mode]
    have stands := askAll_stands s p
    refine noteShortfall_decides stands (here.trans ?_) made
    rw [← askAll_eq, ← stands.alloc]

/-- Settles O33: the decision by mode and enable, the shares of a cut, and the proposals, part by part. -/
theorem cutsTotalTheDemand : Obligations.CutsTotalTheDemand := by
  refine ⟨allocatorCompletion_decides, ?_, fun s left => ⟨?_, ?_, ?_⟩, fun s u p => applyBound_of_out p, cutShares,
    fun s cd => ⟨fun u _ => allocatedCut_le u, ?_, allocatedCut_sum⟩, ?_, bounds_of_window, releaseTest_iff, ?_,
    fun s u => releaseProposal_of_uncapped, ?_, ?_⟩
  · rintro s w pct rfl
    exact askAll_eq _ _
  · exact fun restore => if_pos (by simp [restore])
  · exact fun elsewhere left => (if_neg (by simpa using elsewhere)).trans (if_pos (by simp [left]))
  · exact fun elsewhere stayed => (if_neg (by simpa using elsewhere)).trans (if_neg (by simpa using stayed))
  · exact fun whole => congrArg List.sum (List.map_congr_left fun u _ => allocatedCut_of_whole whole u)
  · rintro s cd u _ rfl
    refine ⟨cutProposal_of_out cd, fun takes cap cut => ?_, cutProposal_of_no_cut⟩
    obtain ⟨above, below⟩ := floor_le_cut takes cut
    rw [cutProposal_of_cut takes cut]
    refine ⟨above, below, lowering_of_lower, fun ⟨c, capped, low⟩ => ?_⟩
    rw [capped]
    exact if_pos low
  · intro s u cap t l top capped raised limit tops
    rw [← planBound_eq] at limit
    have release (reach : reachable s u = true) := releaseProposal_of_cap reach capped
    have reached (takes : eligible s u = true) := ((eligible_iff_parts s u).mp takes).1
    have spared (why : ¬ ((s.unit u).permits.setCap = true ∧ (s.unit u).curtailable s.mode = true)) : eligible s u = false :=
      Bool.eq_false_iff.mpr fun takes => why ((eligible_iff_parts s u).mp takes).2
    refine ⟨releaseProposal_of_unreached, fun takes high => ?_, fun takes low => ⟨_, ?_, rfl⟩, fun reach fixed active => ?_,
      fun reach fixed restore => ?_, fun reach bends forbidden => ?_⟩
    · rw [release (reached takes), releaseFrom_of_eligible takes raised limit, if_pos (tops.mp high)]
    · rw [release (reached takes), releaseFrom_of_eligible takes raised limit,
        if_neg fun high => by simp [tops.mpr high] at low]
    · rw [release reach, releaseFrom_of_ineligible (spared (by simp [fixed]))]
      rw [fixed, active]
      simp
    · rw [release reach, releaseFrom_of_ineligible (spared (by simp [fixed]))]
      rw [fixed, restore]
      simp
    · rw [release reach, releaseFrom_of_ineligible (spared (by simp [forbidden])), if_pos bends]
  · intro s u t l takes limit target
    rw [← planBound_eq] at limit
    rw [limit, ← boundTarget_eq] at target
    subst target
    refine ⟨fun c => by simp [applyBound, takes], by simp [applyBound, takes], fun lower => ?_, fun ⟨c, capped, low⟩ => ?_⟩
    · rw [applyBound_unchanged takes]
      cases capped : (s.unit u).pvJob.commanded with
      | none => rfl
      | some c => exact if_pos (lower c capped)
    · rw [applyBound_unchanged takes, capped]
      exact if_neg (not_lt.mpr low)
  · rintro s _ u cap _ rfl rfl
    refine ⟨askCap_of_commanded, fun new => ⟨fun why refused => ?_, fun i granted => ?_⟩⟩
    · rw [askCap_of_new new, requestOrder_refused _ _ (by cases cap <;> exact nofun) refused, refused]
      rfl
    · obtain ⟨units, filled⟩ := requestOrder_granted cap none granted
      have taken : askCap s u cap = (requestOrder s u (if cap.isSome then .setCap else .clearCap) cap .curtail none).1.setPv u
          { (s.unit u).pvJob with commanded := cap, setpoint := .ordered, slot := some i } := by
        rw [askCap_of_new new, ← unit_of_units units u]
        rcases granted with answer | answer <;> rw [answer] <;> rfl
      rw [taken]
      refine ⟨?_, fun w other => ?_, filled⟩
      · rw [unit_setPv, if_pos rfl, unit_of_units units u]
      · rw [unit_setPv, if_neg other, unit_of_units units w]

end Sys2Proof.Machine
end

section
/-! A pass completion (R101) and what the Dispatcher, the Shed Controller and the Sequencer decide at it. -/

namespace Sys2Proof.Machine

/-! ## Sorting -/

/-- One unit stands before another in a list sorted by a key: a lower key, or the same key and a lower number. -/
def SortedBefore (key : UnitNo → Nat) (v u : UnitNo) : Prop := key v < key u ∨ key v = key u ∧ v < u

theorem insertBy_sorted (key : UnitNo → Nat) (u : UnitNo) (l : List UnitNo) (sorted : l.Pairwise (SortedBefore key))
    (last : ∀ v ∈ l, v < u) : (insertBy key u l).Pairwise (SortedBefore key) := by
  induction l with
  | nil => exact List.pairwise_singleton _ _
  | cons v vs ih =>
    obtain ⟨first, rest⟩ := List.pairwise_cons.mp sorted
    have below := last v List.mem_cons_self
    unfold insertBy
    split
    next le =>
      refine List.pairwise_cons.mpr ⟨fun x mem => ?_, ih rest fun x mem => last x (List.mem_cons_of_mem _ mem)⟩
      rcases List.mem_cons.mp ((insertBy_perm key u vs).mem_iff.mp mem) with rfl | old
      · exact (Nat.lt_or_eq_of_le le).imp_right fun eq => ⟨eq, below⟩
      · exact first x old
    next gt =>
      refine List.pairwise_cons.mpr ⟨fun x mem => .inl ?_, sorted⟩
      rcases List.mem_cons.mp mem with rfl | old
      · exact not_le.mp gt
      · exact lt_of_lt_of_le (not_le.mp gt) ((first x old).elim Nat.le_of_lt fun same => same.1.le)

/-- Units sorted by a key stand in ascending key, and those of equal key in ascending number. -/
theorem sortBy_sorted (key : UnitNo → Nat) (us : List UnitNo) (ascending : us.Pairwise (· < ·)) :
    (sortBy key us).Pairwise (SortedBefore key) := by
  have main : ∀ us acc : List UnitNo, us.Pairwise (· < ·) → acc.Pairwise (SortedBefore key) →
      (∀ v ∈ acc, ∀ u ∈ us, v < u) → (us.foldl (fun a u => insertBy key u a) acc).Pairwise (SortedBefore key) := by
    intro us
    induction us with
    | nil => exact fun _ _ sorted _ => sorted
    | cons u us ih =>
      intro acc rises sorted below
      obtain ⟨first, rest⟩ := List.pairwise_cons.mp rises
      refine ih _ rest (insertBy_sorted key u acc sorted fun v mem => below v mem u List.mem_cons_self) fun v mem w later => ?_
      rcases List.mem_cons.mp ((insertBy_perm key u acc).mem_iff.mp mem) with rfl | old
      · exact first w later
      · exact below v old w (List.mem_cons_of_mem _ later)
  exact main us [] ascending List.Pairwise.nil (fun _ mem => absurd mem List.not_mem_nil)

/-! ## Requests -/

/-- What a created order of no value leaves. -/
theorem requestOrder_created {s : State} {u : UnitNo} {k : OrderKind} {w : Owner} {i : SlotNo} {step : Option (Fin 32)}
    (created : judgeRequest s u k w = .created i) :
    RecordWork (granted s i u k none w step) (requestOrder s u k none w step).1 ∧
      OrderMade s (requestOrder s u k none w step).1 i u k w step := by
  obtain ⟨-, leaves⟩ := requestOrder_spec s u k none w step
  rw [created] at leaves
  refine ⟨leaves, (leaves.slots i).trans ?_⟩
  simp [granted, State.slot, vectorGet_set, Order.content, newOrder, nextNumber]

theorem OrderMade.congr {s t t' : State} {i : SlotNo} {u : UnitNo} {k : OrderKind} {w : Owner} {step : Option (Fin 32)}
    (h : OrderMade s t i u k w step) (same : (t'.slot i).map Order.content = (t.slot i).map Order.content) :
    OrderMade s t' i u k w step := same.trans h

theorem judgeRequest_congr {s t : State} (units : t.units = s.units) (orders : t.orders = s.orders) (now : t.now = s.now)
    (mode : t.mode = s.mode) (egress : t.egress = s.egress) (u : UnitNo) (k : OrderKind) (w : Owner) :
    judgeRequest t u k w = judgeRequest s u k w := by
  have slot : t.slot = s.slot := by funext i; simp [State.slot, orders]
  have coalesce : coalesceSlot t u k = coalesceSlot s u k := by
    have can : canCoalesce t u = canCoalesce s u := by
      funext i
      simp only [canCoalesce, slot, State.unhanded, queue_of_egress egress]
    simp only [coalesceSlot, can]
  simp only [judgeRequest, mode, unit_of_units units, now, coalesce, State.inFlight, State.nonUrgent, State.freeSlot, slot]
  rfl

/-! ## The start decision -/

theorem mayStart_iff (s : State) (u : UnitNo) : u ∈ startCandidates s ↔ MayStart s u := by
  rw [startCandidates, (sortBy_perm _ _).mem_iff, List.mem_filter]
  simp only [mem_allUnits, true_and, Bool.and_eq_true, dispatchIs_iff, Bool.not_eq_true', holdCurrent_eq_false_iff]
  have due : absentOrDue s.now (s.unit u).gensetJob.retryAfter = true ↔
      ∀ d : Time, (s.unit u).gensetJob.retryAfter = some d → reached s.now d = true := by
    cases (s.unit u).gensetJob.retryAfter <;> simp [absentOrDue]
  rw [due]
  exact ⟨fun ⟨⟨⟨stopped, rested⟩, noHold⟩, permits⟩ => ⟨stopped, rested, noHold, permits⟩,
    fun ⟨stopped, rested, noHold, permits⟩ => ⟨⟨⟨stopped, rested⟩, noHold⟩, permits⟩⟩

theorem startCandidates_sorted (s : State) : (startCandidates s).Pairwise (AskedBefore s) :=
  sortBy_sorted _ _ ((List.pairwise_lt_finRange 64).filter _)

theorem startsUnderWay_eq (s : State) : startsUnderWay s = underWay s := by
  unfold startsUnderWay underWay
  refine congrArg List.length (List.filter_congr fun u _ => ?_)
  rw [Bool.eq_iff_iff, decide_eq_true_eq, UnitRec.isStarting, Bool.or_eq_true, dispatchIs_iff, dispatchIs_iff]
  tauto

/-- Candidates passed over leave the decision to the rest, with a NO_CREDIT among them noted. -/
theorem askStarts_passes {s : State} {credit : Bool} (pre rest : List UnitNo) (passed : ∀ v ∈ pre, PassedOver s v) :
    ∃ noted : Bool, askStarts s credit (pre ++ rest) = askStarts s noted rest ∧
      (noted = true ↔ credit = true ∨ ∃ v ∈ pre, judgeRequest s v .start .dispatch = .refused .noCredit) := by
  induction pre generalizing credit with
  | nil => exact ⟨credit, rfl, by simp⟩
  | cons v pre ih =>
    have later : ∀ x ∈ pre, PassedOver s x := fun x mem => passed x (List.mem_cons_of_mem _ mem)
    have answered (why : Refuse) (refused : judgeRequest s v .start .dispatch = .refused why) :
        requestOrder s v .start none .dispatch none = (s, .refused why) := requestOrder_refused _ _ nofun refused
    rcases passed v List.mem_cons_self with spent | held
    · obtain ⟨noted, goes, names⟩ := ih (credit := true) later
      refine ⟨noted, ?_, by simp [names, spent]⟩
      rw [← goes, List.cons_append, askStarts, answered _ spent]
    · obtain ⟨noted, goes, names⟩ := ih (credit := credit) later
      refine ⟨noted, ?_, by simp [names, held]⟩
      rw [← goes, List.cons_append, askStarts, answered _ held]

/-- A gen-set asked for an order of a kind: the order is made and the gen-set enters a state with it open. -/
theorem asked_becomes {s w : State} {u : UnitNo} {k : OrderKind} {i : SlotNo} {owner : Owner} {step : Option (Fin 32)}
    (created : judgeRequest s u k owner = .created i) (work : w = (requestOrder s u k none owner step).1) (d : DispatchState) :
    ∀ t : State, t = enterDispatch (w.setGenset u { (w.unit u).gensetJob with openOrder := some ⟨k, i, owner⟩ }) u d →
      OrderMade s t i u k owner step ∧ (∀ v : UnitNo, v ≠ u → t.unit v = s.unit v) ∧
      t.unit u = { s.unit u with gensetJob := {
        (s.unit u).gensetJob with openOrder := some ⟨k, i, owner⟩, dispatch := d } } ∧
      t.dispatcher = { s.dispatcher with commit := listAfter s.dispatcher.commit u d } ∧ t.seqr = s.seqr ∧
      t.service = s.service ∧ t.now = s.now ∧ t.shed = s.shed := by
  rintro t rfl
  obtain ⟨granted, made⟩ := requestOrder_created (step := step) created
  rw [← work] at granted made
  have units (v : UnitNo) : w.unit v = s.unit v := granted.unit v
  have becomes := enterDispatch_becomes (s := w) (u := u)
    (j := { (w.unit u).gensetJob with openOrder := some ⟨k, i, owner⟩ }) rfl d
  obtain ⟨shed, -, -, -, seqr, service, -, now, -, slots⟩ := becomes.frame
  refine ⟨made.congr (slots i), fun v other => (becomes.others v other).trans (units v), ?_, ?_,
    seqr.trans granted.outside.seqr, service.trans granted.outside.service, now.trans granted.outside.now,
    shed.trans granted.outside.shed⟩
  · rw [becomes.unit, units]
  · rw [becomes.commit, granted.outside.dispatcher]
    rfl

/-- What a start decision comes to, once its gate is passed (R126). -/
theorem startDecision_of_wanted {s : State} (wanted : s.balance.published.startWanted = true) (room : underWay s < 2) :
    startDecision s = if startCandidates s = [] then rise (setRetry s false) .reserveShort
      else askStarts (setRetry s false) false (startCandidates s) := by
  have few : startsUnderWay (setRetry s false) < 2 := (startsUnderWay_eq s).symm ▸ room
  have same : startCandidates (setRetry s false) = startCandidates s := rfl
  unfold startDecision
  simp only
  rw [if_pos (by simp only [Bool.and_eq_true, decide_eq_true_eq]; exact ⟨wanted, few⟩), same]
  cases startCandidates s <;> simp

theorem startDecision_of_reached {s : State} {u : UnitNo} (wanted : s.balance.published.startWanted = true)
    (room : underWay s < 2) (reaches : StartReaches s u) :
    ∃ (noted : Bool) (later : List UnitNo), startDecision s = askStarts (setRetry s false) noted (u :: later) := by
  obtain ⟨may, before⟩ := reaches
  have listed := (mayStart_iff s u).mpr may
  obtain ⟨pre, later, split_⟩ := List.append_of_mem listed
  have sorted := startCandidates_sorted s
  rw [split_] at sorted
  have passed : ∀ v ∈ pre, PassedOver (setRetry s false) v := by
    intro v mem
    have asked := (List.pairwise_append.mp sorted).2.2 v mem u List.mem_cons_self
    exact before v ((mayStart_iff s v).mp (split_ ▸ List.mem_append_left _ mem)) asked
  obtain ⟨noted, goes, -⟩ := askStarts_passes (credit := false) pre (u :: later) passed
  refine ⟨noted, later, ?_⟩
  rw [startDecision_of_wanted wanted room, if_neg (List.ne_nil_of_mem listed), split_, goes]

/-! ## The other decisions -/

theorem stopGates_iff (s : State) (c : UnitNo) : stopGates s c = true ↔ StopGates s c := by
  simp only [stopGates, Bool.and_eq_true, decide_eq_true_eq, dispatchIs_iff, Bool.not_eq_true', holdCurrent_eq_false_iff,
    List.isEmpty_iff, beq_iff_eq, startsUnderWay_eq, List.any_eq_true, mem_allUnits, true_and, bne_iff_ne]
  exact ⟨fun ⟨⟨⟨⟨⟨⟨⟨⟨confirmed, online⟩, remote⟩, noHold⟩, permits⟩, unshed⟩, thawed⟩, noStart⟩, another⟩ =>
      ⟨confirmed, online, remote, noHold, permits, unshed, thawed, noStart, another⟩,
    fun ⟨confirmed, online, remote, noHold, permits, unshed, thawed, noStart, another⟩ =>
      ⟨⟨⟨⟨⟨⟨⟨⟨confirmed, online⟩, remote⟩, noHold⟩, permits⟩, unshed⟩, thawed⟩, noStart⟩, another⟩⟩

theorem restoreGates_iff (s : State) (e : StackEntry) : RestoreGates s e ↔
    s.shed.stack.getLast? = some e ∧ (restoreGates s && s.balance.restoreFeeder == some e.feeder &&
      (s.unit e.feeder).feederJob.shed == .shed) = true := by
  have interval : (match s.shed.lastRestore with
      | none => true
      | some t => reached s.now (after t s.settings.restoreInterval)) = true ↔
      ∀ d : Time, s.shed.lastRestore = some d → reached s.now (after d s.settings.restoreInterval) = true := by
    cases s.shed.lastRestore <;> simp
  have nobody : (allUnits.any fun u => (s.unit u).shedIs .restoring) = false ↔
      ∀ u : UnitNo, (s.unit u).kind = .feeder → (s.unit u).feederJob.shed ≠ .restoring := by
    simp [UnitRec.shedIs, mem_allUnits]
  have noStop : (allUnits.any fun u => (s.unit u).dispatchIs .stopPending || (s.unit u).dispatchIs .stopping) = false ↔
      ∀ u : UnitNo, (s.unit u).kind = .genset →
        (s.unit u).gensetJob.dispatch ≠ .stopPending ∧ (s.unit u).gensetJob.dispatch ≠ .stopping := by
    rw [List.any_eq_false]
    simp only [mem_allUnits, true_implies, Bool.or_eq_true, dispatchIs_iff]
    exact forall_congr' fun u => by tauto
  have gates : restoreGates s = true ↔ ((((s.settings.restoreEnable = true ∧ frozen s = false) ∧
      s.balance.published.restoreAllowed = true) ∧
      (∀ u : UnitNo, (s.unit u).kind = .feeder → (s.unit u).feederJob.shed ≠ .restoring)) ∧
      (∀ u : UnitNo, (s.unit u).kind = .genset →
        (s.unit u).gensetJob.dispatch ≠ .stopPending ∧ (s.unit u).gensetJob.dispatch ≠ .stopping)) ∧
      ∀ d : Time, s.shed.lastRestore = some d → reached s.now (after d s.settings.restoreInterval) = true := by
    rw [← interval, ← nobody, ← noStop]
    simp only [restoreGates, Bool.and_eq_true, Bool.not_eq_true'] <;> rfl
  rw [Bool.and_eq_true, Bool.and_eq_true, gates, beq_iff_eq, beq_iff_eq]
  exact ⟨fun ⟨top, enabled, thawed, allowed, counted, isShed, nobody, noStop, interval⟩ =>
      ⟨top, ⟨⟨⟨⟨⟨⟨enabled, thawed⟩, allowed⟩, nobody⟩, noStop⟩, interval⟩, counted⟩, isShed⟩,
    fun ⟨top, ⟨⟨⟨⟨⟨⟨enabled, thawed⟩, allowed⟩, nobody⟩, noStop⟩, interval⟩, counted⟩, isShed⟩ =>
      ⟨top, enabled, thawed, allowed, counted, isShed, nobody, noStop, interval⟩⟩

theorem restoreDecision_of_shut {s : State} (shut : ∀ e : StackEntry, ¬ RestoreGates s e) : restoreDecision s = s := by
  unfold restoreDecision
  cases top : s.shed.stack.getLast? with
  | none => rfl
  | some e => exact if_neg fun gates => shut e ((restoreGates_iff s e).mpr ⟨top, gates⟩)

theorem restoreDecision_of_created {s w : State} {e : StackEntry} {i : SlotNo} (gates : RestoreGates s e)
    (asked : requestOrder s e.feeder .close none .shed none = (w, .created i)) :
    restoreDecision s = (closeCreated w e.feeder i .shed).setShedBlock
      { (closeCreated w e.feeder i .shed).shed with lastRestore := some (closeCreated w e.feeder i .shed).now } := by
  obtain ⟨top, open_⟩ := (restoreGates_iff s e).mp gates
  unfold restoreDecision
  rw [top]
  simp only [open_, if_true, asked]

theorem restoreDecision_of_refused {s w : State} {e : StackEntry} {why : Refuse} (gates : RestoreGates s e)
    (asked : requestOrder s e.feeder .close none .shed none = (w, .refused why)) : restoreDecision s = w := by
  obtain ⟨top, open_⟩ := (restoreGates_iff s e).mp gates
  unfold restoreDecision
  rw [top]
  simp only [open_, if_true, asked]

theorem stopDecision_of_created {s w : State} {c : UnitNo} {i : SlotNo}
    (candidate : s.balance.published.stopCandidate = some c) (gates : StopGates s c)
    (asked : requestOrder s c .stop none .dispatch none = (w, .created i)) : stopDecision s =
      enterDispatch (w.setGenset c { (w.unit c).gensetJob with openOrder := some ⟨.stop, i, .dispatch⟩ }) c .stopPending := by
  unfold stopDecision
  rw [candidate]
  simp only [(stopGates_iff s c).mpr gates, Bool.not_true, Bool.false_eq_true, if_false, asked]

theorem stopDecision_of_refused {s w : State} {c : UnitNo} {why : Refuse}
    (candidate : s.balance.published.stopCandidate = some c) (gates : StopGates s c)
    (asked : requestOrder s c .stop none .dispatch none = (w, .refused why)) : stopDecision s = w := by
  unfold stopDecision
  rw [candidate]
  simp only [(stopGates_iff s c).mpr gates, Bool.not_true, Bool.false_eq_true, if_false, asked]

/-- A CLOSE created for a feeder makes it RESTORING (R154, R156). -/
theorem closeCreated_restores {s w : State} {u : UnitNo} {i : SlotNo} {owner : Owner}
    (created : judgeRequest s u .close owner = .created i) (work : w = (requestOrder s u .close none owner none).1) :
    ∀ t : State, t = closeCreated w u i owner →
      OrderMade s t i u .close owner none ∧ (∀ v : UnitNo, v ≠ u → t.unit v = s.unit v) ∧
      t.unit u = { s.unit u with feederJob := {
        (s.unit u).feederJob with
        shed := .restoring
        openOrder := some ⟨.close, i, owner⟩
        deadline := none
        settling := none } } ∧
      t.shed.stack = s.shed.stack ∧ t.now = s.now := by
  rintro t rfl
  obtain ⟨granted, made⟩ := requestOrder_created (step := none) created
  rw [← work] at granted made
  have units (v : UnitNo) : w.unit v = s.unit v := granted.unit v
  have enters := setShed_enters_own w u .restoring
  obtain ⟨others, -, -, -, -, -, -, -, slots⟩ := enters.alone
  refine ⟨made.congr (slots i), fun v other => ?_, ?_, ?_, enters.now.trans granted.outside.now⟩
  · rw [closeCreated, unit_setFeeder, if_neg other, others v other, units]
  · rw [closeCreated, unit_setFeeder, if_pos rfl, enters.becomes.unit, units]
    rfl
  · show (setShed w u .restoring).shed.stack = s.shed.stack
    rw [setShed_stack, granted.outside.shed]
    rfl

/-! ## The step that waits to ask for its CLOSE -/

theorem readsClosed_of_open {r : UnitRec}
    (open_ : r.live.values.breaker = .opn ∨ r.live.freshness = .absent ∨ r.live.freshness = .stale) : r.readsClosed = false := by
  rcases open_ with breaker | fresh | fresh <;> simp [UnitRec.readsClosed, Live.heard, *]

theorem requestOrder_stays {s : State} {u : UnitNo} {k : OrderKind} {v : Option Nat} {w : Owner} {step : Option (Fin 32)}
    {why : Refuse} (refused : judgeRequest s u k w = .refused why) (other : why ≠ .noSlot) :
    (requestOrder s u k v w step).1 = s := by
  obtain ⟨-, leaves⟩ := requestOrder_spec s u k v w step
  rw [refused] at leaves
  cases why with
  | noSlot => exact absurd rfl other
  | wrongMode | notPermitted | held | noCredit => exact leaves

/-- A CLOSE_UNIT step that waits to ask serves its to-issue list at an event that serves it (R166, R170). -/
theorem stepEvent_of_unasked {s : State} {u : UnitNo} (running : s.progress.planState = .running)
    (open_ : s.progress.stepState = .issued ∨ s.progress.stepState = .waiting) (uncancelled : s.progress.cancelPending = false)
    (action : (s.seqr.plan.get s.progress.current).action = .closeUnit)
    (argument : (s.seqr.plan.get s.progress.current).argument = u.val) (unseen : s.progress.closeSeen = none)
    (reads : (s.unit u).readsClosed = false) : stepEvent s .completion = followLists (issueAll s s.progress.toIssue) := by
  have step : (currentStep s).action = .closeUnit := action
  have unit : (currentStep s).unit = some u := by
    simp [PlanStep.unit, step, show (currentStep s).argument = u.val from argument, unitNo]
  unfold stepEvent
  rw [if_neg (by simp [State.planRunning, running, (stepOpen_iff _).mpr open_, uncancelled])]
  have prepared : prepare s .completion = s := by simp [prepare, step, unit, watchUnit, unseen]
  simp only [prepared]
  rw [if_neg (by simp [doneTest, step, unit, reads])]
  simp [lossTest, serveStep, step, unit, Trigger.asks]

/-- Settles O31: the completion and its hand-offs, and the decisions of the three jobs. -/
theorem passCompletionPublishesAndHandsOn : Obligations.PassCompletionPublishesAndHandsOn := by
  refine ⟨fun s sn ready working => ?_, fun s => ?_, fun s => ?_, ?_, ?_, ?_, ?_⟩
  · have runs : exec .passCompletion s = .next (settle (completePass s sn)) := by
      refine (act_running ready.1 fun s => match s.balance.working with
        | none => s
        | some sn => completePass s sn).trans ?_
      rw [working]
    refine ⟨⟨jobOrder s.schedule.jobs, jobOrder_perm _, ?_⟩, _, runs, ?_⟩
    · rw [Hands, runs]
      simp [completePass, State.deferAll, ready.2]
    · have frame := (settle_shifts (completePass s sn)).shifts.frame
      exact ⟨frame.balance, frame.pass, frame.epoch, frame.now⟩
  · show dispatcherCompletion s = _
    unfold dispatcherCompletion
    simp only [(judgeAll_duties s).moves.mode, beq_iff_eq]
  · show shedCompletion s = _
    unfold shedCompletion
    simp only [(servePending_moves s).mode, beq_iff_eq]
  · rintro s _ rfl
    have judged (v : UnitNo) : judgeRequest (setRetry s false) v .start .dispatch = judgeRequest s v .start .dispatch :=
      judgeRequest_congr rfl rfl rfl rfl rfl v .start .dispatch
    refine ⟨fun closed => ?_, fun wanted room nobody => ?_, fun u wanted room reaches => ?_,
      fun credit wanted room ⟨u, may⟩ passed noted => ?_⟩
    · unfold startDecision
      refine if_neg ?_
      rw [Bool.and_eq_true, decide_eq_true_eq, startsUnderWay_eq]
      exact fun ⟨wanted, few⟩ => closed.elim (fun unwanted => by simp [setRetry, State.setDispatcher, unwanted] at wanted)
        fun many => absurd (show underWay s < 2 from few) (by omega)
    · have none : startCandidates s = [] :=
        List.eq_nil_iff_forall_not_mem.mpr fun u mem => nobody u ((mayStart_iff s u).mp mem)
      rw [startDecision_of_wanted wanted room, if_pos none]
      exact ⟨rise_latched _ _, rise_work _ _, (rise_work _ _).outside.dispatcher⟩
    · obtain ⟨noted, later, decides⟩ := startDecision_of_reached wanted room reaches
      have refused {why : Refuse} (answer : judgeRequest s u .start .dispatch = .refused why) :
          requestOrder (setRetry s false) u .start none .dispatch none = (setRetry s false, .refused why) :=
        requestOrder_refused _ _ nofun ((judged u).trans answer)
      rw [decides]
      refine ⟨fun i created => ?_, fun answer => ?_, fun answer => ?_⟩
      · have made := (judged u).trans created
        have asked : requestOrder (setRetry s false) u .start none .dispatch none =
            ((requestOrder (setRetry s false) u .start none .dispatch none).1, .created i) :=
          Prod.ext rfl ((requestOrder_spec _ _ _ _ _ _).1.trans made)
        rw [askStarts, asked]
        obtain ⟨order, others, unit, dispatcher, -⟩ := asked_becomes made rfl .startPending _ rfl
        refine ⟨order, others, unit, congrArg Dispatcher.startRetry dispatcher, fun free => ?_⟩
        refine (congrArg Dispatcher.commit dispatcher).trans ?_
        simp [listAfter, setRetry, State.setDispatcher, free]
      · rw [askStarts, refused answer]
        rfl
      · rcases answer with answer | answer <;> rw [askStarts, refused answer]
        · rfl
        · rfl
    · have listed := (mayStart_iff s u).mpr may
      obtain ⟨found, goes, names⟩ := askStarts_passes (s := setRetry s false) (credit := false) (startCandidates s) []
        fun v mem => by
          have := passed v ((mayStart_iff s v).mp mem)
          rwa [PassedOver, ← judged] at this
      have same : found = credit := by
        rw [Bool.eq_iff_iff, names, noted]
        simp [mayStart_iff, judged]
      rw [startDecision_of_wanted wanted room, if_neg (List.ne_nil_of_mem listed), ← List.append_nil (startCandidates s), goes,
        same]
      cases credit <;> rfl
  · rintro s _ rfl
    refine ⟨fun shut => ?_, fun c candidate gates => ?_⟩
    · unfold stopDecision
      cases candidate : s.balance.published.stopCandidate with
      | none => rfl
      | some c =>
        have closed : stopGates s c = false := Bool.eq_false_iff.mpr fun gates => shut c candidate ((stopGates_iff s c).mp gates)
        exact if_pos (by rw [closed]; rfl)
    · refine ⟨fun i created => ?_, fun why refused => ?_⟩
      · have asked : requestOrder s c .stop none .dispatch none =
            ((requestOrder s c .stop none .dispatch none).1, .created i) :=
          Prod.ext rfl ((requestOrder_spec _ _ _ _ _ _).1.trans created)
        rw [stopDecision_of_created candidate gates asked]
        obtain ⟨order, others, unit, dispatcher, -⟩ := asked_becomes created rfl .stopPending _ rfl
        refine ⟨order, others, unit, fun listed => dispatcher.trans ?_⟩
        simp [listAfter, listed]
      · exact stopDecision_of_refused candidate gates (requestOrder_refused (k := .stop) (w := .dispatch) _ _ (by decide) refused)
  · rintro s _ rfl
    refine ⟨restoreDecision_of_shut, fun e gates => ⟨fun i created => ?_, fun why refused => ?_⟩⟩
    · have asked : requestOrder s e.feeder .close none .shed none =
          ((requestOrder s e.feeder .close none .shed none).1, .created i) :=
        Prod.ext rfl ((requestOrder_spec _ _ _ _ _ _).1.trans created)
      rw [restoreDecision_of_created gates asked]
      obtain ⟨order, others, unit, stack, now⟩ := closeCreated_restores created rfl _ rfl
      exact ⟨order, others, unit, stack, congrArg some now⟩
    · exact restoreDecision_of_refused gates (requestOrder_refused (k := .close) (w := .shed) _ _ (by decide) refused)
  · rintro s _ u rfl running open_ uncancelled action argument unseen ordersNone waits reads
    have decides : handleTask s (.completion .sequencer) = followLists (issueAll s [(u, .close)]) := by
      rw [← waits]
      exact stepEvent_of_unasked running open_ uncancelled action argument unseen (readsClosed_of_open reads)
    have answered {a : Answer} (judged : judgeRequest s u .close .plan = a) :
        requestOrder s u .close none .plan (some s.progress.current) =
          ((requestOrder s u .close none .plan (some s.progress.current)).1, a) :=
      Prod.ext rfl ((requestOrder_spec _ _ _ _ _ _).1.trans judged)
    have opened {w : State} (kept : w.progress = s.progress) : w.progress.stepState = .issued ∨ w.progress.stepState = .waiting := by
      rw [kept]
      exact open_
    refine ⟨fun i created => ?_, fun refused => ?_, fun refused => ?_⟩
    · obtain ⟨granted, made⟩ := requestOrder_created (step := some s.progress.current) created
      have kept : (requestOrder s u .close none .plan (some s.progress.current)).1.progress = s.progress := by
        rw [State.progress, granted.outside.seqr]
        rfl
      rw [decides, issueAll, answered created, followLists_eq]
      refine ⟨made, granted.outside.units, ?_⟩
      show listsFollowed { (requestOrder s u .close none .plan (some s.progress.current)).1.progress with
        toIssue := _, orders := _ } = _
      rw [kept]
      simp [listsFollowed, waits, ordersNone, open_]
    · have failed {why : Refuse} (same : requestOrder s u .close none .plan (some s.progress.current) = (s, .refused why))
          (fails : why = .held ∨ why = .notPermitted) : (followLists (issueAll s [(u, .close)])).progress =
            failedProgress s.progress 4 := by
        have issued : issueAll s [(u, .close)] = stepFail s 4 (some u) := by
          rw [issueAll, same]
          rcases fails with rfl | rfl <;> rfl
        rw [issued, followLists_eq]
        show listsFollowed (stepFail s 4 (some u)).progress = _
        rw [stepFail_progress open_]
        simp [listsFollowed, failedProgress]
      rw [decides]
      rcases refused with held | forbidden
      · exact failed (Prod.ext (requestOrder_stays held (by decide)) ((requestOrder_spec _ _ _ _ _ _).1.trans held)) (.inl rfl)
      · exact failed (Prod.ext (requestOrder_stays forbidden (by decide)) ((requestOrder_spec _ _ _ _ _ _).1.trans forbidden))
          (.inr rfl)
    · have kept : (requestOrder s u .close none .plan (some s.progress.current)).1.progress = s.progress := by
        rw [State.progress, (requestOrder_stands s u .close none .plan (some s.progress.current)).seqr]
        rfl
      have issued : issueAll s [(u, .close)] = (requestOrder s u .close none .plan (some s.progress.current)).1 := by
        rcases refused with spent | full
        · rw [issueAll, answered spent]
          rfl
        · rw [issueAll, answered full]
          rfl
      rw [decides, issued, followLists_eq]
      show listsFollowed (requestOrder s u .close none .plan (some s.progress.current)).1.progress = _
      rw [kept]
      simp [listsFollowed, waits, open_]

end Sys2Proof.Machine
end

section
/-! The pushes onto the Shed Stack that withdraw the open STOPs (R138): the STOP of a class that no order has. -/

namespace Sys2Proof.Machine

/-- A STOP of the Dispatcher's in the waiting line, in a class. -/
def waitingStop (u : UnitNo) (c : QClass) : Order :=
  { target := u, kind := .stop, value := none, number := 21, owner := .dispatch, cls := c, planStep := none, state := .waitingRetry }

/-- A gen-set that is STOP_PENDING, its STOP in a slot. -/
def stopPendingAt (i : SlotNo) : UnitRec :=
  { kind := .genset, gensetJob := { dispatch := .stopPending, openOrder := some ⟨.stop, i, .dispatch⟩ } }

/-- Two gen-sets are STOP_PENDING, their STOPs unsent in slots 0 and 1; that of slot 1 is of class REPORT, which is no order's, and
stands in the waiting line. Unit 2 is a feeder, and both ports are busy. -/
def tangled (m : Mode) (feeder : FeederJob) : State :=
  { State.reset with
    service := { State.reset.service with mode := m }
    units := ((State.reset.units.set 0 (stopPendingAt 0)).set 1 (stopPendingAt 1)).set 2 {
      kind := .feeder, rating := 100, permits := { opn := true }, feederJob := feeder }
    orders := { State.reset.orders with
      slots := (State.reset.orders.slots.set 0 (some (waitingStop 0 .dispatch))).set 1 (some (waitingStop 1 .report))
      waiting := [1] }
    frame := { State.reset.frame with
      pa := { up := true, tx := .forwarding }
      pb := { up := true, tx := .forwarding } } }

theorem tangled_busy (m : Mode) (feeder : FeederJob) : Busy (tangled m feeder) := by
  intro p
  cases p <;> exact ⟨rfl, nofun⟩

/-- What withdrawn STOPs would mean for the second gen-set. -/
theorem StopsWithdrawn.second {s t : State} (h : StopsWithdrawn s t) (unit : s.unit 1 = stopPendingAt 1)
    (slot : s.slot 1 = some (waitingStop 1 .report)) : (t.unit 1).gensetJob.dispatch = .online := by
  obtain ⟨unsent, -, -⟩ := h.gensets 1 ⟨.stop, 1, .dispatch⟩ (by rw [unit]; rfl) (by rw [unit]; rfl) (by rw [unit]; rfl) rfl
  obtain ⟨online, -⟩ := unsent (waitingStop 1 .report) ⟨slot, rfl, rfl, rfl, rfl⟩ rfl
  rw [online]

/-! ## A predictive shed -/

/-- The withdrawal of the first STOP lets the second out of the waiting line into no queue, where it cannot be withdrawn. -/
def tangledShed : State := tangled .active { shed := .closed }

set_option maxRecDepth 20000 in
theorem tangledShed_keeps_stop :
    ((predictiveShed tangledShed 5 50).unit 1).gensetJob.dispatch = .stopPending := by decide

set_option maxRecDepth 20000 in
theorem tangledShed_pickup : pickupNow tangledShed = 0 := by decide

set_option maxRecDepth 20000 in
theorem tangledShed_covered : coveredAtOnce tangledShed = 0 := by decide

set_option maxRecDepth 20000 in
theorem tangledShed_feeders : ∀ u : UnitNo, (tangledShed.unit u).kind = .feeder → u = 2 := by decide

theorem tangledShed_mayShed : MayShed tangledShed 2 := ⟨rfl, rfl, rfl, by decide⟩

/-- Refutes O37: the predictive shed of `tangledShed` opens its feeder, and the push leaves the second gen-set STOP_PENDING,
though its STOP was unsent. -/
theorem not_openBreakerTripsAnOnlineGenset : ¬ Obligations.OpenBreakerTripsAnOnlineGenset := by
  rintro ⟨sheds, -⟩
  obtain ⟨amount, cs, us, w, total, ordered, candidates, prefix_, covers⟩ := sheds tangledShed 5 50
  obtain ⟨-, reached, served, -, -, work, -⟩ := covers _ fun _ => rfl
  have amounts : amount = 50 := by
    rw [total, tangledShed_pickup]
    rfl
  have only {u : UnitNo} (mem : u ∈ us) : u = 2 :=
    tangledShed_feeders u ((candidates u).mp (prefix_.subset mem)).kind
  have chosen : us ≠ [] := by
    rintro rfl
    rcases reached with all | enough
    · have := (candidates 2).mpr tangledShed_mayShed
      rw [← all] at this
      cases this
    · rw [amounts, tangledShed_covered] at enough
      exact absurd enough (by decide)
  obtain ⟨u, mem⟩ := List.exists_mem_of_ne_nil us chosen
  obtain rfl := only mem
  have one : us.length ≤ 1 := by
    have distinct : us.Nodup := (ordered.sublist prefix_.sublist).imp fun {a b} before same => by
      subst same
      rcases before with less | ⟨-, less⟩ <;> exact absurd less (lt_irrefl _)
    by_contra more
    obtain ⟨a, b, rest, rfl⟩ : ∃ a b rest, us = a :: b :: rest := by
      match us, more with
      | a :: b :: rest, _ => exact ⟨a, b, rest, rfl⟩
      | [_], few => simp at few
      | [], few => simp at few
    have first := only List.mem_cons_self
    have second := only (List.mem_cons_of_mem _ List.mem_cons_self)
    rw [first, second] at distinct
    simp at distinct
  have room : ∀ p : Option Predictive, RoomToShed { tangledShed with shed := { tangledShed.shed with predictive := p } } us :=
    fun p => ⟨.inl rfl, rfl, (Nat.add_le_add_left one _).trans (show occupied tangledShed + 1 ≤ 12 by decide)⟩
  obtain ⟨-, -, -, -, withdrawn⟩ := served.served (room _) (fun _ v listed => by rw [only listed]; rfl) _ rfl
  have able : (mayOpen tangledShed 2 && decide (tangledShed.inFlight 2 < (tangledShed.unit 2).credit)) = true := by decide
  have online := (withdrawn (List.ne_nil_of_mem (List.mem_filter.mpr ⟨mem, able⟩)) (tangled_busy .active { shed := .closed })).second rfl rfl
  rw [← work.unit, tangledShed_keeps_stop] at online
  cases online

/-! ## The end of a plan -/

/-- The plan has done its step 0, and step 1 is END; it holds the feeder, which reads OPEN. -/
def tangledPlan : State :=
  { tangled .restore { shed := .openPlan } with
    seqr := { State.reset.seqr with
      plan := State.reset.seqr.plan.set 1 { action := .endPlan }
      progress := { planState := .running, stepState := .done } } }

set_option maxRecDepth 20000 in
theorem tangledPlan_keeps_stop : ((handleTask tangledPlan .planAdvance).unit 1).gensetJob.dispatch = .stopPending := by decide

/-- Refutes O46: the end of the plan pushes the feeder it holds, and the second gen-set stays STOP_PENDING, though its STOP was
unsent. -/
theorem not_stepTimeoutFailsTheStep : ¬ Obligations.StepTimeoutFailsTheStep := by
  rintro ⟨advances, -⟩
  obtain ⟨-, goes, -⟩ := (advances tangledPlan).moves rfl rfl rfl rfl rfl (.inl rfl)
  have ends := ((goes rfl rfl).next 1 rfl).endPlan rfl _ rfl
  have online := (ends.gensets ⟨2, ⟨rfl, rfl, rfl⟩, rfl⟩ (tangled_busy .restore { shed := .openPlan })).second rfl rfl
  rw [tangledPlan_keeps_stop] at online
  cases online

end Sys2Proof.Machine
end

section
/-! RELEASE FEEDER and the STOP that its push does not withdraw (R138, R156). -/

namespace Sys2Proof.Machine

/-! ## No hand-off makes a STOP of class REPORT -/

/-- A slot holds no STOP of class REPORT to the unit, and no STOP is permitted to it. -/
structure NoMisfiledStop (s : State) (i : SlotNo) (u : UnitNo) : Prop where
  permits : (s.unit u).permits.stop = false
  slot    : ∀ o : Order, s.slot i = some o → o.target = u → o.kind = .stop → o.cls ≠ .report

theorem NoMisfiledStop.of_slotsOf {s t : State} {i : SlotNo} {u : UnitNo} (h : NoMisfiledStop s i u) (slots : SlotsOf s t)
    (permits : (t.unit u).permits = (s.unit u).permits) : NoMisfiledStop t i u where
  permits := by rw [permits, h.permits]
  slot o' there target kind cls := by
    obtain ⟨o, before, target', cls', same | allowed⟩ := slots i o' there
    · exact h.slot o before (target'.trans target) (same.trans kind) (cls'.trans cls)
    · rw [target, kind] at allowed
      exact Bool.noConfusion (h.permits.symm.trans allowed)

theorem orderClass_ne_report (w : Owner) (k : OrderKind) : orderClass w k ≠ .report := by
  cases w <;> cases k <;> exact nofun

theorem NoMisfiledStop.granted {s : State} {i : SlotNo} {u : UnitNo} (h : NoMisfiledStop s i u) (j : SlotNo) (v : UnitNo) (k : OrderKind)
    (x : Option Nat) (w : Owner) (st : Option (Fin 32)) : NoMisfiledStop (granted s j v k x w st) i u where
  permits := h.permits
  slot o there target kind := by
    rw [granted_slot] at there
    split at there
    · cases there
      exact orderClass_ne_report w k
    · exact h.slot o there target kind

theorem NoMisfiledStop.shift {s t : State} {i : SlotNo} {u : UnitNo} (step : Shift s t) (h : NoMisfiledStop s i u) : NoMisfiledStop t i u := by
  cases step with
  | move m =>
    have permits : (t.unit u).permits = (s.unit u).permits := m.frame.permits u
    rcases m.slots with kept | ⟨j, v, k, x, w, st, -, kept⟩
    · exact h.of_slotsOf kept permits
    · exact (h.granted j v k x w st).of_slotsOf kept permits
  | mode m => exact ⟨h.permits, h.slot⟩
  | plan p => exact ⟨h.permits, h.slot⟩

theorem NoMisfiledStop.shifts {s t : State} {i : SlotNo} {u : UnitNo} (steps : Shifts s t) (h : NoMisfiledStop s i u) : NoMisfiledStop t i u :=
  steps.keep (fun _ _ step => NoMisfiledStop.shift step) h

/-! ## The release of a feeder -/

/-- A request to release unit 2. -/
def releaseRequest : Request :=
  { port := .pa, src := 0, unit := 0, unitKind := 0, seq := 1, epoch := 0, tag := 9, kind := 12, args := .unit 2 }

/-- The feeder of the two STOP_PENDING gen-sets is OPEN_OTHER, and its release is asked. -/
def tangledRelease : State :=
  { tangled .observe { shed := .openOther } with
    service := { State.reset.service with mode := .observe, queue := [releaseRequest] } }

theorem tangledRelease_head : HeadIs tangledRelease releaseRequest [] := ⟨⟨rfl, rfl⟩, rfl, by decide, rfl⟩

set_option maxRecDepth 20000 in
theorem tangledRelease_keeps_stop : ((settle (serve tangledRelease (isKind 12) serveRelease)).slot 1).map
    (fun o => (o.target, o.kind, o.cls)) = some (1, .stop, .report) := by decide

/-- Refutes O59: the release of the feeder leaves the second gen-set's STOP in its slot, of a class in which no hand-off could have
made it, so that it was not withdrawn, though it was unsent. -/
theorem not_releasesFollowTheirTables : ¬ Obligations.ReleasesFollowTheirTables := by
  intro claim
  obtain ⟨-, -, rows⟩ := claim tangledRelease releaseRequest [] 2 tangledRelease_head rfl
  obtain ⟨-, -, released, -⟩ := rows 2 rfl
  obtain ⟨v, responds, -, -, withdrawn, -⟩ := released rfl rfl rfl rfl
  have stops := withdrawn (.inl (tangled_busy .observe { shed := .openOther }))
  obtain ⟨unsent, -, -⟩ := stops.gensets 1 ⟨.stop, 1, .dispatch⟩ rfl rfl rfl rfl
  obtain ⟨online, gone⟩ := unsent (waitingStop 1 .report) ⟨rfl, rfl, rfl, rfl, rfl⟩ rfl
  have ended : settle (serve tangledRelease (isKind 12) serveRelease) =
      joinReport (holdPlace (settle v) false) (responseTo releaseRequest .done .nothing) :=
    Host.Outcome.next.inj ((act_running rfl fun s => serve s (isKind 12) serveRelease).symm.trans responds)
  have clear : NoMisfiledStop v 1 1 :=
    ⟨by rw [online]; rfl, fun o there target kind => absurd ⟨target, kind⟩ (not_and_or.mpr (gone o there))⟩
  have settled : NoMisfiledStop (holdPlace (settle v) false) 1 1 :=
    let kept := clear.shifts (settle_shifts v).shifts
    ⟨kept.permits, kept.slot⟩
  have last := settled.shifts (joinReport_work _ (responseTo releaseRequest .done .nothing)).moves.shifts
  rw [← ended] at last
  obtain ⟨o, there, same⟩ := Option.map_eq_some_iff.mp tangledRelease_keeps_stop
  simp only [Prod.mk.injEq] at same
  obtain ⟨target, kind, cls⟩ := same
  exact last.slot o there target kind cls

end Sys2Proof.Machine
end

section
/-! The Shed Controller: the pending shed list served (R144), with what its pushes leave of feeders and slots (R138, R142). -/

namespace Sys2Proof.Machine

/-! ## The announcement of a push -/

/-- What the announcement of a push leaves of the rest: it frees slots of STOPs to gen-sets, and gen-sets change. -/
structure Announced (s t : State) : Prop where
  shed     : t.shed = s.shed
  kinds    : ∀ v : UnitNo, (t.unit v).kind = (s.unit v).kind
  units    : ∀ v : UnitNo, (s.unit v).kind ≠ .genset → t.unit v = s.unit v
  service  : t.service = s.service
  now      : t.now = s.now
  tracker  : t.tracker = s.tracker
  balance  : t.balance = s.balance
  seqr     : t.seqr = s.seqr
  counters : t.orders.counters = s.orders.counters
  slots    : ∀ j : SlotNo, (t.slot j).map Order.content = (s.slot j).map Order.content ∨
    t.slot j = none ∧ ∃ o : Order, s.slot j = some o ∧ o.kind = .stop ∧ (s.unit o.target).kind = .genset

theorem Announced.refl (s : State) : Announced s s :=
  ⟨rfl, fun _ => rfl, fun _ _ => rfl, rfl, rfl, rfl, rfl, rfl, rfl, fun _ => .inl rfl⟩

/-- An order whose content stands is still there. -/
theorem order_of_content {s t : State} {j : SlotNo} {o : Order}
    (same : (t.slot j).map Order.content = (s.slot j).map Order.content) (there : t.slot j = some o) :
    ∃ o' : Order, s.slot j = some o' ∧ o'.target = o.target ∧ o'.kind = o.kind := by
  rw [there] at same
  obtain ⟨o', here, content⟩ := Option.map_eq_some_iff.mp same.symm
  simp only [Order.content, Prod.mk.injEq] at content
  obtain ⟨target, kind, -⟩ := content
  exact ⟨o', here, target, kind⟩

theorem Announced.trans {s t u : State} (a : Announced s t) (b : Announced t u) : Announced s u where
  shed := b.shed.trans a.shed
  kinds v := (b.kinds v).trans (a.kinds v)
  units v other := (b.units v ((a.kinds v).trans_ne other)).trans (a.units v other)
  service := b.service.trans a.service
  now := b.now.trans a.now
  tracker := b.tracker.trans a.tracker
  balance := b.balance.trans a.balance
  seqr := b.seqr.trans a.seqr
  counters := b.counters.trans a.counters
  slots j := by
    rcases b.slots j with same | ⟨gone, o, there, kind, genset⟩
    · rcases a.slots j with still | ⟨free, found⟩
      · exact .inl (same.trans still)
      · rw [free] at same
        exact .inr ⟨Option.map_eq_none_iff.mp same, found⟩
    · rcases a.slots j with still | ⟨free, -⟩
      · obtain ⟨o', here, target, kind'⟩ := order_of_content still there
        refine .inr ⟨gone, o', here, kind'.trans kind, ?_⟩
        rw [target, ← a.kinds]
        exact genset
      · rw [free] at there
        cases there

/-- An unsent STOP taken back: its gen-set has no open order, and is ONLINE when it was STOP_PENDING (R136). -/
theorem stopOrderEnd_announced {s : State} {u : UnitNo} (genset : (s.unit u).kind = .genset) :
    Announced s (stopOrderEnd s u (.unsent .withdrawn)) := by
  unfold stopOrderEnd
  simp only
  split
  · refine ⟨rfl, fun v => ?_, fun v other => ?_, rfl, rfl, rfl, rfl, rfl, rfl, fun _ => .inl rfl⟩
    · rw [unit_setGenset]
      split
      next same => rw [same]
      next => rfl
    · rw [unit_setGenset, if_neg fun same : v = u => other (same ▸ genset)]
  · have becomes := enterDispatch_becomes (s := s) (u := u) (j := { (s.unit u).gensetJob with openOrder := none }) rfl .online
    obtain ⟨shed, tracker, balance, -, seqr, service, -, now, counters, slots⟩ := becomes.frame
    refine ⟨shed, fun v => ?_, fun v other => becomes.others v fun same => other (same ▸ genset), service, now, tracker, balance,
      seqr, counters, fun j => .inl (slots j)⟩
    by_cases same : v = u
    · rw [same, becomes.unit]
    · rw [becomes.others v same]

theorem withdrawStop_announced {s : State} {u : UnitNo} (genset : (s.unit u).kind = .genset) :
    Announced s (withdrawStop s u).1 := by
  unfold withdrawStop
  split
  · exact .refl s
  next x opened =>
    rcases withdraw_cases s x.slot .dispatch u .stop with ⟨late, -⟩ | ⟨o, t, taken, ⟨there, -, target, kind, -⟩, freed⟩
    · rw [late]
      exact .refl s
    · rw [taken]
      have free : Announced s t :=
        { shed := freed.outside.shed
          kinds := fun v => by rw [freed.unit]
          units := fun v _ => freed.unit v
          service := freed.outside.service
          now := freed.outside.now
          tracker := freed.outside.tracker
          balance := freed.outside.balance
          seqr := freed.outside.seqr
          counters := freed.counters
          slots := fun j => by
            by_cases same : j = x.slot
            · subst same
              exact .inr ⟨freed.slot, o, there, kind, target ▸ genset⟩
            · exact .inl (freed.others j same) }
      have ended := stopOrderEnd_announced (s := t) (u := u) ((congrArg UnitRec.kind (freed.unit u)).trans genset)
      obtain ⟨shed, kinds, units, service, now, tracker, balance, seqr, counters, slots⟩ := free.trans ended
      exact ⟨shed, kinds, units, service, now, tracker, balance, seqr, counters, slots⟩

theorem stopOpen_genset {r : UnitRec} (h : stopOpen r = true) : r.kind = .genset := by
  unfold stopOpen at h
  rw [Bool.and_eq_true, dispatchIs_iff] at h
  obtain ⟨⟨genset, -⟩, -⟩ := h
  exact genset

theorem pushAnnounced_announced (s : State) : Announced s (pushAnnounced s) := by
  unfold pushAnnounced
  generalize allUnits = l
  induction l generalizing s with
  | nil => exact .refl s
  | cons u l ih =>
    rw [List.foldl_cons]
    refine .trans ?_ (ih _)
    split
    next opened => exact withdrawStop_announced (stopOpen_genset opened)
    next => exact .refl s

/-! ## Counting slots -/

theorem any_target_of_content {s t : State} {j : SlotNo} (same : (t.slot j).map Order.content = (s.slot j).map Order.content)
    (u : UnitNo) : ((t.slot j).any fun o => o.target == u) = (s.slot j).any fun o => o.target == u := by
  have through (o : Option Order) : (o.any fun o => o.target == u) = (o.map Order.content).any fun c => c.1 == u := by
    cases o <;> rfl
  rw [through, through, same]

theorem Announced.inFlight {s t : State} (h : Announced s t) {u : UnitNo} (plain : (s.unit u).kind ≠ .genset) :
    t.inFlight u = s.inFlight u := by
  unfold State.inFlight
  refine congrArg List.length (List.filter_congr fun j _ => ?_)
  rcases h.slots j with same | ⟨gone, o, there, -, genset⟩
  · exact any_target_of_content same u
  · have apart : o.target ≠ u := fun e => plain (e ▸ genset)
    simp [gone, there, apart]

theorem isSome_of_content {s t : State} {j : SlotNo} (same : (t.slot j).map Order.content = (s.slot j).map Order.content) :
    (t.slot j).isSome = (s.slot j).isSome := by
  rw [← Option.isSome_map (f := Order.content), same, Option.isSome_map]

theorem occupied_le {s t : State} (h : ∀ j : SlotNo, (t.slot j).isSome = true → (s.slot j).isSome = true) :
    occupied t ≤ occupied s := (List.monotone_filter_right allSlots fun j there => h j there).length_le

theorem Announced.occupied_le {s t : State} (h : Announced s t) : occupied t ≤ occupied s := by
  refine Machine.occupied_le fun j there => ?_
  rcases h.slots j with same | ⟨gone, -⟩
  · rwa [← isSome_of_content same]
  · rw [gone] at there
    cases there

theorem granted_inFlight {s : State} {i : SlotNo} {u v : UnitNo} (free : s.slot i = none) (other : v ≠ u) (k : OrderKind)
    (x : Option Nat) (w : Owner) (st : Option (Fin 32)) : (granted s i u k x w st).inFlight v = s.inFlight v := by
  unfold State.inFlight
  refine congrArg List.length (List.filter_congr fun j _ => ?_)
  rw [granted_slot]
  split
  next same => simp [same, free, newOrder, other.symm]
  next => rfl

theorem granted_occupied_le (s : State) (i : SlotNo) (u : UnitNo) (k : OrderKind) (x : Option Nat) (w : Owner)
    (st : Option (Fin 32)) : occupied (granted s i u k x w st) ≤ occupied s + 1 := by
  have through (s : State) : occupied s = (allSlots.filter fun j => (s.slot j).any fun _ => true).length :=
    congrArg List.length (List.filter_congr fun j _ => by cases s.slot j <;> rfl)
  rw [through, through]
  exact filled_count_le (i := i) (fun j other => by rw [granted_slot, if_neg other]) _

theorem RecordWork.inFlight {s t : State} (h : RecordWork s t) (u : UnitNo) : t.inFlight u = s.inFlight u :=
  congrArg List.length (List.filter_congr fun j _ => any_target_of_content (h.slots j) u)

theorem RecordWork.occupied {s t : State} (h : RecordWork s t) : occupied t = occupied s :=
  congrArg List.length (List.filter_congr fun j _ => isSome_of_content (h.slots j))

theorem freeSlot_of_room {s : State} (room : occupied s < 12) : ∃ i : SlotNo, s.freeSlot = some i := by
  cases found : s.freeSlot with
  | some i => exact ⟨i, rfl⟩
  | none =>
    have full : allSlots.filter (fun i => (s.slot i).isSome) = allSlots := by
      refine List.filter_eq_self.mpr fun j mem => ?_
      have := List.find?_eq_none.mp found j mem
      simpa [Option.ne_none_iff_isSome] using this
    rw [occupied, full] at room
    exact absurd room (by decide)

/-! ## The request of an OPEN -/

theorem judgeRequest_idle {s : State} (idle : s.mode = .halted ∨ s.mode = .observe) (u : UnitNo) (k : OrderKind) (w : Owner) :
    judgeRequest s u k w = .refused .wrongMode := by
  rcases idle with mode | mode <;> simp [judgeRequest, mode]

/-- The judgement of an OPEN of the Shed Controller in a mode with orders (R66). -/
theorem judgeRequest_opn {s : State} (mode : s.mode = .active ∨ s.mode = .restore) (u : UnitNo) :
    (mayOpen s u = false → ∃ why : Refuse, (why = .notPermitted ∨ why = .held) ∧ judgeRequest s u .opn .shed = .refused why) ∧
    (mayOpen s u = true → (s.unit u).credit ≤ s.inFlight u → judgeRequest s u .opn .shed = .refused .noCredit) ∧
    (mayOpen s u = true → s.inFlight u < (s.unit u).credit →
      judgeRequest s u .opn .shed = s.freeSlot.elim (.refused .noSlot) .created) := by
  have orders : (s.mode != .active && s.mode != .restore) = false := by rcases mode with mode | mode <;> simp [mode]
  have new : coalesceSlot s u .opn = none := rfl
  have passes (may : mayOpen s u = true) : PassesFirst s u .opn := by
    rw [mayOpen, Bool.and_eq_true, Bool.not_eq_true'] at may
    exact ⟨mode, may.1, may.2⟩
  refine ⟨fun barred => ?_, fun may spent => ?_, fun may credit => ?_⟩
  · cases permitted : (s.unit u).permits.opn with
    | false => exact ⟨.notPermitted, .inl rfl, by simp [judgeRequest, orders, PermitSet.has, permitted]⟩
    | true =>
      have held : (s.unit u).holdCurrent s.now = true := by simpa [mayOpen, permitted] using barred
      exact ⟨.held, .inr rfl, by simp [judgeRequest, orders, PermitSet.has, permitted, held]⟩
  · rw [judgeRequest_of_new (passes may) new, if_pos spent]
  · rw [judgeRequest_of_new (passes may) new, if_neg (by omega), if_neg fun ⟨other, _⟩ => other rfl]

/-! ## One entry served -/

theorem freeSlot_empty {s : State} {i : SlotNo} (found : s.freeSlot = some i) : s.slot i = none := by
  simpa using List.find?_some found

/-- An entry's OPEN is created: its feeder is OPENING and on the stack, and no other feeder and no other order but STOPs to gen-sets
are touched (R142, R144). -/
structure EntryOpened (s t : State) (e : PendingShed) : Prop where
  unit     : ∃ i : SlotNo, OrderMade s t i e.feeder .opn .shed none ∧
    t.unit e.feeder = { s.unit e.feeder with feederJob := { shed := .opening, openOrder := some ⟨.opn, i, .shed⟩ } }
  stack    : t.shed.stack = s.shed.stack ++ [{
    feeder := e.feeder, cause := e.cause, load := loadCounted (s.unit e.feeder), epoch := s.tracker.epoch }]
  pending  : t.shed.pending = s.shed.pending.filter fun x => x.feeder != e.feeder
  service  : t.service = s.service
  now      : t.now = s.now
  tracker  : t.tracker = s.tracker
  kinds    : ∀ v : UnitNo, (t.unit v).kind = (s.unit v).kind
  units    : ∀ v : UnitNo, v ≠ e.feeder → (s.unit v).kind ≠ .genset → t.unit v = s.unit v
  counters : ∀ v : UnitNo, v ≠ e.feeder → t.orders.counters.get v = s.orders.counters.get v
  inFlight : ∀ v : UnitNo, v ≠ e.feeder → (s.unit v).kind ≠ .genset → t.inFlight v = s.inFlight v
  occupied : occupied t ≤ occupied s + 1
  opens    : ∀ (j : SlotNo) (v : UnitNo) (n : Byte) (w : Owner) (c : QClass) (st : Option (Fin 32)) (a : Nat),
    (s.slot j).map Order.content = some (v, .opn, none, n, w, c, st, a) →
    (t.slot j).map Order.content = some (v, .opn, none, n, w, c, st, a)

theorem loadCounted_eq (r : UnitRec) : r.shedLoad = loadCounted r := by
  unfold UnitRec.shedLoad loadCounted
  rw [if_congr heard_iff rfl rfl]

/-- An OPEN stands through the announcement of a push. -/
theorem Announced.opens {s t : State} (h : Announced s t) {j : SlotNo} {v : UnitNo} {n : Byte} {w : Owner} {c : QClass}
    {st : Option (Fin 32)} {a : Nat} (there : (s.slot j).map Order.content = some (v, .opn, none, n, w, c, st, a)) :
    (t.slot j).map Order.content = some (v, .opn, none, n, w, c, st, a) := by
  rcases h.slots j with same | ⟨-, o, here, kind, -⟩
  · exact same.trans there
  · rw [here] at there
    simp only [Option.map_some, Option.some.injEq, Order.content, Prod.mk.injEq] at there
    obtain ⟨-, kind', -⟩ := there
    rw [kind] at kind'
    cases kind'

theorem pendingOpened_opened {s : State} {e : PendingShed} {i : SlotNo} (feeder : (s.unit e.feeder).kind = .feeder)
    (created : judgeRequest s e.feeder .opn .shed = .created i) (free : s.slot i = none) :
    EntryOpened s (pendingOpened (requestOrder s e.feeder .opn none .shed none).1 e i) e := by
  obtain ⟨granted, made⟩ := requestOrder_created (step := none) created
  generalize (requestOrder s e.feeder .opn none .shed none).1 = w at granted made ⊢
  have units (v : UnitNo) : w.unit v = s.unit v := granted.unit v
  have enters := setShed_enters_own w e.feeder .opening
  obtain ⟨others, -, epochs, -, -, -, services, -, slots⟩ := enters.alone
  have counters : (setShed w e.feeder .opening).orders.counters = w.orders.counters := by
    obtain ⟨p, entered⟩ := setShed_eq w e.feeder .opening
    rw [entered]
    rfl
  have entered : (setShed w e.feeder .opening).unit e.feeder = { s.unit e.feeder with
      feederJob := enteredShed (s.unit e.feeder).feederJob .opening } := by rw [enters.becomes.unit, units]
  have aside : ∀ v : UnitNo, v ≠ e.feeder → (setShed w e.feeder .opening).unit v = s.unit v :=
    fun v other => (others v other).trans (units v)
  let job : FeederJob := { shed := .opening, openOrder := some ⟨.opn, i, .shed⟩ }
  have set_ : pendingOpened w e i = push ((setShed w e.feeder .opening).setFeeder e.feeder job) e.feeder e.cause := by
    unfold pendingOpened
    simp only [entered]
    rfl
  rw [set_, push]
  simp only
  generalize before : ((setShed w e.feeder .opening).setFeeder e.feeder job).setShedBlock _ = b
  have unit (v : UnitNo) : b.unit v = if v = e.feeder then { s.unit e.feeder with feederJob := job } else s.unit v := by
    rw [← before]
    show ((setShed w e.feeder .opening).setFeeder e.feeder job).unit v = _
    rw [unit_setFeeder]
    split
    · rw [entered]
    next other => exact aside v other
  have slot (j : SlotNo) : (b.slot j).map Order.content = (w.slot j).map Order.content := by
    rw [← before]
    exact slots j
  have announced := pushAnnounced_announced b
  have kind (v : UnitNo) : (b.unit v).kind = (s.unit v).kind := by
    rw [unit]
    split
    next same => rw [same]
    next => rfl
  have plain : (b.unit e.feeder).kind ≠ .genset := by rw [kind, feeder]; exact nofun
  have flight (v : UnitNo) : b.inFlight v = w.inFlight v :=
    congrArg List.length (List.filter_congr fun j _ => any_target_of_content (slot j) v)
  have held : occupied b = occupied w := congrArg List.length (List.filter_congr fun j _ => isSome_of_content (slot j))
  have now : b.now = s.now := by rw [← before]; exact enters.now.trans granted.outside.now
  have service : b.service = s.service := by rw [← before]; exact services.trans granted.outside.service
  have tracker : b.tracker = s.tracker := by rw [← before]; exact epochs.trans granted.outside.tracker
  exact
    { unit := ⟨i, announced.opens ((slot i).trans made), by rw [announced.units _ plain, unit, if_pos rfl]⟩
      stack := by
        have load : (((setShed w e.feeder .opening).setFeeder e.feeder job).unit e.feeder).shedLoad =
            loadCounted (s.unit e.feeder) := by
          rw [unit_setFeeder, if_pos rfl, entered, loadCounted_eq]
          rfl
        have epoch : ((setShed w e.feeder .opening).setFeeder e.feeder job).tracker.epoch = s.tracker.epoch :=
          congrArg Tracker.epoch (epochs.trans granted.outside.tracker)
        have stack : ((setShed w e.feeder .opening).setFeeder e.feeder job).shed.stack = s.shed.stack := by
          refine (setShed_stack w e.feeder .opening).trans ?_
          rw [granted.outside.shed]
          rfl
        rw [announced.shed, ← before, ← load, ← epoch, ← stack]
        rfl
      pending := by
        rw [announced.shed, ← before]
        show (setShed w e.feeder .opening).shed.pending = _
        rw [setShed_pending, granted.outside.shed]
        rfl
      service := announced.service.trans service
      now := announced.now.trans now
      tracker := announced.tracker.trans tracker
      kinds := fun v => (announced.kinds v).trans (kind v)
      units := fun v other notGenset => by
        rw [announced.units v ((kind v).trans_ne notGenset), unit, if_neg other]
      counters := fun v other => by
        rw [announced.counters, ← before]
        show (setShed w e.feeder .opening).orders.counters.get v = _
        rw [counters, granted.counters]
        simp [Machine.granted, vectorGet_set, other]
      inFlight := fun v other notGenset => by
        rw [announced.inFlight ((kind v).trans_ne notGenset), flight, granted.inFlight, granted_inFlight free other]
      occupied := by
        refine announced.occupied_le.trans ?_
        rw [held, granted.occupied]
        exact granted_occupied_le _ _ _ _ _ _ _
      opens := fun j v n o c st a there => by
        refine announced.opens ((slot j).trans ((granted.slots j).trans ?_))
        rw [granted_slot, if_neg fun same => by rw [same, free] at there; cases there]
        exact there }

end Sys2Proof.Machine
end

section
/-! The Shed Controller: feeders added to the pending shed list and served (R144). -/

namespace Sys2Proof.Machine

/-! ## The list served, entry by entry -/

/-- The stack entry of a feeder opened for a cause (R142). -/
def openedEntry (s : State) (cause : ShedCause) (u : UnitNo) : StackEntry :=
  { feeder := u, cause := cause, load := loadCounted (s.unit u), epoch := s.tracker.epoch }

/-- How far the list has been served: some of the feeders are kept, some have yet to be served, and some are OPENING. -/
structure Serving (s w : State) (cause : ShedCause) (kept rest opened : List UnitNo) : Prop where
  pending  : w.shed.pending = (kept ++ rest).map fun u => ⟨u, cause⟩
  stack    : w.shed.stack = s.shed.stack ++ opened.map (openedEntry s cause)
  service  : w.service = s.service
  now      : w.now = s.now
  tracker  : w.tracker = s.tracker
  units    : ∀ v : UnitNo, v ∉ opened → (s.unit v).kind ≠ .genset → w.unit v = s.unit v
  counters : ∀ v : UnitNo, v ∉ opened → w.orders.counters.get v = s.orders.counters.get v
  inFlight : ∀ v : UnitNo, v ∉ opened → (s.unit v).kind ≠ .genset → w.inFlight v = s.inFlight v
  occupied : occupied w ≤ occupied s + opened.length
  feeders  : ∀ u ∈ opened, (s.unit u).kind = .feeder
  made     : ∀ u ∈ opened, ∃ i : SlotNo, OrderMade s w i u .opn .shed none ∧
    w.unit u = { s.unit u with feederJob := { shed := .opening, openOrder := some ⟨.opn, i, .shed⟩ } }

/-- The feeders that an OPEN can be asked for at once, and those that have to wait for credit (R66). -/
def opensNow (s : State) (u : UnitNo) : Bool := mayOpen s u && decide (s.inFlight u < (s.unit u).credit)

def waitsForCredit (s : State) (u : UnitNo) : Bool := mayOpen s u && decide ((s.unit u).credit ≤ s.inFlight u)

theorem mayOpen_congr {s w : State} {u : UnitNo} (unit : w.unit u = s.unit u) (now : w.now = s.now) :
    mayOpen w u = mayOpen s u := by
  unfold mayOpen
  rw [unit, now]

theorem Serving.skip {s w : State} {cause : ShedCause} {kept rest opened : List UnitNo} {u : UnitNo}
    (h : Serving s w cause kept (u :: rest) opened) : Serving s w cause (kept ++ [u]) rest opened :=
  { h with pending := by rw [h.pending, List.append_assoc]; rfl }

/-- An entry refused HELD or NOT_PERMITTED leaves the list, and nothing else changes but the predictive record. -/
theorem pendingRefused_eq {w : State} {e : PendingShed} (plain : e.cause ≠ .predictive) : ∃ p : Option Predictive,
    pendingRefused w e = w.setShedBlock { w.shed with
      pending := w.shed.pending.filter (fun x => x.feeder != e.feeder), predictive := p } := by
  obtain ⟨p, tidied⟩ := tidyPredictive_eq (w.setShedBlock { w.shed with
    pending := w.shed.pending.filter (fun x => x.feeder != e.feeder) })
  refine ⟨p, Eq.trans (if_neg (by simpa using plain)) tidied⟩

theorem filter_entries {cause : ShedCause} {kept rest : List UnitNo} {u : UnitNo} (fresh : (kept ++ u :: rest).Nodup) :
    ((kept ++ u :: rest).map fun v => (⟨v, cause⟩ : PendingShed)).filter (fun x => x.feeder != u) =
      (kept ++ rest).map fun v => ⟨v, cause⟩ := by
  rw [List.filter_map]
  refine congrArg _ ?_
  obtain ⟨-, distinct, apart⟩ := List.nodup_append.mp fresh
  obtain ⟨later, -⟩ := List.nodup_cons.mp distinct
  have before : kept.filter ((fun x => x.feeder != u) ∘ fun v => (⟨v, cause⟩ : PendingShed)) = kept :=
    List.filter_eq_self.mpr fun v mem => by simpa using apart v mem u List.mem_cons_self
  have after_ : rest.filter ((fun x => x.feeder != u) ∘ fun v => (⟨v, cause⟩ : PendingShed)) = rest :=
    List.filter_eq_self.mpr fun v mem => by simpa using fun e : v = u => later (e ▸ mem)
  rw [List.filter_append, before, List.filter_cons_of_neg (by simp), after_]

theorem Serving.refuse {s w : State} {cause : ShedCause} {kept rest opened : List UnitNo} {u : UnitNo}
    (h : Serving s w cause kept (u :: rest) opened) (fresh : (kept ++ u :: rest).Nodup) (plain : cause ≠ .predictive) :
    Serving s (pendingRefused w ⟨u, cause⟩) cause kept rest opened := by
  obtain ⟨p, refused⟩ := pendingRefused_eq (w := w) (e := ⟨u, cause⟩) plain
  rw [refused]
  refine { h with pending := ?_ }
  show w.shed.pending.filter _ = _
  rw [h.pending]
  exact filter_entries fresh

theorem Serving.open {s w : State} {cause : ShedCause} {kept rest opened : List UnitNo} {u : UnitNo}
    (h : Serving s w cause kept (u :: rest) opened) (fresh : (kept ++ u :: rest).Nodup) (new : u ∉ opened)
    (feeder : (s.unit u).kind = .feeder) {t : State} (opens : EntryOpened w t ⟨u, cause⟩) :
    Serving s t cause kept rest (opened ++ [u]) := by
  have notGenset : (s.unit u).kind ≠ .genset := by rw [feeder]; exact nofun
  have here : w.unit u = s.unit u := h.units u new notGenset
  have aside {v : UnitNo} (out : v ∉ opened ++ [u]) : v ∉ opened ∧ v ≠ u := by simpa [not_or] using out
  have kind {v : UnitNo} (out : v ∉ opened) (plain : (s.unit v).kind ≠ .genset) : (w.unit v).kind ≠ .genset := by
    rwa [h.units v out plain]
  exact
    { pending := by
        rw [opens.pending, h.pending]
        exact filter_entries fresh
      stack := by
        rw [opens.stack, h.stack, List.map_append, List.append_assoc, here, h.tracker]
        rfl
      service := opens.service.trans h.service
      now := opens.now.trans h.now
      tracker := opens.tracker.trans h.tracker
      units := fun v out plain => by
        obtain ⟨out, other⟩ := aside out
        exact (opens.units v other (kind out plain)).trans (h.units v out plain)
      counters := fun v out => by
        obtain ⟨out, other⟩ := aside out
        exact (opens.counters v other).trans (h.counters v out)
      inFlight := fun v out plain => by
        obtain ⟨out, other⟩ := aside out
        exact (opens.inFlight v other (kind out plain)).trans (h.inFlight v out plain)
      occupied := by
        have := opens.occupied
        have := h.occupied
        rw [List.length_append]
        simp only [List.length_singleton]
        omega
      feeders := fun v mem => by
        rcases List.mem_append.mp mem with old | last
        · exact h.feeders v old
        · rw [List.mem_singleton.mp last, feeder]
      made := fun v mem => by
        rcases List.mem_append.mp mem with old | last
        · obtain ⟨i, made, unit⟩ := h.made v old
          have other : v ≠ u := fun e => new (e ▸ old)
          refine ⟨i, opens.opens i v _ _ _ _ _ made, (opens.units v other ?_).trans unit⟩
          rw [unit]
          exact fun genset => UnitKind.noConfusion (genset.symm.trans (h.feeders v old))
        · obtain rfl := List.mem_singleton.mp last
          obtain ⟨i, made, unit⟩ := opens.unit
          refine ⟨i, ?_, by rw [unit, here]⟩
          rw [OrderMade, h.counters _ new] at made
          exact made }

/-- The entries that are left are served where there is room (R144). -/
theorem Serving.serve {s : State} {cause : ShedCause} (mode : s.mode = .active ∨ s.mode = .restore) :
    ∀ (rest : List UnitNo) (n : Nat) (w : State) (kept opened : List UnitNo), rest.length ≤ n →
      (kept ++ rest).Nodup → (∀ u ∈ rest, u ∉ opened ∧ (s.unit u).kind = .feeder) →
      (cause = .predictive → ∀ u ∈ rest, mayOpen s u = true) → Machine.occupied s + opened.length + rest.length ≤ 12 →
      Serving s w cause kept rest opened →
      Serving s (serveN n kept.length w) cause (kept ++ rest.filter (waitsForCredit s)) [] (opened ++ rest.filter (opensNow s)) := by
  intro rest
  induction rest with
  | nil =>
    intro n w kept opened _ _ _ _ _ h
    have over_ : serveN n kept.length w = w := by
      cases n with
      | zero => rfl
      | succ n =>
        have past : w.shed.pending[kept.length]? = none := by rw [h.pending]; simp
        rw [serveN, past]
    rw [over_]
    simpa using h
  | cons u rest ih =>
    intro n w kept opened long fresh feeders may room h
    obtain ⟨n, rfl⟩ : ∃ m, n = m + 1 := ⟨n - 1, by simp only [List.length_cons] at long; omega⟩
    simp only [List.length_cons, Nat.add_le_add_iff_right] at long
    obtain ⟨⟨new, feeder⟩, later⟩ := List.forall_mem_cons.mp feeders
    have notGenset : (s.unit u).kind ≠ .genset := by rw [feeder]; exact nofun
    have mayLater : cause = .predictive → ∀ v ∈ rest, mayOpen s v = true :=
      fun isPredictive v mem => may isPredictive v (List.mem_cons_of_mem _ mem)
    have distinct : (kept ++ rest).Nodup := fresh.sublist ((List.sublist_cons_self u rest).append_left kept)
    have here : w.shed.pending[kept.length]? = some ⟨u, cause⟩ := by rw [h.pending]; simp
    have unit : w.unit u = s.unit u := h.units u new notGenset
    have opens : mayOpen w u = mayOpen s u := mayOpen_congr unit h.now
    have flight : w.inFlight u = s.inFlight u := h.inFlight u new notGenset
    obtain ⟨barred, spent, free⟩ := judgeRequest_opn (s := w) (by rw [State.mode, h.service]; exact mode) u
    have answer := (requestOrder_spec w u .opn none .shed none).1
    rw [opens] at barred spent free
    rw [unit, flight] at spent free
    cases able : mayOpen s u with
    | false =>
      have plain : cause ≠ .predictive := fun isPredictive =>
        Bool.noConfusion (able.symm.trans (may isPredictive u List.mem_cons_self))
      obtain ⟨why, reason, refused⟩ := barred able
      have stays := requestOrder_stays (v := none) (step := none) refused (by rintro rfl; simp at reason)
      have asked : requestOrder w u .opn none .shed none = (w, .refused why) := Prod.ext stays (answer.trans refused)
      have goes : serveN (n + 1) kept.length w = serveN n kept.length (pendingRefused w ⟨u, cause⟩) := by
        rw [serveN, here]
        simp only [asked]
        rcases reason with rfl | rfl <;> rfl
      have served := ih n _ kept opened long distinct later mayLater (by simp only [List.length_cons] at room; omega)
        (h.refuse fresh plain)
      rw [goes]
      have waits : waitsForCredit s u = false := by rw [waitsForCredit, able, Bool.false_and]
      have now : opensNow s u = false := by rw [opensNow, able, Bool.false_and]
      rw [List.filter_cons_of_neg (by rw [waits]; exact nofun), List.filter_cons_of_neg (by rw [now]; exact nofun)]
      exact served
    | true =>
      by_cases credit : s.inFlight u < (s.unit u).credit
      · have created := free able credit
        obtain ⟨i, found⟩ := freeSlot_of_room (s := w) (by
          have := h.occupied
          simp only [List.length_cons] at room
          omega)
        rw [found] at created
        have opened_ := pendingOpened_opened (e := ⟨u, cause⟩) (by rw [unit, feeder]) created (freeSlot_empty found)
        obtain ⟨granted, asked⟩ : ∃ x, requestOrder w u .opn none .shed none = (x, .created i) :=
          ⟨_, Prod.ext rfl (answer.trans created)⟩
        rw [show (requestOrder w u .opn none .shed none).1 = granted from congrArg Prod.fst asked] at opened_
        have goes : serveN (n + 1) kept.length w = serveN n kept.length (pendingOpened granted ⟨u, cause⟩ i) := by
          rw [serveN, here]
          simp only [asked]
        have apart : ∀ v ∈ rest, v ∉ opened ++ [u] ∧ (s.unit v).kind = .feeder := fun v mem => by
          obtain ⟨out, isFeeder⟩ := later v mem
          have other : v ≠ u := fun e => by
            obtain ⟨-, tail, -⟩ := List.nodup_append.mp fresh
            exact (List.nodup_cons.mp tail).1 (e ▸ mem)
          exact ⟨by simp [out, other], isFeeder⟩
        have served := ih n _ kept (opened ++ [u]) long distinct apart mayLater
          (by simp only [List.length_cons, List.length_append, List.length_nil] at room ⊢; omega)
          (h.open fresh new feeder opened_)
        rw [goes]
        have waits : waitsForCredit s u = false := by simp [waitsForCredit, credit]
        have now : opensNow s u = true := by simp [opensNow, able, credit]
        rw [List.filter_cons_of_neg (by rw [waits]; exact nofun), List.filter_cons_of_pos now]
        simpa using served
      · have refused := spent able (by omega)
        have stays := requestOrder_stays (v := none) (step := none) refused (by decide)
        have asked : requestOrder w u .opn none .shed none = (w, .refused .noCredit) := Prod.ext stays (answer.trans refused)
        have goes : serveN (n + 1) kept.length w = serveN n (kept ++ [u]).length w := by
          rw [serveN, here]
          simp only [asked, List.length_append, List.length_singleton]
        have served := ih n w (kept ++ [u]) opened long (by rwa [List.append_assoc]) later mayLater
          (by simp only [List.length_cons] at room; omega) h.skip
        rw [goes]
        have waits : waitsForCredit s u = true := by simp [waitsForCredit, able]; omega
        have now : opensNow s u = false := by simp [opensNow]; omega
        rw [List.filter_cons_of_pos waits, List.filter_cons_of_neg (by rw [now]; exact nofun)]
        simpa using served

/-! ## The list that a shed fills -/

theorem shedFeeders_of_some {x : State} {us : List UnitNo} (cause : ShedCause) (some_ : us ≠ []) :
    shedFeeders x us cause = serveN 256 0 (addPending x us cause) := if_neg (by simpa using some_)

/-- The first entry of the list refused for the mode empties it (R144). -/
theorem serveN_of_idle {w : State} {e : PendingShed} (n : Nat) (first : w.shed.pending[0]? = some e)
    (idle : w.mode = .halted ∨ w.mode = .observe) : serveN (n + 1) 0 w = dropPending w := by
  have refused := judgeRequest_idle idle e.feeder .opn .shed
  have asked : requestOrder w e.feeder .opn none .shed none = (w, .refused .wrongMode) :=
    Prod.ext (requestOrder_stays refused (by decide)) ((requestOrder_spec _ _ _ _ _ _).1.trans refused)
  rw [serveN, first]
  simp only [asked]

/-- The first entry of the list refused NO_SLOT leaves it as it stands (R66, R144). -/
theorem serveN_of_full {w : State} {e : PendingShed} (n : Nat) (first : w.shed.pending[0]? = some e)
    (refused : judgeRequest w e.feeder .opn .shed = .refused .noSlot) : serveN (n + 1) 0 w = rise w .slotsExhausted := by
  obtain ⟨answer, leaves⟩ := requestOrder_spec w e.feeder .opn none .shed none
  rw [refused] at answer leaves
  have asked : requestOrder w e.feeder .opn none .shed none = (rise w .slotsExhausted, .refused .noSlot) :=
    Prod.ext leaves answer
  rw [serveN, first]
  simp only [asked]

theorem addPending_first {x : State} {us : List UnitNo} {u : UnitNo} {rest : List UnitNo} (cause : ShedCause)
    (listed : us = u :: rest) : ∃ e : PendingShed, (addPending x us cause).shed.pending[0]? = some e ∧
      (x.shed.pending = [] → e = ⟨u, cause⟩) := by
  subst listed
  show ∃ e : PendingShed, (x.shed.pending ++ (u :: rest).map fun v => (⟨v, cause⟩ : PendingShed))[0]? = some e ∧ _
  cases x.shed.pending with
  | nil => exact ⟨_, rfl, fun _ => rfl⟩
  | cons e es => exact ⟨e, rfl, nofun⟩

theorem addPending_serving {x : State} (us : List UnitNo) (cause : ShedCause) (empty : x.shed.pending = []) :
    Serving x (addPending x us cause) cause [] us [] where
  pending := by
    show x.shed.pending ++ _ = _
    rw [empty]
    rfl
  stack := (List.append_nil _).symm
  service := rfl
  now := rfl
  tracker := rfl
  units _ _ _ := rfl
  counters _ _ := rfl
  inFlight _ _ _ := rfl
  occupied := le_rfl
  feeders _ mem := absurd mem List.not_mem_nil
  made _ mem := absurd mem List.not_mem_nil

/-- Feeders that may be shed, added to the list and served (R144), told of a state that agrees with the one in which the list is
served but for the ports, which are not both busy when there is a feeder. -/
theorem shedFeeders_served {x : State} {us : List UnitNo} (cause : ShedCause) (fresh : us.Nodup)
    (feeders : ∀ u ∈ us, (x.unit u).kind = .feeder) (f : FramePath) (same : us = [] → f = x.frame)
    (idle : us ≠ [] → ¬ Busy { x with frame := f }) : ListServed { x with frame := f } (shedFeeders x us cause) us cause where
  nobody nothing := by
    rw [same nothing, nothing]
    rfl
  noOrder mode some_ := by
    obtain ⟨u, rest, listed⟩ := List.exists_cons_of_ne_nil some_
    obtain ⟨e, first, -⟩ := addPending_first (x := x) cause listed
    rw [shedFeeders_of_some cause some_, serveN_of_idle 255 first mode]
    obtain ⟨p, tidied⟩ := tidyPredictive_eq ((addPending x us cause).setShedBlock { (addPending x us cause).shed with pending := [] })
    rw [dropPending, tidied]
    exact ⟨rfl, rfl, rfl, rfl, rfl⟩
  served room may := by
    rintro _ rfl
    by_cases some_ : us = []
    · have nothing : shedFeeders x us cause = x := by rw [some_]; rfl
      have empty : x.shed.pending = [] := room.empty
      rw [nothing, some_]
      exact ⟨empty, (List.append_nil _).symm, nofun, nofun, fun some_ => absurd rfl some_⟩
    · have slots : occupied x + us.length ≤ 12 := room.slots
      have served := Serving.serve (s := x) room.mode us 256 (addPending x us cause) [] [] (by omega) (by simpa using fresh)
        (fun u mem => ⟨List.not_mem_nil, feeders u mem⟩) may (by simpa using slots) (addPending_serving us cause room.empty)
      rw [shedFeeders_of_some cause some_]
      simp only [List.nil_append, List.length_nil] at served
      have kept := served.pending
      rw [List.append_nil] at kept
      refine ⟨kept, served.stack, served.made, fun u mem out => served.units u out ?_, fun _ busy => absurd busy (idle some_)⟩
      rw [feeders u mem]
      exact nofun
  noSlot mode empty full u rest listed may credit := by
    have some_ : us ≠ [] := by rw [listed]; exact List.cons_ne_nil _ _
    obtain ⟨e, first, names⟩ := addPending_first (x := x) cause listed
    obtain rfl := names empty
    obtain ⟨-, -, free⟩ := judgeRequest_opn (s := addPending x us cause) mode u
    have refused : judgeRequest (addPending x us cause) u .opn .shed = .refused .noSlot := by
      rw [free may credit, freeSlot_of_full (s := addPending x us cause) full]
      rfl
    rw [shedFeeders_of_some cause some_, serveN_of_full 255 first refused]
    have work := rise_work (addPending x us cause) .slotsExhausted
    refine ⟨work.outside.units, by rw [work.outside.shed]; rfl, ?_, rise_latched _ _⟩
    rw [work.outside.shed]
    show x.shed.pending ++ _ = _
    rw [show x.shed.pending = [] from empty]
    rfl

end Sys2Proof.Machine
end

section
/-! The Shed Controller: a frequency arrival at the ROCOF tracker, the stages and the trigger (R147 to R150). -/

namespace Sys2Proof.Machine

/-! ## The feeders of a stage -/

theorem canShed_iff (s : State) (u : UnitNo) : canShed s u = true ↔ MayShed s u := by
  simp only [canShed, Bool.and_eq_true, beq_iff_eq, Bool.not_eq_true', ← Bool.not_eq_true, isPending_iff]
  exact ⟨fun ⟨⟨⟨kind, closed⟩, plain⟩, unlisted⟩ => ⟨kind, closed, by simpa using plain, unlisted⟩,
    fun ⟨kind, closed, plain, unlisted⟩ => ⟨⟨⟨kind, closed⟩, by simpa using plain⟩, unlisted⟩⟩

/-- The feeders that the trip of a stage sheds, in order (R148). -/
def stageFeeders (s : State) (n : Fin 6) : List UnitNo :=
  byPriority s (allUnits.filter fun u => canShed s u && (s.unit u).feeder.stage == n.val + 1)

theorem mem_stageFeeders (s : State) (n : Fin 6) (u : UnitNo) :
    u ∈ stageFeeders s n ↔ MayShed s u ∧ (s.unit u).feeder.stage = n.val + 1 := by
  rw [stageFeeders, byPriority, (sortBy_perm _ _).mem_iff, List.mem_filter, ← canShed_iff]
  simp [mem_allUnits]

theorem byPriority_filter_inShedOrder (s : State) (p : UnitNo → Bool) : InShedOrder s (byPriority s (allUnits.filter p)) :=
  sortBy_sorted _ _ ((List.pairwise_lt_finRange 64).filter _)

theorem byPriority_filter_nodup (s : State) (p : UnitNo → Bool) : (byPriority s (allUnits.filter p)).Nodup :=
  (sortBy_perm _ _).nodup_iff.mpr ((List.nodup_finRange 64).filter _)

theorem InShedOrder.of_units {s t : State} {us : List UnitNo} (h : InShedOrder s us) (units : t.units = s.units) :
    InShedOrder t us := by
  unfold InShedOrder at h ⊢
  simpa only [unit_of_units units] using h

theorem MayShed.of_same {s t : State} {u : UnitNo} (units : t.units = s.units) (shed : t.shed = s.shed) (h : MayShed t u) :
    MayShed s u := by
  obtain ⟨kind, closed, plain, unlisted⟩ := h
  rw [unit_of_units units] at kind closed plain
  exact ⟨kind, closed, plain, shed ▸ unlisted⟩

/-! ## What a trip sheds (R148) -/

/-- The ports with nothing on the transmitter of port PA. -/
def paFree (s : State) : FramePath := { s.frame with pa := { s.frame.pa with tx := .free } }

/-- A transmitter is no part of record work. -/
theorem paFree_work (s : State) : RecordWork s { s with frame := paFree s } :=
  { RecordWork.refl s with
    outside := { SameOutsideRecord.refl s with }
    up := fun p => by cases p <;> rfl
    rx := fun p => by cases p <;> rfl
    buffer := fun p => by cases p <;> rfl }

theorem not_busy_paFree (s : State) : ¬ Busy { s with frame := paFree s } := fun busy => (busy .pa).2 rfl

/-- A timer entering TRIPPED records STAGE_TRIPPED and sheds the stage's feeders (R148). `StageSheds` tells the list's serving of
a state that the recording leaves but for what record work may change, a transmitter among them; with port PA free in it, what it
says of the STOPs withdrawn while both ports are busy is said of no state in which a STOP stands in the slot of another. -/
theorem stageTripped_sheds (s : State) (n : Fin 6) (f detail : Nat) (cause : ShedCause) :
    StageSheds s (stageTripped s n f detail cause) n f detail cause := by
  obtain ⟨x, recorded⟩ : ∃ x, x = record s .stageTripped none (some (f : Int)) (some detail) := ⟨_, rfl⟩
  have work : RecordWork s x := recorded ▸ record_work _ _ _ _ _
  have tripped : stageTripped s n f detail cause = shedFeeders x (stageFeeders x n) cause := by rw [recorded]; rfl
  have listed (u : UnitNo) : u ∈ stageFeeders x n ↔ MayShed s u ∧ (s.unit u).feeder.stage = n.val + 1 := by
    rw [mem_stageFeeders, work.unit]
    exact and_congr_left fun _ => ⟨.of_same work.outside.units work.outside.shed,
      .of_same work.outside.units.symm work.outside.shed.symm⟩
  have logged (w : State) (more : RecordWork x w) : logOpen s → w.events.log.get s.events.writeIndex =
      some (recordNow s .stageTripped none (some (f : Int)) (some detail)) := fun room =>
    more.log _ _ (recorded ▸ record_log room _ _ _ _)
  have order : InShedOrder s (stageFeeders x n) := (byPriority_filter_inShedOrder x _).of_units work.outside.units.symm
  have feeders : ∀ u ∈ stageFeeders x n, (x.unit u).kind = .feeder := fun u mem =>
    ((mem_stageFeeders x n u).mp mem).1.kind
  have fresh : (stageFeeders x n).Nodup := byPriority_filter_nodup x _
  rw [tripped]
  by_cases some_ : stageFeeders x n = []
  · exact ⟨x, _, work, logged x (.refl x), order, listed,
      shedFeeders_served cause fresh feeders x.frame (fun _ => rfl) (absurd some_)⟩
  · exact ⟨_, _, work.trans (paFree_work x), logged _ (paFree_work x), order, listed,
      shedFeeders_served cause fresh feeders (paFree x) (fun nothing => absurd nothing some_) fun _ => not_busy_paFree x⟩

/-! ## The stages and the trigger -/

theorem takeStage_takes (s : State) (a : Arrival) (n : Fin 6) : StageTakes s (takeStage a s n) a n where
  disabled off := if_pos (by rw [off]; rfl)
  enabled on := by
    rintro held x w holds rfl rfl
    have judged : held = (n == 0 && decide (2 ≤ s.shed.rocof.lowCount)) := by
      rw [Bool.eq_iff_iff, holds]
      simp
    subst judged
    have stage : takeStage a s n = if (takeTimer (s.shed.stages.get n) a (n == 0 && decide (2 ≤ s.shed.rocof.lowCount))
          (s.shed.timers.get n)).state == .tripped && (s.shed.timers.get n).state != .tripped
        then stageTripped (setTimer s n (takeTimer (s.shed.stages.get n) a (n == 0 && decide (2 ≤ s.shed.rocof.lowCount))
          (s.shed.timers.get n))) n a.frequency (n.val + 1) (.stage n)
        else setTimer s n (takeTimer (s.shed.stages.get n) a (n == 0 && decide (2 ≤ s.shed.rocof.lowCount))
          (s.shed.timers.get n)) := if_neg (by rw [on]; decide)
    rw [stage]
    refine ⟨fun rests => if_neg ?_, fun trips was => ?_⟩
    · rcases rests with other | was
      · simp [other]
      · simp [was]
    · rw [if_pos (by simp [trips, was])]
      exact stageTripped_sheds _ _ _ _ _

theorem takeTrigger_takes (s : State) (a : Arrival) : TriggerTakes s (takeTrigger s a) a where
  fires low on was := by
    have fired : takeTrigger s a = stageTripped (setTimer s 0 { s.shed.timers.get 0 with state := .tripped }) 0 a.frequency 7
        .rocof := if_pos (by simp [low, on, was])
    rw [fired]
    exact stageTripped_sheds _ _ _ _ _
  rests rests := if_neg (by
    rcases rests with low | off | was
    · simp [low]
    · simp [off]
    · simp [was])

/-- The state before the stages and after each of them. -/
def afterStages (s : State) (a : Arrival) (n : Nat) : State :=
  ((List.finRange 6).take n).foldl (takeStage a)
    (s.setShedBlock { s.shed with rocof := takeRocof s.shed.rocof a s.settings.rocofLimit })

theorem afterStages_succ (s : State) (a : Arrival) (n : Fin 6) :
    afterStages s a (n.val + 1) = takeStage a (afterStages s a n.val) n := by
  have next : (List.finRange 6).take (n.val + 1) = (List.finRange 6).take n.val ++ [n] := by
    rw [List.take_succ_eq_append_getElem (by simp)]
    simp
  rw [afterStages, next, List.foldl_append]
  rfl

/-- A frequency arrival at the Shed Controller (R147 to R150). -/
theorem shedArrival_takes (s : State) (a : Arrival) : ShedTakes s (shedArrival s a) a :=
  ⟨afterStages s a, rfl, fun n => afterStages_succ s a n ▸ takeStage_takes _ a n, takeTrigger_takes _ a⟩

end Sys2Proof.Machine
end

section
/-! The Restoration Sequencer: the dead-bus detector (R161, R162). -/

namespace Sys2Proof.Machine

/-! ## What leaves the Sequencer as it is -/

theorem setShed_seqr (s : State) (u : UnitNo) (x : ShedState) : (setShed s u x).seqr = s.seqr := by
  obtain ⟨p, entered⟩ := setShed_eq s u x
  rw [entered]
  rfl

theorem push_seqr (s : State) (u : UnitNo) (cause : ShedCause) : (push s u cause).seqr = s.seqr :=
  (pushAnnounced_duties _).apart.seqr

theorem claim_seqr (s : State) (u : UnitNo) : (claim s u).seqr = s.seqr := setShed_seqr _ _ _

theorem foldl_seqr {α : Type} {f : State → α → State} (keeps : ∀ (s : State) (x : α), (f s x).seqr = s.seqr) (l : List α)
    (s : State) : (l.foldl f s).seqr = s.seqr := by
  induction l generalizing s with
  | nil => rfl
  | cons x l ih => exact (ih _).trans (keeps s x)

theorem releaseClaimed_seqr (completed : Bool) (s : State) (u : UnitNo) : (releaseClaimed completed s u).seqr = s.seqr := by
  unfold releaseClaimed
  split
  · exact setShed_seqr _ _ _
  · split
    · exact (push_seqr _ _ _).trans (setShed_seqr _ _ _)
    · exact setShed_seqr _ _ _

theorem planRelease_seqr (s : State) (completed : Bool) : (planRelease s completed).seqr = s.seqr :=
  foldl_seqr (releaseClaimed_seqr completed) _ s

theorem record_seqr (s : State) (k : EventKind) (u : Option UnitNo) (v : Option Int) (d : Option Nat) :
    (record s k u v d).seqr = s.seqr := (record_work s k u v d).outside.seqr

theorem sourceChanged_seqr (s : State) (left : EpochState) : (sourceChanged s left).seqr = s.seqr :=
  (sourceChanged_work s left).outside.seqr

theorem trackerMode_seqr (s : State) (left : Mode) : (trackerMode s left).seqr = s.seqr := by
  unfold trackerMode restartTracker
  split
  · simp only
    split
    · rfl
    · exact sourceChanged_seqr _ _
  · split <;> rfl

theorem shedModeLeft_seqr (s : State) : (shedModeLeft s).seqr = s.seqr := rfl

theorem noteLeftOpen_seqr (s : State) (u : UnitNo) : (noteLeftOpen s u).seqr = s.seqr := record_seqr _ _ _ _ _

theorem changeMode_seqr (s : State) (m : Mode) : (changeMode s m).seqr = s.seqr := by
  unfold changeMode
  split
  · rfl
  · simp only
    have limit (t : State) (left : Mode) : (limitModeChanged t left).seqr = t.seqr := by
      unfold limitModeChanged
      split
      · exact (limitSweep_duties _ _).apart.seqr
      · split <;> rfl
    have retry (t : State) (left : Mode) : (retryModeLeft t left).seqr = t.seqr := by
      unfold retryModeLeft
      split <;> rfl
    have orders (t : State) (left : Mode) : (ordersModeLeft t left).seqr = t.seqr := by
      unfold ordersModeLeft
      split
      · exact ((setRetry_duties _ false).apart.seqr.trans (shedModeLeft_seqr _)).trans (discardOrders_duties t).apart.seqr
      · rfl
    rw [limit, retry, orders, trackerMode_seqr, record_seqr]

/-! ## What an ended plan leaves of its progress (R174, R175) -/

theorem progress_of_seqr {s t : State} (same : t.seqr = s.seqr) : t.progress = s.progress := congrArg Sequencer.progress same

theorem stripSteps_progress (s : State) : (stripSteps s).progress = s.progress := rfl

theorem planEnded_progress (s : State) (cause : Nat) :
    (planEnded s cause).progress = { s.progress with endCause := some cause, deadline := none } :=
  progress_of_seqr (record_seqr _ _ _ _ _)

/-- A plan state entered, then a mode. -/
theorem planLeft_progress (s : State) (x : PlanState) (m : Mode) :
    (stripSteps (changeMode (s.setProgress { s.progress with planState := x }) m)).progress =
      { s.progress with planState := x } := by
  rw [stripSteps_progress, progress_of_seqr (changeMode_seqr _ m)]
  rfl

theorem planAbort_progress (s : State) (cause : Nat) (m : Mode) : (planAbort s cause m).progress =
    { s.progress with endCause := some cause, deadline := none, planState := .aborted } := by
  unfold planAbort
  simp only
  rw [planLeft_progress, progress_of_seqr (planRelease_seqr _ _), progress_of_seqr (rise_work _ _).outside.seqr,
    planEnded_progress]

theorem planComplete_progress (s : State) : (planComplete s).progress =
    { s.progress with endCause := some 0, deadline := none, planState := .completed } := by
  unfold planComplete
  simp only
  rw [planLeft_progress, progress_of_seqr (foldl_seqr noteLeftOpen_seqr _ _),
    progress_of_seqr (planRelease_seqr _ _), planEnded_progress]

theorem planAbort_mode (s : State) (cause : Nat) (m : Mode) : (planAbort s cause m).mode = m := by
  unfold planAbort
  exact (stripSteps_moves _).mode.trans (changeMode_mode _ m)

theorem planAbort_latched (s : State) (cause : Nat) (m : Mode) : (planAbort s cause m).isLatched .planFailed = true := by
  have released := (planRelease_moves (rise (planEnded s cause) .planFailed) false).shifts
  unfold planAbort
  exact (((released.trans (Shift.plan _ _).shifts).trans (changeMode_shifts _ m)).trans
    (stripSteps_moves _).shifts).frame.latched _ (rise_latched _ _)

/-! ## Where a plan stands: what an event at its step leaves of its progress -/

/-- The step, its attempt, its start and the restarts stay. -/
structure SamePlace (s t : State) : Prop where
  current   : t.progress.current = s.progress.current
  attempt   : t.progress.attempt = s.progress.attempt
  restarts  : t.progress.restarts = s.progress.restarts
  startTime : t.progress.startTime = s.progress.startTime

theorem SamePlace.refl (s : State) : SamePlace s s := ⟨rfl, rfl, rfl, rfl⟩

theorem SamePlace.trans {s t u : State} (a : SamePlace s t) (b : SamePlace t u) : SamePlace s u :=
  ⟨b.current.trans a.current, b.attempt.trans a.attempt, b.restarts.trans a.restarts, b.startTime.trans a.startTime⟩

theorem SamePlace.of_seqr {s t : State} (same : t.seqr = s.seqr) : SamePlace s t := by
  have := progress_of_seqr same
  constructor <;> rw [this]

/-- The step's place, the end cause and the Allocator stay. -/
structure SameCourse (s t : State) : Prop where
  place    : SamePlace s t
  endCause : t.progress.endCause = s.progress.endCause
  alloc    : t.alloc = s.alloc

theorem SameCourse.refl (s : State) : SameCourse s s := ⟨.refl s, rfl, rfl⟩

theorem SameCourse.trans {s t u : State} (a : SameCourse s t) (b : SameCourse t u) : SameCourse s u :=
  ⟨a.place.trans b.place, b.endCause.trans a.endCause, b.alloc.trans a.alloc⟩

theorem SameCourse.of_seqr {s t : State} (same : t.seqr = s.seqr) (alloc : t.alloc = s.alloc) : SameCourse s t :=
  ⟨.of_seqr same, congrArg Progress.endCause (progress_of_seqr same), alloc⟩

/-- An update of the progress that keeps the step's place and the end cause. -/
theorem SameCourse.setProgress (s : State) (p : Progress) (current : p.current = s.progress.current)
    (attempt : p.attempt = s.progress.attempt) (restarts : p.restarts = s.progress.restarts)
    (startTime : p.startTime = s.progress.startTime) (endCause : p.endCause = s.progress.endCause) :
    SameCourse s (s.setProgress p) :=
  ⟨⟨current, attempt, restarts, startTime⟩, endCause, rfl⟩

theorem claim_course (s : State) (u : UnitNo) : SameCourse s (claim s u) := by
  refine .of_seqr (claim_seqr s u) ?_
  obtain ⟨p, entered⟩ := setShed_eq (clearFeederWork s u) u .openPlan
  unfold claim
  rw [entered]
  rfl

theorem record_course (s : State) (k : EventKind) (u : Option UnitNo) (v : Option Int) (d : Option Nat) :
    SameCourse s (record s k u v d) := .of_seqr (record_seqr s k u v d) (record_work s k u v d).outside.alloc

theorem requestOrder_course {s s' : State} {u : UnitNo} {k : OrderKind} {v : Option Nat} {w : Owner} {st : Option (Fin 32)}
    {a : Answer} (asked : requestOrder s u k v w st = (s', a)) : SameCourse s s' := by
  refine .of_seqr (requestOrder_eq_duties asked).apart.seqr ?_
  have spec := (requestOrder_spec s u k v w st).2
  rw [asked] at spec
  cases judged : judgeRequest s u k w with
  | created i =>
    rw [judged] at spec
    exact spec.outside.alloc
  | coalesced i =>
    simp only [judged] at spec
    rw [spec]
    unfold rewriteSlot
    split <;> rfl
  | refused why =>
    cases why with
    | noSlot =>
      simp only [judged] at spec
      rw [spec]
      split
      · exact (rise_work s _).outside.alloc
      · rfl
    | wrongMode | notPermitted | held | noCredit =>
      simp only [judged] at spec
      rw [spec]

theorem enterDispatch_alloc (s : State) (u : UnitNo) (d : DispatchState) : (enterDispatch s u d).alloc = s.alloc := by
  unfold enterDispatch
  simp only
  split <;> rfl

theorem planStartRequest_course {s s' : State} {u : UnitNo} {st : Fin 32} {a : PlanStart}
    (h : planStartRequest s u st = (s', a)) : SameCourse s s' := by
  refine .of_seqr (planStartRequest_duties h).apart.seqr ?_
  unfold planStartRequest at h
  split at h
  · cases h; rfl
  · split at h
    · cases h; rfl
    · cases h; rfl
    · cases h; rfl
    · split at h
      · cases h; rfl
      · split at h
        next asked =>
          cases h
          exact (enterDispatch_alloc _ _ _).trans (requestOrder_course asked).alloc
        next asked => cases h; exact (requestOrder_course asked).alloc
        next asked => cases h; exact (requestOrder_course asked).alloc
    · cases h; rfl

theorem addIssue_course (s : State) (u : UnitNo) (k : OrderKind) : SameCourse s (addIssue s u k) := .setProgress _ _ rfl rfl rfl rfl rfl

theorem foldl_course {α : Type} {f : State → α → State} (keeps : ∀ (s : State) (x : α), SameCourse s (f s x)) (l : List α)
    (s : State) : SameCourse s (l.foldl f s) := by
  induction l generalizing s with
  | nil => exact .refl s
  | cons x l ih => exact (keeps s x).trans (ih _)

theorem takeFeeder_course (s : State) (u : UnitNo) : SameCourse s (takeFeeder s u) := by
  have issued (t : State) (b : Bool) : SameCourse t (if b then t else addIssue t u .opn) := by
    cases b
    · exact addIssue_course t u _
    · exact .refl t
  unfold takeFeeder
  simp only
  split
  · exact .refl s
  · split
    · exact issued _ _
    · exact (claim_course s u).trans (issued _ _)

theorem watchUnit_course (s : State) (u : UnitNo) : SameCourse s (watchUnit s u) := by
  unfold watchUnit
  simp only
  split
  · exact .refl s
  · split
    · exact .setProgress _ _ rfl rfl rfl rfl rfl
    · split
      · exact .setProgress _ _ rfl rfl rfl rfl rfl
      · exact .refl s

theorem takeZone_course (s : State) : SameCourse s (takeZone s) := by
  unfold takeZone
  simp only
  split
  · exact .setProgress _ _ rfl rfl rfl rfl rfl
  · split <;> exact .setProgress _ _ rfl rfl rfl rfl rfl

theorem noteGenset_course (s : State) (u : UnitNo) : SameCourse s (noteGenset s u) := by
  unfold noteGenset
  simp only
  split
  · exact .setProgress _ _ rfl rfl rfl rfl rfl
  · exact .refl s

theorem prepare_course (s : State) (t : Trigger) : SameCourse s (prepare s t) := by
  unfold prepare
  split
  · exact foldl_course takeFeeder_course _ s
  · exact noteGenset_course s _
  · split
    · exact .setProgress _ _ rfl rfl rfl rfl rfl
    · exact .refl s
  · exact watchUnit_course s _
  · exact takeZone_course s
  · exact .refl s

theorem stepDone_course (s : State) : SameCourse s (stepDone s) := by
  have done : SameCourse s (s.setProgress { s.progress with stepState := .done, deadline := none, toIssue := [] }) :=
    .setProgress _ _ rfl rfl rfl rfl rfl
  have recorded := done.trans (record_course _ .stepDone (currentStep s).unit (some (s.progress.current.val : Int))
    (some s.progress.attempt))
  exact recorded.trans (.of_seqr rfl rfl)

theorem setMembers_course (s : State) (l : List UnitNo) :
    SameCourse s (s.setProgress { s.progress with members := l }) := .setProgress _ _ rfl rfl rfl rfl rfl

theorem endBegun_course (s : State) :
    SameCourse s (s.setProgress { s.progress with stepState := .done, deadline := none }) := .setProgress _ _ rfl rfl rfl rfl rfl

theorem stepFail_course (s : State) (cause : Nat) (unit : Option UnitNo) : SameCourse s (stepFail s cause unit) := by
  by_cases open_ : s.progress.stepState = .issued ∨ s.progress.stepState = .waiting
  · have aside := stepFail_aside open_ cause unit
    have failed : SameCourse s (s.setProgress (failedProgress s.progress cause)) := .setProgress _ _ rfl rfl rfl rfl rfl
    exact failed.trans (.of_seqr aside.seqr aside.alloc)
  · rw [stepFail_of_closed (not_or.mp open_)]
    exact .refl s

theorem followLists_course (s : State) : SameCourse s (followLists s) := by
  unfold followLists
  simp only
  split
  · exact .setProgress _ _ rfl rfl rfl rfl rfl
  · exact .refl s

theorem askStart_course (s : State) (u : UnitNo) : SameCourse s (askStart s u) := by
  have again (t : State) : SameCourse t (if t.progress.holds u .start then t else addIssue t u .start) := by
    split
    · exact .refl t
    · exact addIssue_course t u .start
  have settled (t : State) : SameCourse t (t.setProgress { t.progress with toIssue := [] }) := .setProgress _ _ rfl rfl rfl rfl rfl
  unfold askStart
  simp only
  split
  next asked =>
    exact ((planStartRequest_course asked).trans (settled _)).trans (.setProgress _ _ rfl rfl rfl rfl rfl)
  next asked => exact (planStartRequest_course asked).trans (settled _)
  next asked => exact (planStartRequest_course asked).trans (settled _)
  next asked => exact (planStartRequest_course asked).trans (stepFail_course _ _ _)
  next asked => exact (planStartRequest_course asked).trans (again _)
  next asked => exact (planStartRequest_course asked).trans (stepFail_course _ _ _)
  next asked => exact (planStartRequest_course asked).trans (stepFail_course _ _ _)
  next asked => exact (planStartRequest_course asked).trans (again _)
  next asked => exact (planStartRequest_course asked).trans (stepFail_course _ _ _)
  next asked => exact (planStartRequest_course asked).trans (again _)

theorem issueAll_course (l : List (UnitNo × OrderKind)) (s : State) : SameCourse s (issueAll s l) := by
  induction l generalizing s with
  | nil => exact .refl s
  | cons x l ih =>
    unfold issueAll
    split
    next asked =>
      refine ((requestOrder_course asked).trans ?_).trans (ih _)
      exact .setProgress _ _ rfl rfl rfl rfl rfl
    next asked => exact (requestOrder_course asked).trans (stepFail_course _ _ _)
    next asked => exact (requestOrder_course asked).trans (stepFail_course _ _ _)
    next asked => exact (requestOrder_course asked).trans (ih _)

theorem serveStep_course (s : State) (t : Trigger) (added : Bool) : SameCourse s (serveStep s t added) := by
  unfold serveStep
  split
  · split
    · exact askStart_course s _
    · exact .refl s
  · split
    · exact issueAll_course _ s
    · exact .refl s

theorem stepEvent_course (s : State) (t : Trigger) : SameCourse s (stepEvent s t) := by
  unfold stepEvent
  simp only
  split
  · exact .refl s
  · refine (prepare_course s t).trans ?_
    split
    · exact stepDone_course _
    · split
      · exact stepFail_course _ _ _
      · exact (serveStep_course _ _ _).trans (followLists_course _)

/-! ## What a step that begins leaves (R165 to R171) -/

theorem planAbort_place (s : State) (cause : Nat) (m : Mode) : SamePlace s (planAbort s cause m) := by
  have ended := planAbort_progress s cause m
  constructor <;> rw [ended]

theorem planComplete_place (s : State) : SamePlace s (planComplete s) := by
  have ended := planComplete_progress s
  constructor <;> rw [ended]

theorem beginCloseUnit_course (s : State) (u : UnitNo) : SameCourse s (beginCloseUnit s u) := by
  unfold beginCloseUnit
  simp only
  split
  · have claimed : SameCourse s (if (s.unit u).kind == .feeder then claim s u else s) := by
      split
      · exact claim_course s u
      · exact .refl s
    have wanted (t : State) : SameCourse t (if (t.unit u).readsClosed then t else addIssue t u .close) := by
      split
      · exact .refl t
      · exact addIssue_course t u .close
    exact (claimed.trans (wanted _)).trans (stepEvent_course _ _)
  · exact stepFail_course _ _ _

theorem beginAction_place (s : State) : SamePlace s (beginAction s) := by
  unfold beginAction
  simp only
  split
  · exact (endBegun_course s).place.trans (planComplete_place _)
  · exact (beginCloseUnit_course s _).place
  · exact (stepFail_course _ _ _).place
  · exact ((setMembers_course s _).trans (stepEvent_course _ _)).place
  · exact (SamePlace.of_seqr (limitSweep_duties _ _).apart.seqr).trans (stepEvent_course _ _).place
  · exact (stepFail_course _ _ _).place
  · exact (stepEvent_course _ _).place

/-- An action other than END and RELEASE_PV keeps the end cause and the Allocator as it begins. -/
theorem beginAction_course {s : State} (other : (currentStep s).action ≠ .endPlan) (calm : (currentStep s).action ≠ .releasePv) :
    SameCourse s (beginAction s) := by
  unfold beginAction
  simp only
  split
  next ends => exact absurd ends other
  · exact beginCloseUnit_course s _
  · exact stepFail_course _ _ _
  · exact (setMembers_course s _).trans (stepEvent_course _ _)
  next releases => exact absurd releases calm
  · exact stepFail_course _ _ _
  · exact stepEvent_course _ _

/-- RELEASE_PV too keeps the end cause as it begins. -/
theorem beginAction_endCause {s : State} (other : (currentStep s).action ≠ .endPlan) :
    (beginAction s).progress.endCause = s.progress.endCause := by
  by_cases calm : (currentStep s).action = .releasePv
  · have begins : beginAction s = stepEvent (limitSweep s (currentStep s).argument) .began := by
      unfold beginAction
      simp only [calm]
    rw [begins, (stepEvent_course _ _).endCause, progress_of_seqr (limitSweep_duties _ _).apart.seqr]
  · exact (beginAction_course other calm).endCause

/-- An action other than END makes moves alone as it begins: the mode and the plan state stay. -/
theorem beginAction_moves {s : State} (other : (currentStep s).action ≠ .endPlan) : Moves s (beginAction s) := by
  unfold beginAction
  simp only
  split
  next ends => exact absurd ends other
  · exact beginCloseUnit_moves s _
  · exact stepFail_moves _ _ _
  · refine Moves.trans ?_ (stepEvent_moves _ _)
    exact setProgress_moves rfl
  · exact (limitSweep_duties _ _).moves.trans (stepEvent_moves _ _)
  · exact stepFail_moves _ _ _
  · exact stepEvent_moves _ _

theorem beginPlan_place (s : State) : SamePlace (s.setProgress (begunProgress s 0 1)) (beginPlan s) := by
  unfold beginPlan
  simp only
  split
  · exact planAbort_place _ _ _
  · exact beginAction_place _

/-! ## The detector -/

theorem noGensetClosed_iff (s : State) : noGensetClosed s = true ↔ ∀ u : UnitNo, (s.unit u).kind = .genset →
    ((s.unit u).live.freshness = .fresh ∨ (s.unit u).live.freshness = .held) → (s.unit u).live.values.breaker = .opn := by
  have reads (r : UnitRec) : r.readsClosed = false ↔
      ((r.live.freshness = .fresh ∨ r.live.freshness = .held) → r.live.values.breaker = .opn) := by
    unfold UnitRec.readsClosed Live.heard
    cases r.live.values.breaker <;> cases r.live.freshness <;> simp
  simp only [noGensetClosed, State.ofKind, List.all_eq_true, List.mem_filter, mem_allUnits, true_and, beq_iff_eq,
    Bool.not_eq_true', reads]

end Sys2Proof.Machine
end

section
/-! The Restoration Sequencer: what an assertion of the dead-bus detector does (R162). -/

namespace Sys2Proof.Machine

theorem defer_last (s : State) (t : Task) : (s.defer t).agenda.getLast? = some t := List.getLast?_concat

/-! ## BUS_DEAD -/

theorem recordDead_work (s : State) (a : Arrival) (detail : Nat) : RecordWork s (recordDead s a detail) := record_work _ _ _ _ _

/-- BUS_DEAD stands at the write index, whatever follows it. -/
theorem recordDead_log {s t : State} {a : Arrival} {detail : Nat} (follows : Shifts (recordDead s a detail) t)
    (room : logOpen s) : t.events.log.get s.events.writeIndex =
      some (recordNow s .busDead (some a.meter) (some (a.voltage : Int)) (some detail)) :=
  follows.frame.log _ _ (record_log room _ _ _ _)

/-! ## The plan starts (R164) -/

/-- The progress of a plan that starts, before its step 0 begins (R164). -/
def startedProgress (p : Progress) : Progress :=
  { p with planState := .running, current := 0, restarts := 0, endCause := none, restartPending := false }

theorem planStart_eq (s : State) :
    planStart s = beginPlan (changeMode (s.setProgress (startedProgress s.progress)) .restore) := rfl

theorem started_frame (s : State) : Frame s (changeMode (s.setProgress (startedProgress s.progress)) .restore) :=
  ((Shift.plan s _).shifts.trans (changeMode_shifts _ _)).frame

theorem started_progress (s : State) :
    (changeMode (s.setProgress (startedProgress s.progress)) .restore).progress = startedProgress s.progress :=
  progress_of_seqr (changeMode_seqr _ _)

/-- A plan started stands at step 0, attempt 1, from now. -/
theorem planStart_place (s : State) : (planStart s).progress.current = 0 ∧ (planStart s).progress.attempt = 1 ∧
    (planStart s).progress.restarts = 0 ∧ (planStart s).progress.startTime = s.now := by
  obtain ⟨current, attempt, restarts, startTime⟩ :=
    beginPlan_place (changeMode (s.setProgress (startedProgress s.progress)) .restore)
  rw [planStart_eq]
  refine ⟨current, attempt, restarts.trans ?_, startTime.trans (started_frame s).now⟩
  exact congrArg Progress.restarts (started_progress s)

/-- A plan begun whose step 0 is neither NONE nor END runs on. -/
theorem beginPlan_moves {s : State} (first : (s.seqr.plan.get 0).action ≠ .noAction)
    (other : (s.seqr.plan.get 0).action ≠ .endPlan) : Moves s (beginPlan s) := by
  have step : currentStep (s.setProgress (begunProgress s 0 1)) = s.seqr.plan.get 0 := rfl
  have begun : Moves s (s.setProgress (begunProgress s 0 1)) := setProgress_moves rfl
  unfold beginPlan
  simp only
  rw [if_neg (by rw [step]; simpa using first)]
  exact begun.trans (beginAction_moves (by rwa [step]))

theorem planStart_runs {s : State} (first : (s.seqr.plan.get 0).action ≠ .noAction)
    (other : (s.seqr.plan.get 0).action ≠ .endPlan) :
    (planStart s).mode = .restore ∧ (planStart s).progress.planState = .running := by
  have plan := (started_frame s).plan
  have moves := beginPlan_moves (s := changeMode (s.setProgress (startedProgress s.progress)) .restore)
    (by rwa [plan]) (by rwa [plan])
  rw [planStart_eq, moves.mode, moves.planState]
  exact ⟨changeMode_mode _ _, congrArg Progress.planState (started_progress s)⟩

/-! ## The detector asserts -/

theorem detectorAsserts_restore {s : State} (restore : s.mode = .restore) (a : Arrival) :
    detectorAsserts s a = deadAgain s a := by
  unfold detectorAsserts
  rw [restore]

theorem deadAgain_within {s : State} (within : bump 4 s.progress.restarts ≤ s.settings.restartLimit) (a : Arrival) :
    deadAgain s a = (stepFail ((recordDead s a 2).setProgress { (recordDead s a 2).progress with
      restarts := bump 4 s.progress.restarts, restartPending := true }) 7 none).defer .planAdvance := if_pos within

theorem deadAgain_beyond {s : State} (beyond : s.settings.restartLimit < bump 4 s.progress.restarts) (a : Arrival) :
    deadAgain s a = planAbort ((recordDead s a 3).setProgress { (recordDead s a 3).progress with
      restarts := bump 4 s.progress.restarts }) 4 .observe := if_neg (by omega)

theorem detectorAsserts_dead (s : State) (a : Arrival) : DeadBus s (detectorAsserts s a) a where
  nothing idle := by
    have asserts : detectorAsserts s a = recordDead s a 0 := by
      unfold detectorAsserts
      rcases idle with halted | observe | ⟨active, off⟩
      · rw [halted]
      · rw [observe]
      · rw [active]
        simp only [off, Bool.false_eq_true, if_false]
    rw [asserts]
    exact ⟨recordDead_work s a 0, recordDead_log (.refl _)⟩
  starts active on := by
    have asserts : detectorAsserts s a = planStart (recordDead s a 1) := by
      unfold detectorAsserts
      rw [active]
      simp only [on, if_true]
    have work := recordDead_work s a 1
    obtain ⟨current, attempt, restarts, startTime⟩ := planStart_place (recordDead s a 1)
    rw [asserts]
    refine ⟨current, attempt, restarts, startTime.trans work.outside.now, fun first other => planStart_runs ?_ ?_,
      recordDead_log (planStart_shifts _).shifts⟩
    · rwa [work.outside.seqr]
    · rwa [work.outside.seqr]
  again restore := by
    rintro _ rfl within
    obtain ⟨q, recorded⟩ : ∃ q, q = recordDead s a 2 := ⟨_, rfl⟩
    have work : RecordWork s q := recorded ▸ recordDead_work s a 2
    have progress : q.progress = s.progress := congrArg Sequencer.progress work.outside.seqr
    obtain ⟨p, raised⟩ : ∃ p, p = { s.progress with restarts := min 4 (s.progress.restarts + 1), restartPending := true } :=
      ⟨_, rfl⟩
    have asserts : detectorAsserts s a = (stepFail (q.setProgress p) 7 none).defer .planAdvance := by
      rw [detectorAsserts_restore restore, deadAgain_within within, ← recorded, progress, raised]
      rfl
    have planState : p.planState = q.progress.planState := by rw [raised, progress]
    have moves : Moves q (detectorAsserts s a) := by
      rw [asserts]
      exact (setProgress_moves planState).trans ((stepFail_moves _ _ _).trans (.defer _ _))
    have stepState : p.stepState = s.progress.stepState := by rw [raised]
    refine ⟨?_, ?_, fun open_ => ?_, fun closed => ?_, ?_⟩
    · rw [moves.mode, State.mode, work.outside.service]
      exact restore
    · rw [asserts]
      exact defer_last _ _
    · rw [asserts, progress_defer, stepFail_progress (by rwa [State.setProgress_progress, stepState]),
        State.setProgress_progress, raised]
      rfl
    · rw [asserts, progress_defer, stepFail_of_closed, State.setProgress_progress, raised]
      rw [State.setProgress_progress, stepState]
      rcases closed with done | failed
      · simp [done]
      · simp [failed]
    · exact recordDead_log (recorded ▸ moves.shifts)
  ends restore := by
    rintro _ rfl beyond
    obtain ⟨q, recorded⟩ : ∃ q, q = recordDead s a 3 := ⟨_, rfl⟩
    have work : RecordWork s q := recorded ▸ recordDead_work s a 3
    have progress : q.progress = s.progress := congrArg Sequencer.progress work.outside.seqr
    obtain ⟨p, raised⟩ : ∃ p, p = { s.progress with restarts := min 4 (s.progress.restarts + 1) } := ⟨_, rfl⟩
    have asserts : detectorAsserts s a = planAbort (q.setProgress p) 4 .observe := by
      rw [detectorAsserts_restore restore, deadAgain_beyond beyond, ← recorded, progress, raised]
      rfl
    have planState : p.planState = q.progress.planState := by rw [raised, progress]
    have ended := planAbort_progress (q.setProgress p) 4 .observe
    rw [asserts, ended, State.setProgress_progress]
    refine ⟨planAbort_mode _ _ _, rfl, rfl, by rw [raised], planAbort_latched _ _ _, ?_⟩
    exact recordDead_log (recorded ▸ (setProgress_moves planState).shifts.trans (planAbort_shifts _ 4 (by decide)).shifts)

/-! ## A frequency arrival at the Sequencer -/

/-- The arrival does not continue a run. -/
theorem broken_iff (a : Arrival) : a.broken = true ↔ a.sourceChanged = true ∨ a.gap = none := by
  simp [Arrival.broken]

theorem seqArrival_eq (s : State) (a : Arrival) : seqArrival s a =
    if (detectorAfter s a).2 && !s.seqr.asserted
    then detectorAsserts { s with seqr := { s.seqr with lowSince := (detectorAfter s a).1, asserted := (detectorAfter s a).2 } } a
    else stepEvent { s with seqr := { s.seqr with lowSince := (detectorAfter s a).1, asserted := (detectorAfter s a).2 } }
      (.arrival a) := rfl

/-- While the voltage is low the run goes on, or starts anew at this arrival (R161). -/
theorem detectorAfter_low {s : State} {a : Arrival} (low : a.voltage < s.settings.deadVoltage) : detectorAfter s a =
    (some ((if a.broken then none else s.seqr.lowSince).getD a.time), s.seqr.asserted ||
      (decide (s.settings.deadConfirm ≤ elapsed a.time ((if a.broken then none else s.seqr.lowSince).getD a.time)) &&
        noGensetClosed s)) := if_pos low

/-- Otherwise there is none, and the detector stays asserted below the live voltage alone. -/
theorem detectorAfter_high {s : State} {a : Arrival} (high : s.settings.deadVoltage ≤ a.voltage) : detectorAfter s a =
    (none, s.seqr.asserted && decide (a.voltage < s.settings.liveVoltage)) := by
  unfold detectorAfter
  rw [if_neg (by omega)]
  split
  next live => rw [decide_eq_true live, Bool.and_true]
  next live => rw [decide_eq_false live, Bool.and_false]

theorem seqArrival_takes (s : State) (a : Arrival) : DetectorTakes s (seqArrival s a) a := by
  refine ⟨(detectorAfter s a).1, (detectorAfter s a).2, ?_, fun high => ?_, ?_⟩
  · rintro start low rfl
    rw [detectorAfter_low low]
    have began : (if a.broken then none else s.seqr.lowSince).getD a.time =
        if a.sourceChanged = true ∨ a.gap = none then a.time else s.seqr.lowSince.getD a.time := by
      simp only [← broken_iff]
      split <;> rfl
    rw [began, Bool.or_eq_true, Bool.and_eq_true, decide_eq_true_iff, noGensetClosed_iff]
    exact ⟨rfl, .rfl⟩
  · rw [detectorAfter_high high, Bool.and_eq_true, decide_eq_true_iff]
    exact ⟨rfl, .rfl⟩
  · rintro _ rfl
    refine ⟨fun stays => ?_, fun dead was => ?_⟩
    · have step : seqArrival s a = stepEvent { s with seqr := {
          s.seqr with lowSince := (detectorAfter s a).1, asserted := (detectorAfter s a).2 } } (.arrival a) := by
        rw [seqArrival_eq, if_neg]
        rcases stays with off | was
        · simp [off]
        · simp [was]
      have stops : s.planRunning = false → s.progress.planState ≠ .running := fun stopped => by
        simpa [State.planRunning] using stopped
      exact ⟨step, fun stopped => step.trans (stepEvent_of_idle (.inl (stops stopped)))⟩
    · rw [seqArrival_eq, if_pos (by simp [dead, was])]
      exact detectorAsserts_dead _ a

end Sys2Proof.Machine
end

section
/-! Reading Intake: a reading that passes the checks is stored and handed on (R43 to R58). -/

namespace Sys2Proof.Machine

/-! ## The checks passed -/

theorem inWindow_iff (t : Tracker) (epoch : Num16) : inWindow t epoch = true ↔
    t.state = .unset ∨ t.state = .freeRun ∨ epoch = t.epoch ∨ epoch = t.epoch - 1 := by
  unfold inWindow
  cases t.state <;> simp

theorem recordOpen_iff (r : UnitRec) (now : Time) : recordOpen r now = true ↔ r.live.heard = false ∨
    ∀ t : Time, r.live.lastArrival = some t → r.stale * r.interval < elapsed now t := by
  unfold recordOpen
  cases r.live.lastArrival <;> simp

theorem recordOpen_eq_false {r : UnitRec} {now : Time} (closed : recordOpen r now = false) :
    r.live.heard = true ∧ ∃ t : Time, r.live.lastArrival = some t ∧ elapsed now t ≤ r.stale * r.interval := by
  have := (recordOpen_iff r now).not.mp (by rw [closed]; exact nofun)
  push Not at this
  obtain ⟨heard, t, arrived, young⟩ := this
  exact ⟨by simpa using heard, t, arrived, young⟩

theorem seqPasses_iff (r : UnitRec) (now : Time) (seq : Num16) : seqPasses r now seq = true ↔
    recordOpen r now = true ∨ (1 ≤ (seq - r.live.lastSeq).toNat ∧ (seq - r.live.lastSeq).toNat ≤ 32767) := by
  rw [seqPasses, Bool.or_eq_true, Bool.and_eq_true, decide_eq_true_iff, decide_eq_true_iff, seqGap]

theorem checkReading_accepted {s : State} {m : ReadingMsg} (mode : s.mode ≠ .halted)
    (kind : (s.unit m.unit).kind = bodyKind m.body) (link : (s.unit m.unit).link = some m.src)
    (window : inWindow s.tracker m.epoch = true) (seq : seqPasses (s.unit m.unit) s.now m.seq = true) :
    checkReading s m = .accepted := by
  simp [checkReading, mode, kind, link, window, seq]

theorem checkReading_kind {s : State} {m : ReadingMsg} (accepted : checkReading s m = .accepted) :
    (s.unit m.unit).kind = bodyKind m.body := by
  by_contra other
  rw [checkReading_of_mode_kind (.inr other)] at accepted
  cases accepted

/-! ## Clamping (R48) -/

theorem clampKw_cast (x : BitVec 32) : (clampKw x : Int) = max 0 (min 65535 x.toInt) :=
  Int.toNat_of_nonneg (le_max_left _ _)

theorem kwFits_eq_false_iff (x : BitVec 32) : kwFits x = false ↔ (clampKw x : Int) ≠ x.toInt := by
  rw [clampKw_cast, ← Bool.not_eq_true, kwFits, Bool.and_eq_true, decide_eq_true_iff, decide_eq_true_iff]
  omega

/-- A reading's clamp count rises exactly when a value that is stored differs from the one carried. -/
theorem readingClamped_iff (r : UnitRec) (m : ReadingMsg) (now : Time) :
    ReadingClamped (acceptedLive r m now) m.body ↔ wasClamped m.body = true := by
  unfold acceptedLive
  cases body : m.body with
  | genset output breaker engine selector =>
    simp only [ReadingClamped, clampedValues, wasClamped, Bool.not_eq_true', kwFits_eq_false_iff]
  | pv output available cap breaker =>
    simp only [ReadingClamped, clampedValues, wasClamped, Bool.not_eq_true', Bool.and_eq_false_iff, kwFits_eq_false_iff,
      or_assoc]
    refine or_congr_right (or_congr_right ?_)
    cases cap with
    | none => simp
    | some c => simp [kwFits_eq_false_iff]
  | storage output discharge charge soc breaker =>
    simp only [ReadingClamped, clampedValues, wasClamped, Bool.not_eq_true', Bool.and_eq_false_iff, kwFits_eq_false_iff,
      decide_eq_false_iff_not, clampInt]
    omega
  | feeder load breaker => simp only [ReadingClamped, clampedValues, wasClamped, Bool.not_eq_true', kwFits_eq_false_iff]
  | meter frequency voltage =>
    simp only [ReadingClamped, clampedValues, wasClamped, Bool.not_eq_true', Bool.and_eq_false_iff, decide_eq_false_iff_not,
      clampMeter]
    omega

theorem acceptedLive_clampCount (r : UnitRec) (m : ReadingMsg) (now : Time) :
    (ReadingClamped (acceptedLive r m now) m.body → (acceptedLive r m now).clampCount = min 255 (r.live.clampCount + 1)) ∧
    (¬ ReadingClamped (acceptedLive r m now) m.body → (acceptedLive r m now).clampCount = r.live.clampCount) := by
  rw [readingClamped_iff]
  exact ⟨fun clamped => if_pos clamped, fun fits => if_neg fits⟩

/-! ## Acceptance (R49) -/

/-- An accepted reading as its hand-offs find it. -/
theorem acceptReading_stored (s : State) (m : ReadingMsg) :
    ReadingStored s (acceptReading (takeDelivery s (.reading m)) m) m (acceptedLive (s.unit m.unit) m s.now) := by
  obtain ⟨q, stored⟩ : ∃ q, q = (takeDelivery s (.reading m)).setUnit m.unit
    { s.unit m.unit with live := acceptedLive (s.unit m.unit) m s.now } := ⟨_, rfl⟩
  have accepted : acceptReading (takeDelivery s (.reading m)) m =
      if (s.unit m.unit).live.freshness == .stale then
        record (pump q) .unitFreshAgain (some m.unit) (some (m.seq.toNat : Int)) (some (kindCode (s.unit m.unit).kind))
      else pump q := by rw [stored]; rfl
  have work := pump_work q
  have events : (pump q).events = s.events := work.outside.events.trans (by rw [stored]; rfl)
  rw [accepted]
  constructor
  · rw [← stored]
    split
    · exact work.record.trans (record_work _ _ _ _ _)
    · exact work.record
  · intro fresh
    rw [if_neg (by simpa using fresh), events]
  · intro stale room
    have log := record_log (s := pump q) (by rw [logOpen, events]; exact room) .unitFreshAgain (some m.unit)
      (some (m.seq.toNat : Int)) (some (kindCode (s.unit m.unit).kind))
    rw [if_pos (by simp [stale]), ← events, log]
    have now : (pump q).now = s.now := work.outside.now.trans (by rw [stored]; rfl)
    have tracker : (pump q).tracker = s.tracker := work.outside.tracker.trans (by rw [stored]; rfl)
    rw [recordNow_congr now tracker]

/-! ## The live fields stay through the hand-offs -/

/-- No record's live fields change. -/
def SameLive (s t : State) : Prop := ∀ u : UnitNo, (t.unit u).live = (s.unit u).live

theorem SameLive.refl (s : State) : SameLive s s := fun _ => rfl

theorem SameLive.trans {s t u : State} (a : SameLive s t) (b : SameLive t u) : SameLive s u := fun v => (b v).trans (a v)

theorem Moves.sameLive {s t : State} (h : Moves s t) : SameLive s t := h.frame.live

theorem Duties.sameLive {s t : State} (h : Duties s t) : SameLive s t := h.frame.live

theorem Shifts.sameLive {s t : State} (h : Shifts s t) : SameLive s t := h.frame.live

theorem trip_sameLive {s : State} {u : UnitNo} (genset : (s.unit u).kind = .genset) (lost : Int) : SameLive s (trip s u lost) := by
  have reported (t : State) : SameLive t (tripReport t) := fun _ => rfl
  exact ((tripState_duties (.inl genset) lost).sameLive.trans (reported _)).trans
    ((Moves.rise _ _).sameLive.trans (predictiveShed_moves _ _ _).sameLive)

theorem stopPendingReading_sameLive {s : State} {u : UnitNo} (genset : (s.unit u).kind = .genset) (lost : Int) :
    SameLive s (stopPendingReading s u lost) := by
  unfold stopPendingReading
  simp only
  split
  · split
    · exact (stopEnds_duties (.inl genset) 1).sameLive
    · exact (enterStopping_duties (.inl genset)).sameLive
  · split
    · have withdrawn := withdrawStop_duties s u
      have same : ((withdrawStop s u).1.unit u).kind = .genset := (withdrawn.frame.kind u).trans genset
      split
      next out => rw [out] at withdrawn same; exact withdrawn.sameLive.trans (trip_sameLive same lost)
      next out => rw [out] at withdrawn same; exact withdrawn.sameLive.trans (enterStopping_duties (.inl same)).sameLive
    · exact .refl s

theorem gensetReading_sameLive {s : State} {u : UnitNo} (genset : (s.unit u).kind = .genset) (lost : Int) :
    SameLive s (gensetReading s u lost) := by
  have judged : SameLive s (if runningClosed (s.unit u) then adopt s u else judgeAvailability s u) := by
    split
    · exact (adopt_duties (.inl genset)).sameLive
    · exact (judgeAvailability_duties s u).sameLive
  unfold gensetReading
  simp only
  split
  · exact judged
  · exact judged
  · split
    · exact (startSettling_duties (.inl genset)).sameLive
    · exact .refl s
  · exact (startingReading_duties (.inl genset)).sameLive
  · split
    · exact trip_sameLive genset lost
    · exact .refl s
  · exact stopPendingReading_sameLive genset lost
  · split
    · exact (stopEnds_duties (.inl genset) 1).sameLive
    · exact .refl s
  · exact .refl s

theorem seqArrival_sameLive (s : State) (a : Arrival) : SameLive s (seqArrival s a) := by
  have detected (low : Option Time) (on : Bool) :
      SameLive s { s with seqr := { s.seqr with lowSince := low, asserted := on } } := fun _ => rfl
  rw [seqArrival_eq]
  split
  · exact (detected _ _).trans (detectorAsserts_shifts _ a).shifts.sameLive
  · exact (detected _ _).trans (stepEvent_moves _ _).sameLive

theorem handArrival_sameLive (s : State) (a : Arrival) : SameLive s (handArrival s a) := by
  have noted : SameLive s { s with lastSource := some a.meter } := fun _ => rfl
  unfold handArrival
  simp only
  split
  · exact noted.trans ((seqArrival_sameLive _ a).trans (shedArrival_moves _ a).sameLive)
  · exact noted.trans ((shedArrival_moves _ a).sameLive.trans (seqArrival_sameLive _ a))

theorem handToOwner_sameLive {s : State} {r : UnitRec} {m : ReadingMsg} (kind : (s.unit m.unit).kind = bodyKind m.body) :
    SameLive s (handToOwner s r m) := by
  unfold handToOwner
  split
  next body => exact gensetReading_sameLive (by rw [kind, body]; rfl) _
  next body => exact (feederReading_moves (by rw [kind, body]; rfl) _ _).sameLive
  next => exact (allocatorReading_duties s _).sameLive
  next => exact .refl s

theorem handReading_sameLive {s : State} {r : UnitRec} {m : ReadingMsg} (kind : (s.unit m.unit).kind = bodyKind m.body) :
    SameLive s (handReading s r m) := by
  unfold handReading
  split
  · unfold meterReading
    split
    · exact handArrival_sameLive s _
    · exact .refl s
  · simp only
    split
    · have told := handToPlan_moves s.planRunning s
      exact told.sameLive.trans (handToOwner_sameLive ((told.frame.kind _).trans kind))
    · exact (handToOwner_sameLive kind).trans (handToPlan_moves _ _).sameLive

/-! ## The hand-offs (R55 to R58) -/

theorem handReading_meter {s : State} {m : ReadingMsg} (meter : bodyKind m.body = .meter) (r : UnitRec) :
    handReading s r m = meterReading s r m := by
  unfold handReading
  cases body : m.body with
  | meter => rfl
  | _ => rw [body] at meter; cases meter

theorem handReading_owner {s : State} {m : ReadingMsg} (owner : bodyKind m.body ≠ .meter) (r : UnitRec) :
    handReading s r m = if s.schedule.sequencerFirst then handToOwner (handToPlan s.planRunning s) r m
      else handToPlan s.planRunning (handToOwner s r m) := by
  unfold handReading
  cases body : m.body with
  | meter => rw [body] at owner; exact absurd rfl owner
  | _ => rfl

theorem handReading_idle {s : State} {m : ReadingMsg} (owner : bodyKind m.body ≠ .meter) (r : UnitRec)
    (stopped : s.planRunning = false) : handReading s r m = handToOwner s r m := by
  rw [handReading_owner owner, stopped]
  exact ite_self _

theorem allocatorReading_eq (s : State) (u : UnitNo) : allocatorReading s u =
    if (s.unit u).pvJob.setpoint = .unsettled
    then s.setUnit u { s.unit u with pvJob := {
      (s.unit u).pvJob with
      commanded := (s.unit u).live.values.cap
      heldCap := (s.unit u).live.values.cap
      setpoint := .idle } }
    else s := by
  unfold allocatorReading
  simp only [beq_iff_eq]
  rfl

theorem handReading_handed (w : State) (r : UnitRec) (m : ReadingMsg) : ReadingHanded w (handReading w r m) r m where
  owner owner own step owns steps := by
    have own_eq (x : State) : own x = handToOwner x r m := by
      rw [owns]
      unfold handToOwner
      cases m.body <;> rfl
    have step_eq (x : State) : step x = handToPlan w.planRunning x := steps x
    rw [handReading_owner owner, own_eq, own_eq, step_eq, step_eq]
  feeder kind stopped := by
    rw [handReading_idle (by rw [kind]; exact nofun) r stopped]
    unfold handToOwner
    cases body : m.body with
    | feeder => exact feederReading_rows _ _ _ _
    | _ => simp [body, bodyKind] at kind
  pv kind stopped := by
    rw [handReading_idle (by rw [kind]; exact nofun) r stopped]
    unfold handToOwner
    cases body : m.body with
    | pv => exact allocatorReading_eq _ _
    | _ => simp [body, bodyKind] at kind
  storage kind stopped := by
    rw [handReading_idle (by rw [kind]; exact nofun) r stopped]
    unfold handToOwner
    cases body : m.body with
    | storage => rfl
    | _ => simp [body, bodyKind] at kind

end Sys2Proof.Machine
end

section
/-! Reading Intake: what an accepted reading stores and hands on (R43 to R58). -/

namespace Sys2Proof.Machine

/-! ## The meter in use (R53) -/

theorem ReadingStored.unit_self {s w : State} {m : ReadingMsg} {l : Live} (h : ReadingStored s w m l) :
    w.unit m.unit = { s.unit m.unit with live := l } := by
  rw [h.work.unit, unit_setUnit, if_pos rfl]

theorem ReadingStored.unit_other {s w : State} {m : ReadingMsg} {l : Live} (h : ReadingStored s w m l) {u : UnitNo}
    (other : u ≠ m.unit) : w.unit u = s.unit u := by
  rw [h.work.unit, unit_setUnit, if_neg other]
  rfl

/-- The meter in use: the reference when it is a meter that is FRESH or HELD, and else the backup when it is. -/
theorem meterInUse_eq_some (s : State) (u : UnitNo) : meterInUse s.units s.settings = some u ↔
    ((s.unit u).kind = .meter ∧ (s.unit u).live.heard = true) ∧
      (s.settings.reference = some u ∨ s.settings.backup = some u ∧
        ∀ v : UnitNo, s.settings.reference = some v → (s.unit v).kind = .meter → (s.unit v).live.heard = false) := by
  have usable (x : Option UnitNo) (u : UnitNo) :
      (x.filter fun u => (s.units.get u).kind == .meter && (s.units.get u).live.heard) = some u ↔
        x = some u ∧ (s.unit u).kind = .meter ∧ (s.unit u).live.heard = true := by
    rw [Option.filter_eq_some_iff, Bool.and_eq_true, beq_iff_eq]
    rfl
  have unusable (x : Option UnitNo) :
      (x.filter fun u => (s.units.get u).kind == .meter && (s.units.get u).live.heard) = none ↔
        ∀ v : UnitNo, x = some v → (s.unit v).kind = .meter → (s.unit v).live.heard = false := by
    rw [Option.filter_eq_none_iff]
    simp only [Bool.and_eq_true, beq_iff_eq, not_and, Bool.not_eq_true]
    rfl
  have choice (x y : Option UnitNo) : (x.orElse fun _ => y) = some u ↔ x = some u ∨ x = none ∧ y = some u :=
    Option.orElse_eq_some x y u
  unfold meterInUse
  simp only
  rw [choice, usable, usable, unusable]
  tauto

/-- After an accepted METER reading its meter is the one in use exactly when it is taken. -/
theorem meterInUse_stored {s w : State} {m : ReadingMsg} {l : Live} (stored : ReadingStored s w m l)
    (meter : (s.unit m.unit).kind = .meter) (fresh : l.freshness = .fresh) :
    meterInUse w.units w.settings = some m.unit ↔ MeterTaken s m.unit := by
  have settings : w.settings = s.settings := congrArg Service.settings stored.work.outside.service
  have here : (w.unit m.unit).kind = .meter ∧ (w.unit m.unit).live.heard = true := by
    rw [stored.unit_self]
    exact ⟨meter, by rw [Live.heard, fresh]; rfl⟩
  rw [meterInUse_eq_some, and_iff_right here, settings]
  unfold MeterTaken
  by_cases reference : s.settings.reference = some m.unit
  · exact iff_of_true (.inl reference) (.inl reference)
  · refine or_congr_right (and_congr_right fun _ => forall₂_congr fun u named => ?_)
    have other : u ≠ m.unit := fun e => reference (e ▸ named)
    rw [stored.unit_other other, ← not_or, ← heard_iff, ← imp_iff_not_or, Bool.not_eq_true]

/-! ## The frequency arrival (R55) -/

theorem arrival_eq {s w : State} {m : ReadingMsg} {l : Live} (stored : ReadingStored s w m l) {a : Arrival}
    (made : ArrivalMade s m l.values.frequency l.values.voltage a) : arrivalOf w (s.unit m.unit) m = a := by
  obtain ⟨⟨meter, frequency, voltage, time⟩, interval, source, opened, gap⟩ := made
  have live : (w.unit m.unit).live = l := by rw [stored.unit_self]
  have gaps : (if recordOpen (s.unit m.unit) w.now then none else some (seqGap (s.unit m.unit) m.seq)) = a.gap := by
    rw [stored.work.outside.now]
    show (if recordOpen (s.unit m.unit) s.now then none else some (seqGap (s.unit m.unit) m.seq)) = a.gap
    cases open_ : recordOpen (s.unit m.unit) s.now with
    | true => exact (opened ((recordOpen_iff _ _).mp open_)).symm
    | false =>
      obtain ⟨heard, t, arrived, young⟩ := recordOpen_eq_false open_
      exact (gap t heard arrived young).symm
  have changed : (w.lastSource != some m.unit) = a.sourceChanged := by
    rw [Bool.eq_iff_iff, source, stored.work.outside.lastSource, bne_iff_ne]
    rfl
  unfold arrivalOf
  rw [live, gaps, changed, show w.now = a.time from stored.work.outside.now.trans time.symm, ← interval, ← frequency,
    ← voltage, ← meter]

theorem handArrival_taken (w : State) (a : Arrival) : ArrivalTaken w (handArrival w a) a := by
  cases first : w.schedule.sequencerFirst with
  | false =>
    have order : handArrival w a = seqArrival (shedArrival { w with lastSource := some a.meter } a) a :=
      if_neg (by rw [first]; exact nofun)
    rw [order]
    exact ⟨_, shedArrival { w with lastSource := some a.meter } a, rfl,
      fun _ => ⟨shedArrival_takes _ a, seqArrival_takes _ a⟩, fun seqFirst => absurd (first.symm.trans seqFirst) nofun⟩
  | true =>
    have order : handArrival w a = shedArrival (seqArrival { w with lastSource := some a.meter } a) a := if_pos first
    rw [order]
    exact ⟨_, seqArrival { w with lastSource := some a.meter } a, rfl,
      fun shedFirst => absurd (first.symm.trans shedFirst) nofun, fun _ => ⟨seqArrival_takes _ a, shedArrival_takes _ a⟩⟩

/-! ## An accepted reading -/

theorem exec_reading_hands {s : State} {m : ReadingMsg} (ready : Ready s) (accepted : checkReading s m = .accepted) :
    Hands (.reading m) s
      (handReading (acceptReading (takeDelivery s (.reading m)) m) (s.unit m.unit) m) := by
  have taken : takeReading (takeDelivery s (.reading m)) m =
      handReading (acceptReading (takeDelivery s (.reading m)) m) (s.unit m.unit) m := by
    simp only [takeReading, checkReading_takeDelivery, accepted]
    rfl
  rw [← taken]
  exact act_running ready.1 fun s => takeReading (takeDelivery s (.reading m)) m

theorem acceptedLive_values (r : UnitRec) (m : ReadingMsg) (now : Time) :
    (acceptedLive r m now).values = clampedValues r.live.values m.body := rfl

/-- Settles O35: the reading stored, then its hand-offs, which leave every record's live fields and all configuration. -/
theorem acceptedReadingIsStored : Obligations.AcceptedReadingIsStored := by
  intro s m ready mode kind link window sequence
  have accepted : checkReading s m = .accepted := checkReading_accepted mode kind link
    ((inWindow_iff _ _).mpr window) ((seqPasses_iff _ _ _).mpr (by rwa [recordOpen_iff, or_assoc]))
  obtain ⟨w, accepts⟩ : ∃ w, w = acceptReading (takeDelivery s (.reading m)) m := ⟨_, rfl⟩
  have stored : ReadingStored s w m (acceptedLive (s.unit m.unit) m s.now) := accepts ▸ acceptReading_stored s m
  have hands := exec_reading_hands ready accepted
  rw [← accepts] at hands
  have unit := stored.unit_self
  have kind' : (w.unit m.unit).kind = bodyKind m.body := by rw [unit]; exact kind
  have live : SameLive w (settle (handReading w (s.unit m.unit) m)) :=
    (handReading_sameLive kind').trans (settle_shifts _).shifts.sameLive
  have inUse (meter : bodyKind m.body = .meter) : meterInUse w.units w.settings = some m.unit ↔ MeterTaken s m.unit :=
    meterInUse_stored stored (kind.trans meter) rfl
  have config : SameConfig s (settle (handReading w (s.unit m.unit) m)) :=
    (((takeDelivery_kept s (.reading m)).trans (accepts ▸ acceptReading_kept _ m)).trans
      ((handReading_kept kind').trans (settle_shifts _).kept) : Kept .timebaseTick _ _).config (by decide)
  obtain ⟨rises, stays⟩ := acceptedLive_clampCount (s.unit m.unit) m s.now
  refine ⟨_, w, handReading w (s.unit m.unit) m, acceptedLive (s.unit m.unit) m s.now, hands, ?_, stored,
    handReading_handed _ _ _, rfl, fun meter other => ?_, fun a meter taken made => ?_, fun u other => ?_, config,
    rfl, rfl, rfl, rfl, rfl, rfl, rises, stays, ?_⟩
  · rw [live m.unit, unit]
  · rw [handReading_meter meter, meterReading, if_neg]
    rw [beq_iff_eq, inUse meter]
    exact other
  · rw [handReading_meter meter, meterReading, if_pos, arrival_eq stored made]
    · exact handArrival_taken w a
    · rw [beq_iff_eq, inUse meter]
      exact taken
  · rw [live u, stored.unit_other other]
  · rw [acceptedLive_values]
    cases body : m.body with
    | genset output breaker engine selector =>
      refine ⟨clampKw_cast _, rfl, rfl, rfl, ?_⟩
      simp [acceptedLive, body]
    | pv output available cap breaker =>
      refine ⟨clampKw_cast _, clampKw_cast _, rfl, fun absent => by rw [absent]; rfl, fun c there => ?_⟩
      exact ⟨clampKw c, by rw [there]; rfl, clampKw_cast c⟩
    | storage output discharge charge soc breaker =>
      exact ⟨rfl, clampKw_cast _, clampKw_cast _, Nat.min_comm _ _, rfl⟩
    | feeder load breaker => exact ⟨clampKw_cast _, rfl⟩
    | meter frequency voltage => exact ⟨Nat.min_comm _ _, Nat.min_comm _ _⟩

end Sys2Proof.Machine
end

section
/-! The Shed Controller: a METER reading that trips one stage (R147, R148). -/

namespace Sys2Proof.Machine

/-! ## What shedding leaves of the stages -/

/-- The stages, their timers and the ROCOF tracker stay. -/
structure StagesStand (s t : State) : Prop where
  stages : t.shed.stages = s.shed.stages
  timers : t.shed.timers = s.shed.timers
  rocof  : t.shed.rocof = s.shed.rocof

theorem StagesStand.refl (s : State) : StagesStand s s := ⟨rfl, rfl, rfl⟩

theorem StagesStand.trans {s t u : State} (a : StagesStand s t) (b : StagesStand t u) : StagesStand s u :=
  ⟨b.stages.trans a.stages, b.timers.trans a.timers, b.rocof.trans a.rocof⟩

theorem StagesStand.of_shed {s t : State} (same : t.shed = s.shed) : StagesStand s t := by
  constructor <;> rw [same]

theorem Duties.stages {s t : State} (h : Duties s t) : StagesStand s t := .of_shed h.apart.shed

theorem tidyPredictive_stages (s : State) : StagesStand s (tidyPredictive s) := by
  obtain ⟨p, tidied⟩ := tidyPredictive_eq s
  rw [tidied]
  exact ⟨rfl, rfl, rfl⟩

theorem setShed_stages (s : State) (u : UnitNo) (x : ShedState) : StagesStand s (setShed s u x) := by
  obtain ⟨p, entered⟩ := setShed_eq s u x
  rw [entered]
  exact ⟨rfl, rfl, rfl⟩

theorem push_stages (s : State) (u : UnitNo) (cause : ShedCause) : StagesStand s (push s u cause) := by
  have stacked (l : List StackEntry) : StagesStand s (s.setShedBlock { s.shed with stack := l }) := ⟨rfl, rfl, rfl⟩
  exact (stacked _).trans (pushAnnounced_duties _).stages

theorem pendingOpened_stages (s : State) (e : PendingShed) (i : SlotNo) : StagesStand s (pendingOpened s e i) := by
  have items (t : State) (j : FeederJob) : StagesStand t (t.setFeeder e.feeder j) := ⟨rfl, rfl, rfl⟩
  exact (setShed_stages s e.feeder .opening).trans ((items _ _).trans (push_stages _ _ _))

theorem listed_stages (s : State) (l : List PendingShed) (p : Option Predictive) :
    StagesStand s (s.setShedBlock { s.shed with pending := l, predictive := p }) := ⟨rfl, rfl, rfl⟩

theorem addPending_stages (s : State) (us : List UnitNo) (cause : ShedCause) : StagesStand s (addPending s us cause) :=
  listed_stages s _ s.shed.predictive

theorem replaceIfChosen_stages (s : State) (p : Option Predictive) (u : UnitNo) (load : Nat) :
    StagesStand s (replaceIfChosen s p u load) := by
  have recorded (t : State) (p : Option Predictive) : StagesStand t (t.setShedBlock { t.shed with predictive := p }) :=
    ⟨rfl, rfl, rfl⟩
  cases p with
  | none => exact .refl s
  | some p =>
    unfold replaceIfChosen replaceChosen
    simp only
    split
    · exact .refl s
    · split
      · exact (addPending_stages _ _ _).trans ((recorded _ _).trans ((tidyPredictive_stages _).trans
          (.of_shed (rise_work _ _).outside.shed)))
      · exact (addPending_stages _ _ _).trans ((recorded _ _).trans (tidyPredictive_stages _))

theorem pendingRefused_stages (s : State) (e : PendingShed) : StagesStand s (pendingRefused s e) := by
  have left (l : List PendingShed) : StagesStand s (s.setShedBlock { s.shed with pending := l }) := ⟨rfl, rfl, rfl⟩
  unfold pendingRefused
  simp only
  split
  · exact (left _).trans ((tidyPredictive_stages _).trans (replaceIfChosen_stages _ _ _ _))
  · exact (left _).trans (tidyPredictive_stages _)

theorem dropPending_stages (s : State) : StagesStand s (dropPending s) := by
  have left : StagesStand s (s.setShedBlock { s.shed with pending := [] }) := ⟨rfl, rfl, rfl⟩
  exact left.trans (tidyPredictive_stages _)

theorem serveN_stages (n k : Nat) (s : State) : StagesStand s (serveN n k s) := by
  induction n generalizing k s with
  | zero => exact .refl s
  | succ n ih =>
    unfold serveN
    split
    · exact .refl s
    · split
      next asked => exact (requestOrder_eq_duties asked).stages.trans ((pendingOpened_stages _ _ _).trans (ih _ _))
      next asked => exact (requestOrder_eq_duties asked).stages.trans (ih _ _)
      next asked => exact (requestOrder_eq_duties asked).stages.trans (ih _ _)
      next asked => exact (requestOrder_eq_duties asked).stages
      next asked => exact (requestOrder_eq_duties asked).stages.trans (dropPending_stages _)
      next asked => exact (requestOrder_eq_duties asked).stages.trans ((pendingRefused_stages _ _).trans (ih _ _))

theorem shedFeeders_stages (s : State) (us : List UnitNo) (cause : ShedCause) : StagesStand s (shedFeeders s us cause) := by
  unfold shedFeeders
  split
  · exact .refl s
  · exact (addPending_stages _ _ _).trans (serveN_stages _ _ _)

theorem stageTripped_stages (s : State) (n : Fin 6) (f detail : Nat) (cause : ShedCause) :
    StagesStand s (stageTripped s n f detail cause) :=
  (StagesStand.of_shed (record_work _ _ _ _ _).outside.shed).trans (shedFeeders_stages _ _ _)

/-! ## Stages that do not trip -/

/-- A stage's timer after an arrival (R147). -/
def timerAfter (s : State) (a : Arrival) (k : Fin 6) : Timer :=
  if (s.shed.stages.get k).enabled
  then takeTimer (s.shed.stages.get k) a (k == 0 && decide (2 ≤ s.shed.rocof.lowCount)) (s.shed.timers.get k)
  else s.shed.timers.get k

/-- Only the timers move. -/
def withTimers (s : State) (ts : Vector Timer 6) : State := { s with shed := { s.shed with timers := ts } }

theorem timerAfter_withTimers {s : State} {ts : Vector Timer 6} {k : Fin 6} (a : Arrival)
    (same : ts.get k = s.shed.timers.get k) : timerAfter (withTimers s ts) a k = timerAfter s a k := by
  unfold timerAfter withTimers
  simp only [same]

theorem takeStage_of_disabled {s : State} {k : Fin 6} (off : (s.shed.stages.get k).enabled = false) (a : Arrival) :
    takeStage a s k = s := if_pos (by rw [off]; rfl)

theorem takeStage_of_enabled {s : State} {k : Fin 6} (on : (s.shed.stages.get k).enabled = true) (a : Arrival) :
    takeStage a s k = if (timerAfter s a k).state = .tripped ∧ (s.shed.timers.get k).state ≠ .tripped
      then stageTripped (withTimers s (s.shed.timers.set k (timerAfter s a k))) k a.frequency (k.val + 1) (.stage k)
      else withTimers s (s.shed.timers.set k (timerAfter s a k)) := by
  have timer : timerAfter s a k = takeTimer (s.shed.stages.get k) a (k == 0 && decide (2 ≤ s.shed.rocof.lowCount))
      (s.shed.timers.get k) := if_pos on
  have stage : takeStage a s k = if (timerAfter s a k).state == .tripped && (s.shed.timers.get k).state != .tripped
      then stageTripped (setTimer s k (timerAfter s a k)) k a.frequency (k.val + 1) (.stage k)
      else setTimer s k (timerAfter s a k) := by
    rw [timer]
    exact if_neg (by rw [on]; exact nofun)
  simp only [stage, Bool.and_eq_true, beq_iff_eq, bne_iff_ne]
  rfl

/-- A stage that does not enter TRIPPED has its timer alone moved. -/
theorem takeStage_rests {s : State} {a : Arrival} {k : Fin 6}
    (rests : (s.shed.timers.get k).state ≠ .tripped → (timerAfter s a k).state ≠ .tripped) :
    takeStage a s k = withTimers s (s.shed.timers.set k (timerAfter s a k)) := by
  cases on : (s.shed.stages.get k).enabled with
  | true => rw [takeStage_of_enabled on, if_neg fun ⟨trips, was⟩ => rests was trips]
  | false =>
    have stays : timerAfter s a k = s.shed.timers.get k := if_neg (by rw [on]; exact nofun)
    have same : s.shed.timers.set k (timerAfter s a k) = s.shed.timers := by
      rw [stays]
      exact Vector.set_getElem_self k.isLt
    rw [takeStage_of_disabled on, same]
    rfl

/-- Stages of which none enters TRIPPED: each has its timer moved. -/
theorem takeStages_rest (a : Arrival) (l : List (Fin 6)) (s : State) (once : l.Nodup)
    (rests : ∀ k ∈ l, (s.shed.timers.get k).state ≠ .tripped → (timerAfter s a k).state ≠ .tripped) :
    ∃ ts : Vector Timer 6, l.foldl (takeStage a) s = withTimers s ts ∧
      ∀ k : Fin 6, ts.get k = if k ∈ l then timerAfter s a k else s.shed.timers.get k := by
  induction l generalizing s with
  | nil => exact ⟨s.shed.timers, rfl, fun k => by simp⟩
  | cons k l ih =>
    obtain ⟨later, once⟩ := List.nodup_cons.mp once
    have others (j : Fin 6) (other : j ≠ k) : (s.shed.timers.set k (timerAfter s a k)).get j = s.shed.timers.get j := by
      rw [vectorGet_set, if_neg other]
    have alike (j : Fin 6) (other : j ≠ k) :
        timerAfter (withTimers s (s.shed.timers.set k (timerAfter s a k))) a j = timerAfter s a j :=
      timerAfter_withTimers a (others j other)
    obtain ⟨ts, taken, timers⟩ := ih (withTimers s (s.shed.timers.set k (timerAfter s a k))) once fun j mem => by
      have other : j ≠ k := fun e => later (e ▸ mem)
      rw [alike j other]
      show ((s.shed.timers.set k (timerAfter s a k)).get j).state ≠ _ → _
      rw [others j other]
      exact rests j (List.mem_cons_of_mem _ mem)
    refine ⟨ts, ?_, fun j => ?_⟩
    · rw [List.foldl_cons, takeStage_rests (rests k List.mem_cons_self), taken]
      rfl
    · rw [timers j]
      by_cases same : j = k
      · subst same
        rw [if_neg later, if_pos List.mem_cons_self]
        show (s.shed.timers.set j _).get j = _
        rw [vectorGet_set, if_pos rfl]
      · rw [alike j same]
        show (if j ∈ l then _ else (s.shed.timers.set k _).get j) = _
        rw [others j same]
        simp [same]

/-! ## One stage trips -/

/-- An arrival at which one stage alone enters TRIPPED and the trigger rests: the timers before it move, it sheds, and the timers
after it move. -/
theorem stages_trip {s : State} {a : Arrival} {n : Fin 6} (low : s.shed.rocof.lowCount < 2)
    (one : ∀ k : Fin 6, (s.shed.timers.get k).state ≠ .tripped → ((timerAfter s a k).state = .tripped ↔ k = n))
    (was : (s.shed.timers.get n).state ≠ .tripped) :
    ∃ (ts vs : Vector Timer 6) (y : State), StageSheds (withTimers s ts) y n a.frequency (n.val + 1) (.stage n) ∧
      takeTrigger ((List.finRange 6).foldl (takeStage a) s) a = withTimers y vs ∧ ∀ k : Fin 6, vs.get k = timerAfter s a k := by
  obtain ⟨before, rest, parted⟩ := List.append_of_mem (List.mem_finRange n)
  have once : (before ++ n :: rest).Nodup := parted ▸ List.nodup_finRange 6
  obtain ⟨beforeOnce, tailOnce, apart⟩ := List.nodup_append.mp once
  obtain ⟨out, restOnce⟩ := List.nodup_cons.mp tailOnce
  have outBefore (k : Fin 6) (mem : k ∈ before) : k ≠ n := apart k mem n List.mem_cons_self
  have outRest (k : Fin 6) (mem : k ∈ rest) : k ≠ n := fun e => out (e ▸ mem)
  obtain ⟨ts, first, timers⟩ := takeStages_rest a before s beforeOnce fun k mem rests trips =>
    outBefore k mem ((one k rests).mp trips)
  have here : n ∉ before := fun mem => outBefore n mem rfl
  have alike (k : Fin 6) (mem : k ∉ before) : timerAfter (withTimers s ts) a k = timerAfter s a k :=
    timerAfter_withTimers a (by rw [timers, if_neg mem])
  obtain ⟨x, tripping⟩ : ∃ x, x = withTimers s (ts.set n (timerAfter s a n)) := ⟨_, rfl⟩
  obtain ⟨y, shed⟩ : ∃ y, y = stageTripped x n a.frequency (n.val + 1) (.stage n) := ⟨_, rfl⟩
  have sheds : StageSheds x y n a.frequency (n.val + 1) (.stage n) := shed ▸ stageTripped_sheds _ _ _ _ _
  have stand : StagesStand x y := shed ▸ stageTripped_stages _ _ _ _ _
  have trips : (timerAfter s a n).state = .tripped := (one n was).mpr rfl
  have on : (s.shed.stages.get n).enabled = true := by
    by_contra off
    rw [timerAfter, if_neg off] at trips
    exact was trips
  have took : takeStage a (withTimers s ts) n = y := by
    rw [takeStage_of_enabled (s := withTimers s ts) on, alike n here, if_pos, shed, tripping]
    · rfl
    · refine ⟨trips, ?_⟩
      show (ts.get n).state ≠ _
      rwa [timers, if_neg here]
  have stood (k : Fin 6) (other : k ≠ n) : y.shed.timers.get k = ts.get k := by
    rw [stand.timers, tripping]
    show (ts.set n _).get k = _
    rw [vectorGet_set, if_neg other]
  have alikeAfter (k : Fin 6) (mem : k ∉ before) (other : k ≠ n) : timerAfter y a k = timerAfter s a k := by
    have same : y.shed.timers.get k = s.shed.timers.get k := by rw [stood k other, timers, if_neg mem]
    unfold timerAfter
    rw [stand.stages, stand.rocof, same, tripping]
    rfl
  have late (k : Fin 6) (mem : k ∈ rest) : k ∉ before := fun early => apart k early k (List.mem_cons_of_mem _ mem) rfl
  obtain ⟨vs, last, after_⟩ := takeStages_rest a rest y restOnce fun k mem rests trips => by
    rw [alikeAfter k (late k mem) (outRest k mem)] at trips
    rw [stood k (outRest k mem), timers, if_neg (late k mem)] at rests
    exact outRest k mem ((one k rests).mp trips)
  have quiet : takeTrigger (withTimers y vs) a = withTimers y vs := (takeTrigger_takes _ a).rests (.inl (by
    show y.shed.rocof.lowCount ≠ 2
    rw [stand.rocof, tripping]
    exact Nat.ne_of_lt low))
  refine ⟨ts.set n (timerAfter s a n), vs, y, tripping ▸ sheds, ?_, fun k => ?_⟩
  · rw [parted, List.foldl_append, first, List.foldl_cons, took, last, quiet]
  · rw [after_]
    by_cases inRest : k ∈ rest
    · rw [if_pos inRest, alikeAfter k (late k inRest) (outRest k inRest)]
    · rw [if_neg inRest]
      by_cases same : k = n
      · rw [same, stand.timers, tripping]
        show (ts.set n _).get n = _
        rw [vectorGet_set, if_pos rfl]
      · have early : k ∈ before := by
          have mem : k ∈ before ++ n :: rest := parted ▸ List.mem_finRange k
          simpa [same, inRest] using mem
        rw [stood k same, timers, if_pos early]

end Sys2Proof.Machine
end

section
/-! The Shed Controller: a stage timer by its table, and a METER reading that trips one stage (R147, R148). -/

namespace Sys2Proof.Machine

/-! ## A stage timer (R147) -/

theorem judgeTiming_high {g : Stage} {a : Arrival} (high : g.threshold + g.hysteresis ≤ a.frequency) (t : Timer) :
    judgeTiming g a t = {} := if_pos high

theorem judgeTiming_broken {g : Stage} {a : Arrival} (low : a.frequency < g.threshold + g.hysteresis)
    (broken : a.sourceChanged = true ∨ a.gap = none) (t : Timer) :
    judgeTiming g a t = { state := .timing, since := some a.time } := by
  rw [judgeTiming, if_neg (by omega), if_pos ((broken_iff a).mpr broken)]

theorem judgeTiming_running {g : Stage} {a : Arrival} {t : Timer} {start : Time} (low : a.frequency < g.threshold + g.hysteresis)
    (same : a.sourceChanged = false) (gap : a.gap ≠ none) (since : t.since = some start) :
    judgeTiming g a t = if g.delay ≤ elapsed a.time start then { t with state := .tripped } else t := by
  have whole : ¬ a.broken = true := by
    rw [broken_iff, same]
    simpa using gap
  rw [judgeTiming, if_neg (by omega), if_neg whole, since]

theorem takeTimer_idle {g : Stage} {a : Arrival} {t : Timer} (idle : t.state = .idle) (held : Bool) : takeTimer g a held t =
    if a.frequency < g.threshold then judgeTiming g a { state := .timing, since := some a.time } else t := by
  rw [takeTimer, idle]

theorem takeTimer_timing {g : Stage} {a : Arrival} {t : Timer} (timing : t.state = .timing) (held : Bool) :
    takeTimer g a held t = judgeTiming g a t := by
  rw [takeTimer, timing]

theorem takeTimer_tripped {g : Stage} {a : Arrival} {t : Timer} (tripped : t.state = .tripped) (held : Bool) :
    takeTimer g a held t = if g.threshold + g.hysteresis ≤ a.frequency && !held then {} else t := by
  rw [takeTimer, tripped]

theorem elapsed_self (t : Time) : elapsed t t = 0 := by simp [elapsed]

/-! ## The two receivers of an arrival -/

/-- An arrival of a live voltage while no plan runs moves the detector alone. -/
theorem seqArrival_rests {s : State} {a : Arrival} (high : s.settings.deadVoltage ≤ a.voltage) (stopped : s.planRunning = false) :
    ∃ q : Sequencer, seqArrival s a = { s with seqr := q } := by
  have calm : ((detectorAfter s a).2 && !s.seqr.asserted) = false := by
    rw [detectorAfter_high high]
    cases s.seqr.asserted <;> simp
  refine ⟨{ s.seqr with lowSince := (detectorAfter s a).1, asserted := (detectorAfter s a).2 }, ?_⟩
  rw [seqArrival_eq, calm]
  have idle : s.progress.planState ≠ .running := by simpa [State.planRunning] using stopped
  exact stepEvent_of_idle (.inl idle)

/-- The timers of the stages at an arrival, with the ROCOF low count below 2 after it. -/
def timersTaken (s : State) (a : Arrival) (k : Fin 6) : Timer :=
  if (s.shed.stages.get k).enabled then takeTimer (s.shed.stages.get k) a false (s.shed.timers.get k) else s.shed.timers.get k

/-- An arrival at the Shed Controller at which one stage alone enters TRIPPED. -/
theorem shedArrival_trips {s : State} {a : Arrival} {n : Fin 6} {rocof : Rocof}
    (tracked : rocof = takeRocof s.shed.rocof a s.settings.rocofLimit) (low : rocof.lowCount < 2)
    (one : ∀ k : Fin 6, (s.shed.timers.get k).state ≠ .tripped → ((timersTaken s a k).state = .tripped ↔ k = n))
    (was : (s.shed.timers.get n).state ≠ .tripped) :
    ∃ (ts vs : Vector Timer 6) (y : State),
      StageSheds { s with shed := { s.shed with rocof := rocof, timers := ts } } y n a.frequency (n.val + 1) (.stage n) ∧
      shedArrival s a = withTimers y vs ∧ ∀ k : Fin 6, vs.get k = timersTaken s a k := by
  have taken (k : Fin 6) : timerAfter (s.setShedBlock { s.shed with rocof := rocof }) a k = timersTaken s a k := by
    have held : (k == 0 && decide (2 ≤ rocof.lowCount)) = false := by
      rw [decide_eq_false (by omega), Bool.and_false]
    show (if _ then takeTimer _ a (k == 0 && decide (2 ≤ rocof.lowCount)) _ else _) = _
    rw [held]
    rfl
  obtain ⟨ts, vs, y, sheds, ends, timers⟩ := stages_trip (s := s.setShedBlock { s.shed with rocof := rocof }) (a := a) (n := n)
    low (fun k rests => by rw [taken]; exact one k rests) was
  refine ⟨ts, vs, y, sheds, ?_, fun k => (timers k).trans (taken k)⟩
  rw [← ends, tracked]
  rfl

/-- The arrival of a METER reading at which one stage alone enters TRIPPED, while no plan runs and the voltage is live, in the
order drawn for the two receivers (R55). -/
theorem handArrival_trips {w : State} {a : Arrival} {n : Fin 6} {rocof : Rocof} (stopped : w.planRunning = false)
    (high : w.settings.deadVoltage ≤ a.voltage) (tracked : rocof = takeRocof w.shed.rocof a w.settings.rocofLimit)
    (low : rocof.lowCount < 2)
    (one : ∀ k : Fin 6, (w.shed.timers.get k).state ≠ .tripped → ((timersTaken w a k).state = .tripped ↔ k = n))
    (was : (w.shed.timers.get n).state ≠ .tripped) :
    ∃ x y : State, x = { w with lastSource := some a.meter, shed := x.shed, seqr := x.seqr } ∧
      x.shed = { w.shed with rocof := rocof, timers := x.shed.timers } ∧
      StageSheds x y n a.frequency (n.val + 1) (.stage n) ∧
      handArrival w a = { y with shed := { y.shed with timers := (handArrival w a).shed.timers }, seqr := (handArrival w a).seqr } ∧
      ∀ k : Fin 6, (handArrival w a).shed.timers.get k = timersTaken w a k := by
  cases first : w.schedule.sequencerFirst with
  | false =>
    have order : handArrival w a = seqArrival (shedArrival { w with lastSource := some a.meter } a) a :=
      if_neg (by rw [first]; exact nofun)
    have moves := shedArrival_moves { w with lastSource := some a.meter } a
    obtain ⟨ts, vs, y, sheds, ends, timers⟩ := shedArrival_trips (s := { w with lastSource := some a.meter }) tracked low one was
    have settings : (shedArrival { w with lastSource := some a.meter } a).settings = w.settings := moves.frame.settings
    obtain ⟨q, told⟩ := seqArrival_rests (a := a) (by rw [settings]; exact high) (moves.planRunning.trans stopped)
    rw [order, told, ends]
    exact ⟨_, y, rfl, rfl, sheds, rfl, timers⟩
  | true =>
    have order : handArrival w a = shedArrival (seqArrival { w with lastSource := some a.meter } a) a := if_pos first
    obtain ⟨q, told⟩ := seqArrival_rests (s := { w with lastSource := some a.meter }) (a := a) high stopped
    obtain ⟨ts, vs, y, sheds, ends, timers⟩ :=
      shedArrival_trips (s := { w with lastSource := some a.meter, seqr := q }) tracked low one was
    rw [order, told, ends]
    exact ⟨_, y, rfl, rfl, sheds, rfl, timers⟩

/-- Settles O47: an arrival at the Shed Controller and at the detector, a reading that trips one stage, and the timer's table. -/
theorem stageTimerFollowsItsTable : Obligations.StageTimerFollowsItsTable := by
  refine ⟨shedArrival_takes, seqArrival_takes, ?_, fun g a held t => ⟨fun idle high => ?_, fun idle low broken => ?_,
    fun idle low same gap delay => ?_, fun timing high => ?_, fun timing low broken => ?_,
    fun start timing since low same gap => ⟨fun long => ?_, fun short => ?_⟩, fun tripped high free => ?_,
    fun tripped stays => ?_⟩⟩
  · intro s m frequency voltage a n f rocof taken ready accepted body meter clamped made stopped high tracked low takes one was
    obtain ⟨w, accepts⟩ : ∃ w, w = acceptReading (takeDelivery s (.reading m)) m := ⟨_, rfl⟩
    have stored : ReadingStored s w m (acceptedLive (s.unit m.unit) m s.now) := accepts ▸ acceptReading_stored s m
    have hands := exec_reading_hands ready accepted
    rw [← accepts] at hands
    have kind : bodyKind m.body = .meter := by rw [body]; rfl
    have values : (acceptedLive (s.unit m.unit) m s.now).values.frequency = f ∧
        (acceptedLive (s.unit m.unit) m s.now).values.voltage = min 65535 voltage.toNat := by
      rw [acceptedLive_values, body, clamped]
      exact ⟨Nat.min_comm _ _, Nat.min_comm _ _⟩
    have arrival : arrivalOf w (s.unit m.unit) m = a := arrival_eq stored (by rw [values.1, values.2]; exact made)
    have inUse := (meterInUse_stored stored ((checkReading_kind accepted).trans kind) rfl).mpr meter
    have handed : handReading w (s.unit m.unit) m = handArrival w a := by
      rw [handReading_meter kind, meterReading, if_pos (by rw [inUse]; exact beq_self_eq_true _), arrival]
    have outside := stored.work.outside
    have shed : w.shed = s.shed := outside.shed
    have settings : w.settings = s.settings := congrArg Service.settings outside.service
    have running : w.planRunning = s.planRunning := by
      rw [State.planRunning, State.planRunning, State.progress, outside.seqr]
      rfl
    have timers (k : Fin 6) : timersTaken w a k = taken k := by
      rw [takes, timersTaken, shed]
    obtain ⟨⟨source, at_, -⟩, -⟩ := made
    obtain ⟨x, y, aside, block, sheds, ends, after_⟩ := handArrival_trips (w := w) (a := a) (n := n) (rocof := rocof)
      (running.trans stopped) (by rwa [settings]) (by rw [shed, settings]; exact tracked) low
      (fun k rests => by rw [timers]; rw [shed] at rests; exact one k rests) (by rwa [shed])
    rw [handed] at hands
    rw [at_] at sheds
    rw [source] at aside
    refine ⟨_, w, x, y, handArrival w a, stored, hands, aside, by rw [← shed]; exact block, sheds, ends, fun k => ?_⟩
    rw [after_, timers]
  · rw [takeTimer_idle idle, if_neg (by omega)]
  · rw [takeTimer_idle idle, if_pos low]
    rcases broken with changed | absent | delay
    · exact judgeTiming_broken (by omega) (.inl changed) _
    · exact judgeTiming_broken (by omega) (.inr absent) _
    · by_cases broken : a.sourceChanged = true ∨ a.gap = none
      · exact judgeTiming_broken (by omega) broken _
      · obtain ⟨same, gap⟩ := not_or.mp broken
        rw [judgeTiming_running (by omega) (by simpa using same) gap rfl, elapsed_self, if_neg (by omega)]
  · rw [takeTimer_idle idle, if_pos low, judgeTiming_running (by omega) same gap rfl, elapsed_self, if_pos (by omega)]
  · rw [takeTimer_timing timing]
    exact judgeTiming_high high t
  · rw [takeTimer_timing timing]
    exact judgeTiming_broken low broken t
  · rw [takeTimer_timing timing, judgeTiming_running low same gap since, if_pos long]
  · rw [takeTimer_timing timing, judgeTiming_running low same gap since, if_neg (by omega)]
  · rw [takeTimer_tripped tripped, if_pos (by simp [high, free])]
  · rw [takeTimer_tripped tripped, if_neg]
    rcases stays with below | held
    · simp
      omega
    · simp [held]

end Sys2Proof.Machine
end

section
/-! The hand-offs of a step come to an end: what a state still holds of them. Each hand-off is counted for more than what its
receiver hands on, an order for what its end hands on, and (in the file after the next) a running plan for what its steps do. -/

namespace Sys2Proof.Machine

/-! ## The load of orders and hand-offs -/

/-- What an order is counted by. -/
def Order.asked (o : Order) : OrderKind × Owner := (o.kind, o.owner)

/-- What a slot is counted for: a STOP of the Dispatcher may be withdrawn, and a slot that holds no START may take one, each with
a change of its gen-set to hand on. -/
def kindLoad : Option (OrderKind × Owner) → Nat
  | none => 2
  | some (.start, _) => 0
  | some (.stop, .dispatch) => 8
  | some _ => 2

/-- What a hand-off is counted for. -/
def taskLoad : Task → Nat
  | .ended .. => 4
  | .released .. => 1
  | .completion _ => 80
  | .dispatchChange .. => 1
  | .cancelNotice => 2
  | .planAdvance => 1

/-- The slots weighed by the kinds of their orders. -/
def weighSlots (f : Option (OrderKind × Owner) → Nat) (s : State) : Nat := ∑ i : SlotNo, f ((s.slot i).map Order.asked)

def slotsLoad (s : State) : Nat := weighSlots kindLoad s

def tasksLoad (l : List Task) : Nat := (l.map taskLoad).sum

def load (s : State) : Nat := slotsLoad s + tasksLoad s.agenda

theorem tasksLoad_append (l r : List Task) : tasksLoad (l ++ r) = tasksLoad l + tasksLoad r := by
  simp [tasksLoad]

theorem tasksLoad_cons (t : Task) (l : List Task) : tasksLoad (t :: l) = taskLoad t + tasksLoad l := by
  simp [tasksLoad]

theorem kindLoad_le (k : Option (OrderKind × Owner)) : kindLoad k ≤ 8 := by
  unfold kindLoad
  split <;> omega

theorem weighSlots_le {f : Option (OrderKind × Owner) → Nat} {n : Nat} (bound : ∀ k : Option (OrderKind × Owner), f k ≤ n) (s : State) :
    weighSlots f s ≤ 12 * n :=
  (Finset.sum_le_card_nsmul _ _ n fun _ _ => bound _).trans (by simp)

theorem slotsLoad_le (s : State) : slotsLoad s ≤ 96 := weighSlots_le kindLoad_le s

theorem asked_of_content {o p : Option Order} (h : o.map Order.content = p.map Order.content) :
    o.map Order.asked = p.map Order.asked := by
  have fields (x : Option Order) : x.map Order.asked = (x.map Order.content).map fun c => (c.2.1, c.2.2.2.2.1) := by
    cases x <;> rfl
  rw [fields, fields, h]

/-- A change of one slot. -/
theorem weighSlots_change (f : Option (OrderKind × Owner) → Nat) {s t : State} {i : SlotNo}
    (others : ∀ j : SlotNo, j ≠ i → (t.slot j).map Order.content = (s.slot j).map Order.content) :
    weighSlots f t + f ((s.slot i).map Order.asked) = weighSlots f s + f ((t.slot i).map Order.asked) := by
  have rest : ∑ j ∈ Finset.univ.erase i, f ((t.slot j).map Order.asked) =
      ∑ j ∈ Finset.univ.erase i, f ((s.slot j).map Order.asked) :=
    Finset.sum_congr rfl fun j mem => by rw [asked_of_content (others j (Finset.ne_of_mem_erase mem))]
  rw [weighSlots, weighSlots, ← Finset.add_sum_erase _ _ (Finset.mem_univ i), ← Finset.add_sum_erase _ _ (Finset.mem_univ i), rest]
  omega

theorem slotsLoad_change {s t : State} {i : SlotNo}
    (others : ∀ j : SlotNo, j ≠ i → (t.slot j).map Order.content = (s.slot j).map Order.content) :
    slotsLoad t + kindLoad ((s.slot i).map Order.asked) = slotsLoad s + kindLoad ((t.slot i).map Order.asked) :=
  weighSlots_change kindLoad others

theorem weighSlots_congr (f : Option (OrderKind × Owner) → Nat) {s t : State}
    (slots : ∀ i : SlotNo, (t.slot i).map Order.content = (s.slot i).map Order.content) : weighSlots f t = weighSlots f s :=
  Finset.sum_congr rfl fun i _ => by rw [asked_of_content (slots i)]

theorem load_congr {s t : State} (slots : ∀ i : SlotNo, (t.slot i).map Order.content = (s.slot i).map Order.content)
    (agenda : t.agenda = s.agenda) : load t = load s := by
  rw [load, load, slotsLoad, slotsLoad, weighSlots_congr kindLoad slots, agenda]

theorem RecordWork.load {s t : State} (h : RecordWork s t) : load t = load s := load_congr h.slots h.outside.agenda

theorem load_record (s : State) (k : EventKind) (u : Option UnitNo) (v : Option Int) (d : Option Nat) :
    load (record s k u v d) = load s := (record_work s k u v d).load

theorem load_rise (s : State) (c : Condition) : load (rise s c) = load s := (rise_work s c).load

@[simp] theorem load_setGenset (s : State) (u : UnitNo) (j : GensetJob) : load (s.setGenset u j) = load s := rfl
@[simp] theorem load_setFeeder (s : State) (u : UnitNo) (j : FeederJob) : load (s.setFeeder u j) = load s := rfl
@[simp] theorem load_setPv (s : State) (u : UnitNo) (j : PvJob) : load (s.setPv u j) = load s := rfl
@[simp] theorem load_setDispatcher (s : State) (d : Dispatcher) : load (s.setDispatcher d) = load s := rfl
@[simp] theorem load_setShedBlock (s : State) (b : Shed) : load (s.setShedBlock b) = load s := rfl
@[simp] theorem load_setProgress (s : State) (p : Progress) : load (s.setProgress p) = load s := rfl
@[simp] theorem load_setTracker (s : State) (t : Tracker) : load (s.setTracker t) = load s := rfl
@[simp] theorem load_setRetry (s : State) (b : Bool) : load (setRetry s b) = load s := rfl

theorem load_deferAll (s : State) (l : List Task) : load (s.deferAll l) = load s + tasksLoad l := by
  have : tasksLoad (s.deferAll l).agenda = tasksLoad s.agenda + tasksLoad l := tasksLoad_append _ _
  rw [load, load, this, ← Nat.add_assoc]
  rfl

theorem load_defer (s : State) (t : Task) : load (s.defer t) = load s + taskLoad t := by
  rw [show s.defer t = s.deferAll [t] from rfl, load_deferAll]
  simp [tasksLoad]

/-- A fold whose every element adds at most so much. -/
theorem load_foldl {α : Type} {f : State → α → State} {n : Nat} (step : ∀ (s : State) (x : α), load (f s x) ≤ load s + n)
    (l : List α) (s : State) : load (l.foldl f s) ≤ load s + l.length * n := by
  induction l generalizing s with
  | nil => simp
  | cons x l ih =>
    have := step s x
    have := ih (f s x)
    rw [List.foldl_cons, List.length_cons, Nat.add_mul]
    omega

theorem load_foldl_le {α : Type} {f : State → α → State} (step : ∀ (s : State) (x : α), load (f s x) ≤ load s)
    (l : List α) (s : State) : load (l.foldl f s) ≤ load s := by
  simpa using load_foldl (n := 0) step l s

/-! ## The Order Transactor -/

theorem tasksLoad_released (l : List Job) (u : UnitNo) : tasksLoad (l.map fun j => .released j u) = l.length := by
  induction l with
  | nil => rfl
  | cons j l ih => rw [List.map_cons, tasksLoad_cons, ih, List.length_cons, Nat.add_comm]; rfl

theorem tasksLoad_releasesOf (s : State) (u : UnitNo) : tasksLoad (s.releasesOf u) = 4 := by
  rw [State.releasesOf, tasksLoad_released, (jobOrder_perm _).length_eq]
  rfl

theorem tasksLoad_ended (l : List Job) (i : SlotNo) (o : Order) (e : OrderEnd) :
    tasksLoad (l.map fun j => .ended j i o e) = 4 * l.length := by
  induction l with
  | nil => rfl
  | cons j l ih => rw [List.map_cons, tasksLoad_cons, ih, List.length_cons, Nat.mul_add, Nat.add_comm]; rfl

theorem endReceivers_length (s : State) (o : Order) : (endReceivers s o).length ≤ 2 := by
  unfold endReceivers
  cases o.owner with
  | plan => cases (s.unit o.target).kind <;> cases s.schedule.sequencerFirst <;> decide
  | _ => exact Nat.le_succ 1

theorem tasksLoad_endTasks (s : State) (i : SlotNo) (o : Order) (e : OrderEnd) : tasksLoad (endTasks s i o e) ≤ 8 := by
  have := endReceivers_length s o
  rw [endTasks, tasksLoad_ended]
  omega

theorem SlotFreed.load {s t : State} {i : SlotNo} (h : SlotFreed s t i) :
    load t + kindLoad ((s.slot i).map Order.asked) = load s + 2 := by
  have change := slotsLoad_change h.others
  have empty : kindLoad ((t.slot i).map Order.asked) = 2 := by rw [h.slot]; rfl
  rw [Machine.load, Machine.load, h.outside.agenda]
  omega

theorem granted_load {s : State} {i : SlotNo} {u : UnitNo} {k : OrderKind} (v : Option Nat) {w : Owner} (st : Option (Fin 32))
    (free : s.slot i = none) : load (granted s i u k v w st) + 2 = load s + kindLoad (some (k, w)) := by
  have change := slotsLoad_change (s := s) (t := granted s i u k v w st) (i := i) fun j other => by
    rw [granted_slot, if_neg other]
  rw [granted_slot, if_pos rfl, free] at change
  simp only [Option.map_none, Option.map_some] at change
  have agenda : (granted s i u k v w st).agenda = s.agenda := rfl
  have weighed : kindLoad (some (newOrder s u k v w st).asked) = kindLoad (some (k, w)) := rfl
  have empty : kindLoad none = 2 := rfl
  rw [load, load, agenda]
  omega

theorem kindLoad_setpoint {k : OrderKind} (h : isSetpoint k = true) (w : Owner) : kindLoad (some (k, w)) = 2 := by
  cases k <;> first | rfl | cases h

theorem rewriteSlot_load {s : State} {u : UnitNo} {k : OrderKind} {w : Owner} {i : SlotNo} (v : Option Nat)
    (joined : judgeRequest s u k w = .coalesced i) : load (rewriteSlot s i k v) = load s := by
  obtain ⟨-, -, slot⟩ := judgeRequest_coalesced joined
  obtain ⟨setpoint, o, there, -, was, -⟩ := coalesceSlot_some slot
  have rewritten : rewriteSlot s i k v = s.setSlot i (some { o with kind := k, value := v }) := by
    rw [rewriteSlot, there]
  have others (j : SlotNo) (other : j ≠ i) : (rewriteSlot s i k v).slot j = s.slot j := by
    rw [rewritten, slot_setSlot, if_neg other]
  have here : (rewriteSlot s i k v).slot i = some { o with kind := k, value := v } := by
    rw [rewritten, slot_setSlot, if_pos rfl]
  have change := slotsLoad_change (s := s) (t := rewriteSlot s i k v) (i := i) fun j other => by rw [others j other]
  rw [here, there] at change
  have agenda : (rewriteSlot s i k v).agenda = s.agenda := by rw [rewritten]; rfl
  rw [load, load, agenda]
  simp only [Option.map_some, Order.asked, kindLoad_setpoint setpoint, kindLoad_setpoint was] at change
  omega

/-- A request adds at most the load of its order. -/
theorem requestOrder_load_le {s s' : State} {u : UnitNo} {k : OrderKind} {v : Option Nat} {w : Owner} {st : Option (Fin 32)}
    {a : Answer} (asked : requestOrder s u k v w st = (s', a)) : load s' ≤ load s + (kindLoad (some (k, w)) - 2) := by
  obtain ⟨answer, leaves⟩ := requestOrder_spec s u k v w st
  rw [asked] at leaves
  cases judged : judgeRequest s u k w with
  | created i =>
    rw [judged] at leaves
    have work : RecordWork (granted s i u k v w st) s' := leaves
    obtain ⟨-, -, -, -, -, -, free⟩ := judgeRequest_created judged
    have := granted_load v (w := w) (k := k) (u := u) st free
    rw [work.load]
    omega
  | coalesced i =>
    rw [judged] at leaves
    have rewritten : s' = rewriteSlot s i k v := leaves
    rw [rewritten, rewriteSlot_load v judged]
    omega
  | refused why =>
    rw [judged] at leaves
    have stays : s' = s ∨ s' = rise s .slotsExhausted := by
      cases why with
      | noSlot =>
        have risen : s' = if orderClass w k = .urgent then rise s .slotsExhausted else s := leaves
        split at risen
        · exact .inr risen
        · exact .inl risen
      | wrongMode | notPermitted | held | noCredit => exact .inl leaves
    rcases stays with rfl | rfl
    · omega
    · rw [load_rise]
      omega

theorem requestOrder_load {s s' : State} {u : UnitNo} {k : OrderKind} {v : Option Nat} {w : Owner} {st : Option (Fin 32)}
    {a : Answer} (plain : k ≠ .stop ∨ w ≠ .dispatch) (asked : requestOrder s u k v w st = (s', a)) : load s' ≤ load s := by
  have := requestOrder_load_le asked
  have light : kindLoad (some (k, w)) ≤ 2 := by
    unfold kindLoad
    split
    any_goals omega
    next stop => simp_all
  omega

/-- A START made takes the room of a slot that held none. -/
theorem requestOrder_start_load {s s' : State} {u : UnitNo} {v : Option Nat} {w : Owner} {st : Option (Fin 32)} {i : SlotNo}
    (asked : requestOrder s u .start v w st = (s', .created i)) : load s' + 2 ≤ load s := by
  obtain ⟨answer, leaves⟩ := requestOrder_spec s u .start v w st
  rw [asked] at answer leaves
  have judged : judgeRequest s u .start w = .created i := answer.symm
  rw [judged] at leaves
  have work : RecordWork (granted s i u .start v w st) s' := leaves
  obtain ⟨-, -, -, -, -, -, free⟩ := judgeRequest_created judged
  have := granted_load v (w := w) (k := .start) (u := u) st free
  rw [work.load]
  simp only [kindLoad] at this
  omega

/-! ## The Gen-Set Dispatcher -/

theorem enterDispatch_load (s : State) (u : UnitNo) (d : DispatchState) : load (enterDispatch s u d) ≤ load s + 1 := by
  unfold enterDispatch
  simp only
  split
  · rw [load_defer]
    exact le_rfl
  · exact Nat.le_succ _

theorem judgeAvailability_load (s : State) (u : UnitNo) : load (judgeAvailability s u) ≤ load s + 1 := by
  unfold judgeAvailability
  simp only
  split
  · exact enterDispatch_load s u _
  · exact Nat.le_succ _

theorem enterStopped_load (s : State) (u : UnitNo) : load (enterStopped s u) ≤ load s + 2 :=
  (judgeAvailability_load _ u).trans (Nat.succ_le_succ (enterDispatch_load s u .stopped))

theorem startCreated_load (s : State) (u : UnitNo) (i : SlotNo) (w : Owner) : load (startCreated s u i w) ≤ load s + 1 :=
  enterDispatch_load _ u _

theorem askStarts_load (us : List UnitNo) (s : State) (credit : Bool) : load (askStarts s credit us) ≤ load s := by
  induction us generalizing s credit with
  | nil =>
    unfold askStarts
    split <;> exact le_rfl
  | cons u us ih =>
    unfold askStarts
    split
    next i asked =>
      have := requestOrder_start_load asked
      have := startCreated_load ‹State› u i .dispatch
      omega
    next asked => exact (ih _ _).trans (requestOrder_load (k := .start) (by decide) asked)
    next asked => exact (ih _ _).trans (requestOrder_load (k := .start) (by decide) asked)
    next asked => exact (load_setRetry _ true).le.trans (requestOrder_load (k := .start) (by decide) asked)
    next asked => exact requestOrder_load (k := .start) (by decide) asked

theorem startDecision_load (s : State) : load (startDecision s) ≤ load s := by
  unfold startDecision
  simp only
  split
  · split
    · exact (load_rise _ _).le
    · exact askStarts_load _ _ _
  · exact le_rfl

theorem planStartRequest_load {s s' : State} {u : UnitNo} {st : Fin 32} {a : PlanStart}
    (asked : planStartRequest s u st = (s', a)) : load s' ≤ load s := by
  have stays {b : PlanStart} (same : (s, b) = (s', a)) : load s' ≤ load s := by
    obtain ⟨rfl, -⟩ := Prod.mk.inj same
    exact le_rfl
  unfold planStartRequest at asked
  split at asked
  · exact stays asked
  · split at asked
    any_goals exact stays asked
    split at asked
    · exact stays asked
    · split at asked
      next i made =>
        have := requestOrder_start_load made
        have := startCreated_load ‹State› u i .plan
        obtain ⟨rfl, -⟩ := Prod.mk.inj asked
        omega
      next made =>
        obtain ⟨rfl, -⟩ := Prod.mk.inj asked
        exact requestOrder_load (k := .start) (by decide) made
      next made =>
        obtain ⟨rfl, -⟩ := Prod.mk.inj asked
        exact requestOrder_load (k := .start) (by decide) made

theorem failedAttempt_load (s : State) (u : UnitNo) (cause : Nat) : load (failedAttempt s u cause) ≤ load s + 2 := by
  unfold failedAttempt
  simp only
  have entered (j : GensetJob) (d : DispatchState) : load (enterDispatch (s.setGenset u j) u d) ≤ load s + 1 :=
    enterDispatch_load _ u d
  refine (judgeAvailability_load _ u).trans (Nat.succ_le_succ ?_)
  split
  · rw [load_record, load_record]
    exact entered _ _
  · rw [load_record]
    exact entered _ _

theorem startSucceeds_load (s : State) (u : UnitNo) : load (startSucceeds s u) ≤ load s + 1 := by
  unfold startSucceeds
  simp only
  rw [load_record]
  exact enterDispatch_load _ u _

theorem enterStarting_load (s : State) (u : UnitNo) : load (enterStarting s u) ≤ load s + 1 := enterDispatch_load _ u _

theorem startOrderEnd_load (s : State) (u : UnitNo) (e : OrderEnd) : load (startOrderEnd s u e) ≤ load s + 2 := by
  unfold startOrderEnd
  simp only
  split
  · split
    · exact (startSucceeds_load _ u).trans (Nat.succ_le_succ (enterStarting_load _ u))
    · exact (enterStarting_load _ u).trans (Nat.le_succ _)
  · exact failedAttempt_load _ u 1
  · exact failedAttempt_load _ u 2
  · exact enterStopped_load _ u
  · exact Nat.le_add_right _ _

theorem enterStopping_load (s : State) (u : UnitNo) : load (enterStopping s u) ≤ load s + 1 := enterDispatch_load _ u _

theorem stopEnds_load (s : State) (u : UnitNo) (detail : Nat) : load (stopEnds s u detail) ≤ load s + 2 := by
  unfold stopEnds
  simp only
  split
  · rw [load_record]
    exact (enterDispatch_load _ u _).trans (Nat.le_succ _)
  · refine (judgeAvailability_load _ u).trans (Nat.succ_le_succ ?_)
    rw [load_record]
    exact enterDispatch_load _ u _

theorem stopOrderEnd_load (s : State) (u : UnitNo) (e : OrderEnd) : load (stopOrderEnd s u e) ≤ load s + 3 := by
  unfold stopOrderEnd
  simp only
  split
  · exact Nat.le_add_right _ _
  · split
    · split
      · exact (stopEnds_load _ u 1).trans (Nat.add_le_add_right (enterStopping_load _ u) 2)
      · exact (enterStopping_load _ u).trans (Nat.add_le_add_left (by decide) _)
    · exact Nat.le_add_right _ _
    · exact (enterDispatch_load _ u _).trans (Nat.add_le_add_left (by decide) _)

theorem dispatcherEnd_load (s : State) (i : SlotNo) (o : Order) (e : OrderEnd) :
    load (dispatcherEnd s i o e) ≤ load s + 3 := by
  unfold dispatcherEnd
  simp only
  split
  · exact Nat.le_add_right _ _
  · split
    · exact Nat.le_add_right _ _
    · split
      · split
        · exact (startOrderEnd_load s _ e).trans (Nat.le_succ _)
        · exact Nat.le_add_right _ _
      · exact stopOrderEnd_load s _ e

theorem stopWithdrawn_load (s : State) (u : UnitNo) : load (stopOrderEnd s u (.unsent .withdrawn)) ≤ load s + 1 := by
  unfold stopOrderEnd
  simp only
  split
  · exact Nat.le_succ _
  · exact enterDispatch_load _ u _

/-- A STOP withdrawn hands on less than the STOP was counted for. -/
theorem withdrawStop_load (s : State) (u : UnitNo) : load (withdrawStop s u).1 ≤ load s := by
  unfold withdrawStop
  split
  · exact le_rfl
  next x _ =>
    rcases withdraw_cases s x.slot .dispatch u .stop with ⟨late, -⟩ | ⟨o, t, taken, able, freed⟩
    · simp only [late]
      exact le_rfl
    · obtain ⟨there, owner, -, kind, -⟩ := able
      have loads := freed.load
      rw [there] at loads
      have weighed : kindLoad (some o.asked) = 8 := by rw [Order.asked, kind, owner]; rfl
      rw [Option.map_some, weighed] at loads
      have := stopWithdrawn_load t u
      simp only [taken]
      rw [load_deferAll, tasksLoad_releasesOf]
      omega

theorem pushAnnounced_load (s : State) : load (pushAnnounced s) ≤ load s :=
  load_foldl_le (fun s u => by
    split
    · exact withdrawStop_load s u
    · exact le_rfl) _ s

theorem stopDecision_load (s : State) : load (stopDecision s) ≤ load s + 7 := by
  unfold stopDecision
  split
  · exact Nat.le_add_right _ _
  next c _ =>
    split
    · exact Nat.le_add_right _ _
    · split
      next i asked =>
        have := requestOrder_load_le asked
        refine (enterDispatch_load _ c _).trans (Nat.succ_le_succ ?_)
        exact this
      next asked => exact (requestOrder_load_le asked).trans (Nat.le_succ _)

theorem dispatcherCompletion_load (s : State) : load (dispatcherCompletion s) ≤ load s + 71 := by
  have judged : load (allUnits.foldl judgeAvailability s) ≤ load s + 64 * 1 := by
    have := load_foldl judgeAvailability_load allUnits s
    rwa [show allUnits.length = 64 from List.length_finRange] at this
  unfold dispatcherCompletion
  simp only
  split
  · have := startDecision_load (allUnits.foldl judgeAvailability s)
    have := stopDecision_load (startDecision (allUnits.foldl judgeAvailability s))
    omega
  · omega

theorem dispatcherRelease_load (s : State) : load (dispatcherRelease s) ≤ load s := by
  unfold dispatcherRelease
  split
  · exact startDecision_load s
  · exact le_rfl

/-! ## The Curtailment Allocator -/

theorem askCap_load (s : State) (u : UnitNo) (cap : Option Nat) : load (askCap s u cap) ≤ load s := by
  unfold askCap
  split
  · exact le_rfl
  · have asked := requestOrder_load (s := s) (u := u) (k := if cap.isSome then .setCap else .clearCap) (v := cap) (w := .curtail)
      (st := none) (.inr (by decide)) rfl
    refine le_trans (le_of_eq ?_) asked
    simp only
    unfold takeAnswer
    split <;> rfl

theorem askAll_load (s : State) (propose : UnitNo → Proposal) : load (askAll s propose) ≤ load s :=
  load_foldl_le (fun s x => by
    unfold askProposal
    split
    · exact le_rfl
    · exact askCap_load s _ _
    · exact askCap_load s _ _) _ s

theorem limitSweep_load (s : State) (pct : Nat) : load (limitSweep s pct) ≤ load s := askAll_load _ _

theorem noteShortfall_load (s : State) (shortfall n : Nat) : load (noteShortfall s shortfall n) = load s := by
  unfold noteShortfall
  simp only
  split
  · rw [load_rise, load_record]
    rfl
  · rfl

theorem allocatorCompletion_load (s : State) : load (allocatorCompletion s) ≤ load s := by
  unfold allocatorCompletion
  split
  · exact le_rfl
  · exact le_rfl
  · exact (noteShortfall_load _ _ _).le.trans (askAll_load s _)
  · exact (noteShortfall_load _ _ _).le.trans (askAll_load s _)

/-! ## The Shed Controller -/

theorem tidyPredictive_load (s : State) : load (tidyPredictive s) = load s := by
  obtain ⟨p, tidied⟩ := tidyPredictive_eq s
  rw [tidied]
  rfl

theorem setShed_load (s : State) (u : UnitNo) (x : ShedState) : load (setShed s u x) = load s := by
  obtain ⟨p, entered⟩ := setShed_eq s u x
  rw [entered]
  rfl

theorem push_load (s : State) (u : UnitNo) (cause : ShedCause) : load (push s u cause) ≤ load s := pushAnnounced_load _

theorem pendingOpened_load (s : State) (e : PendingShed) (i : SlotNo) : load (pendingOpened s e i) ≤ load s :=
  (push_load _ _ _).trans (setShed_load s e.feeder .opening).le

theorem replaceIfChosen_load (s : State) (p : Option Predictive) (u : UnitNo) (amount : Nat) :
    load (replaceIfChosen s p u amount) = load s := by
  cases p with
  | none => rfl
  | some p =>
    unfold replaceIfChosen replaceChosen
    simp only
    split
    · rfl
    · split
      · rw [load_rise, tidyPredictive_load]
        rfl
      · rw [tidyPredictive_load]
        rfl

theorem pendingRefused_load (s : State) (e : PendingShed) : load (pendingRefused s e) = load s := by
  unfold pendingRefused
  simp only
  split
  · rw [replaceIfChosen_load, tidyPredictive_load]
    rfl
  · rw [tidyPredictive_load]
    rfl

theorem dropPending_load (s : State) : load (dropPending s) = load s := tidyPredictive_load _

theorem serveN_load (n k : Nat) (s : State) : load (serveN n k s) ≤ load s := by
  induction n generalizing k s with
  | zero => exact le_rfl
  | succ n ih =>
    unfold serveN
    split
    · exact le_rfl
    · split
      next asked => exact (ih _ _).trans ((pendingOpened_load _ _ _).trans (requestOrder_load (by decide) asked))
      next asked => exact (ih _ _).trans (requestOrder_load (by decide) asked)
      next asked => exact (ih _ _).trans (requestOrder_load (by decide) asked)
      next asked => exact requestOrder_load (by decide) asked
      next asked => exact (dropPending_load _).le.trans (requestOrder_load (by decide) asked)
      next asked => exact (ih _ _).trans ((pendingRefused_load _ _).le.trans (requestOrder_load (by decide) asked))

theorem servePending_load (s : State) : load (servePending s) ≤ load s := serveN_load _ _ s

theorem shedFailed_load (s : State) (u : UnitNo) (detail : Nat) : load (shedFailed s u detail) ≤ load s := by
  have replaced (t : State) (p : Option Predictive) (amount : Nat) : t = setShed s u (stateByBreaker s u) →
      load (replaceIfChosen (record t .shedFailed (some u) (some (amount : Int)) (some detail)) p u amount) = load s := by
    rintro rfl
    rw [replaceIfChosen_load, load_record, setShed_load]
  unfold shedFailed
  simp only
  split
  · exact (servePending_load _).trans (replaced _ _ _ rfl).le
  · exact (replaced _ _ _ rfl).le

theorem openEnd_load (s : State) (u : UnitNo) (e : OrderEnd) : load (openEnd s u e) ≤ load s := by
  unfold openEnd
  split
  · exact (setShed_load _ _ _).le
  · exact shedFailed_load _ _ _
  · exact shedFailed_load _ _ _
  · exact (setShed_load _ _ _).le
  · exact le_rfl

theorem clearFeederWork_load (s : State) (u : UnitNo) : load (clearFeederWork s u) = load s := rfl

theorem restoreReturns_load (s : State) (u : UnitNo) : load (restoreReturns s u) = load s := by
  rw [restoreReturns, setShed_load, clearFeederWork_load]

theorem restoreSucceeds_load (s : State) (u : UnitNo) : load (restoreSucceeds s u) = load s := by
  unfold restoreSucceeds
  simp only
  rw [load_record, setShed_load, clearFeederWork_load]

theorem restoreFails_load (s : State) (u : UnitNo) : load (restoreFails s u) = load s := by
  unfold restoreFails
  simp only
  split
  · exact restoreReturns_load s u
  · split
    · rw [load_record, setShed_load]
      rfl
    · rw [setShed_load]
      rfl

theorem closeEnd_load (s : State) (u : UnitNo) (e : OrderEnd) : load (closeEnd s u e) = load s := by
  unfold closeEnd
  split
  · simp only
    split
    · rw [restoreSucceeds_load]
      rfl
    · rfl
  · exact restoreFails_load s u
  · exact restoreFails_load s u
  · exact restoreReturns_load s u
  · rfl

theorem shedOrderEnd_load (s : State) (i : SlotNo) (o : Order) (e : OrderEnd) : load (shedOrderEnd s i o e) ≤ load s := by
  unfold shedOrderEnd
  simp only
  split
  · exact le_rfl
  · split
    · exact le_rfl
    · split
      · exact openEnd_load _ _ e
      · exact (closeEnd_load _ _ e).le
      · exact le_rfl

theorem shedCompletion_load (s : State) : load (shedCompletion s) ≤ load s := by
  have restored (t : State) : load (restoreDecision t) ≤ load t := by
    unfold restoreDecision
    split
    · exact le_rfl
    · simp only
      split
      · split
        next asked => exact (setShed_load _ _ .restoring).le.trans (requestOrder_load (by decide) asked)
        next asked => exact requestOrder_load (by decide) asked
      · exact le_rfl
  unfold shedCompletion
  simp only
  split
  · exact (restored _).trans (servePending_load s)
  · exact servePending_load s

theorem claim_load (s : State) (u : UnitNo) : load (claim s u) = load s := setShed_load _ _ _

theorem planRelease_load (s : State) (completed : Bool) : load (planRelease s completed) ≤ load s :=
  load_foldl_le (fun s u => by
    unfold releaseClaimed
    split
    · exact (setShed_load _ _ _).le
    · split
      · exact (push_load _ _ _).trans (setShed_load _ _ _).le
      · exact (setShed_load _ _ _).le) _ s

end Sys2Proof.Machine
end

section
/-! The hand-offs of a step come to an end: what a running plan still does, and the taking of the hand-offs. -/

namespace Sys2Proof.Machine

/-! ## Several orders ended together -/

theorem tasksLoad_flatMap_le {α : Type} {f : α → List Task} {n : Nat} (bound : ∀ x : α, tasksLoad (f x) ≤ n) (l : List α) :
    tasksLoad (l.flatMap f) ≤ n * l.length := by
  induction l with
  | nil => simp [tasksLoad]
  | cons x l ih =>
    have := bound x
    rw [List.flatMap_cons, tasksLoad_append, List.length_cons, Nat.mul_add]
    omega

theorem load_le (s : State) : load s ≤ 96 + tasksLoad s.agenda := Nat.add_le_add_right (slotsLoad_le s) _

theorem tasksLoad_le_load (s : State) : tasksLoad s.agenda ≤ load s := Nat.le_add_left _ _

theorem freeAll_agenda (ends : List (SlotNo × Order × OrderEnd)) (s : State) :
    (ends.foldl (fun s x => freeSlotAt s x.1) s).agenda = s.agenda := by
  induction ends generalizing s with
  | nil => rfl
  | cons x ends ih => exact ih _

/-- Orders ended together hand on at most twelve for each. -/
theorem endMany_load (s : State) (ends : List (SlotNo × Order × OrderEnd)) (later : List Task) :
    load (endMany s ends later) ≤ load s + 96 + 12 * ends.length + tasksLoad later := by
  obtain ⟨t, freed⟩ : ∃ t, t = pump (refill (ends.foldl (fun s x => freeSlotAt s x.1) s)) := ⟨_, rfl⟩
  have ended : endMany s ends later = t.deferAll (ends.flatMap (fun x => endTasks t x.1 x.2.1 x.2.2) ++ later ++
      ends.flatMap fun x => t.releasesOf x.2.1.target) := by rw [freed]; rfl
  have agenda : t.agenda = s.agenda := by
    rw [freed, ← freeAll_agenda ends s]
    exact ((refill_work _).trans (pump_work _)).outside.agenda
  have slots := load_le t
  rw [agenda] at slots
  have tasks := tasksLoad_flatMap_le (fun x => tasksLoad_endTasks t x.1 x.2.1 x.2.2) ends
  have releases := tasksLoad_flatMap_le (fun x => (tasksLoad_releasesOf t x.2.1.target).le) ends
  have found := tasksLoad_le_load s
  rw [ended, load_deferAll, tasksLoad_append, tasksLoad_append]
  omega

theorem occupiedOrders_length (s : State) : (occupiedOrders s).length ≤ 12 :=
  (List.length_filterMap_le _ _).trans (by simp [allSlots])

theorem discardOrders_load (s : State) : load (discardOrders s) ≤ load s + 240 := by
  have count : (discardEnds s).length ≤ 12 := by
    rw [discardEnds, List.length_map]
    exact (List.length_filter_le _ _).trans (occupiedOrders_length s)
  have := endMany_load (dropOwed s) (discardEnds s) []
  have same := (dropOwed_work s).record.load
  have none : tasksLoad [] = 0 := rfl
  unfold discardOrders
  simp only
  omega

/-! ## A change of mode -/

theorem trackerMode_load (s : State) (left : Mode) : load (trackerMode s left) = load s := by
  unfold trackerMode restartTracker
  split
  · simp only
    split
    · rfl
    · rw [(sourceChanged_work _ _).load]
      rfl
  · split <;> rfl

theorem limitModeChanged_load (s : State) (left : Mode) : load (limitModeChanged s left) ≤ load s := by
  unfold limitModeChanged
  split
  · exact limitSweep_load _ _
  · split <;> exact le_rfl

theorem retryModeLeft_load (s : State) (left : Mode) : load (retryModeLeft s left) = load s := by
  unfold retryModeLeft
  split <;> rfl

theorem shedModeLeft_load (s : State) : load (shedModeLeft s) = load s := rfl

theorem ordersModeLeft_load (s : State) (left : Mode) : load (ordersModeLeft s left) ≤ load s + 240 := by
  unfold ordersModeLeft
  split
  · rw [load_setRetry, shedModeLeft_load]
    exact discardOrders_load s
  · exact Nat.le_add_right _ _

theorem changeMode_load (s : State) (m : Mode) : load (changeMode s m) ≤ load s + 240 := by
  unfold changeMode
  split
  · exact Nat.le_add_right _ _
  · simp only
    refine (limitModeChanged_load _ _).trans ?_
    rw [retryModeLeft_load]
    refine (ordersModeLeft_load _ _).trans ?_
    rw [trackerMode_load, load_record]
    exact le_rfl

/-- A mode with orders entered discards none. -/
theorem changeMode_orders_load (s : State) {m : Mode} (orders : m.orders = true) : load (changeMode s m) ≤ load s := by
  have kept (t : State) (left : Mode) (mode : t.mode = m) : ordersModeLeft t left = t := if_neg (by simp [mode, orders])
  unfold changeMode
  split
  · exact le_rfl
  · simp only
    refine (limitModeChanged_load _ _).trans ?_
    rw [retryModeLeft_load, kept, trackerMode_load, load_record]
    · exact le_rfl
    · rw [(trackerMode_moves _ _).mode, (Moves.record _ _ _ _ _).mode]
      rfl

/-! ## A running plan -/

/-- How many times a step may still begin: attempts of this step, of those after it, and the restart that is pending. -/
def beginsLeft (p : Progress) : Nat :=
  (if p.restartPending then 100 else 0) + 3 * (31 - p.current.val) + (3 - p.attempt)

/-- What a running plan is counted for: an open step for the orders it may take back, each beginning still to come, and the
orders that its end may discard. -/
def planLoad (p : Progress) : Nat :=
  if p.planState = .running then (if p.stepOpen then 170 else 0) + 171 * beginsLeft p + 240 else 0

def wholeLoad (s : State) : Nat := load s + planLoad s.progress

theorem planLoad_le (p : Progress) : planLoad p ≤ 34000 := by
  have few : beginsLeft p ≤ 196 := by
    unfold beginsLeft
    split <;> omega
  unfold planLoad
  split
  · split <;> omega
  · omega

end Sys2Proof.Machine
end

section
/-! The hand-offs of a step come to an end: each one taken leaves less than it was counted for. -/

namespace Sys2Proof.Machine

/-! ## The Shed Controller leaves the Sequencer as it is -/

theorem tidyPredictive_seqr (s : State) : (tidyPredictive s).seqr = s.seqr := by
  obtain ⟨p, tidied⟩ := tidyPredictive_eq s
  rw [tidied]
  rfl

theorem requestOrder_seqr {s s' : State} {u : UnitNo} {k : OrderKind} {v : Option Nat} {w : Owner} {st : Option (Fin 32)}
    {a : Answer} (asked : requestOrder s u k v w st = (s', a)) : s'.seqr = s.seqr := (requestOrder_eq_duties asked).apart.seqr

theorem pendingOpened_seqr (s : State) (e : PendingShed) (i : SlotNo) : (pendingOpened s e i).seqr = s.seqr :=
  (push_seqr _ _ _).trans (setShed_seqr s e.feeder .opening)

theorem rise_seqr (s : State) (c : Condition) : (rise s c).seqr = s.seqr := (rise_work s c).outside.seqr

theorem replaceIfChosen_seqr (s : State) (p : Option Predictive) (u : UnitNo) (amount : Nat) :
    (replaceIfChosen s p u amount).seqr = s.seqr := by
  cases p with
  | none => rfl
  | some p =>
    unfold replaceIfChosen replaceChosen
    simp only
    split
    · rfl
    · split
      · rw [rise_seqr, tidyPredictive_seqr]
        rfl
      · rw [tidyPredictive_seqr]
        rfl

theorem pendingRefused_seqr (s : State) (e : PendingShed) : (pendingRefused s e).seqr = s.seqr := by
  unfold pendingRefused
  simp only
  split
  · rw [replaceIfChosen_seqr, tidyPredictive_seqr]
    rfl
  · rw [tidyPredictive_seqr]
    rfl

theorem dropPending_seqr (s : State) : (dropPending s).seqr = s.seqr := tidyPredictive_seqr _

theorem serveN_seqr (n k : Nat) (s : State) : (serveN n k s).seqr = s.seqr := by
  induction n generalizing k s with
  | zero => rfl
  | succ n ih =>
    unfold serveN
    split
    · rfl
    · split
      next asked => exact (ih _ _).trans ((pendingOpened_seqr _ _ _).trans (requestOrder_seqr asked))
      next asked => exact (ih _ _).trans (requestOrder_seqr asked)
      next asked => exact (ih _ _).trans (requestOrder_seqr asked)
      next asked => exact requestOrder_seqr asked
      next asked => exact (dropPending_seqr _).trans (requestOrder_seqr asked)
      next asked => exact (ih _ _).trans ((pendingRefused_seqr _ _).trans (requestOrder_seqr asked))

theorem servePending_seqr (s : State) : (servePending s).seqr = s.seqr := serveN_seqr _ _ s

theorem shedFailed_seqr (s : State) (u : UnitNo) (detail : Nat) : (shedFailed s u detail).seqr = s.seqr := by
  have replaced (t : State) (p : Option Predictive) (amount : Nat) : t = setShed s u (stateByBreaker s u) →
      (replaceIfChosen (record t .shedFailed (some u) (some (amount : Int)) (some detail)) p u amount).seqr = s.seqr := by
    rintro rfl
    rw [replaceIfChosen_seqr, record_seqr, setShed_seqr]
  unfold shedFailed
  simp only
  split
  · exact (servePending_seqr _).trans (replaced _ _ _ rfl)
  · exact replaced _ _ _ rfl

theorem clearFeederWork_seqr (s : State) (u : UnitNo) : (clearFeederWork s u).seqr = s.seqr := rfl

theorem restoreReturns_seqr (s : State) (u : UnitNo) : (restoreReturns s u).seqr = s.seqr := setShed_seqr _ _ _

theorem restoreSucceeds_seqr (s : State) (u : UnitNo) : (restoreSucceeds s u).seqr = s.seqr := by
  unfold restoreSucceeds
  simp only
  rw [record_seqr, setShed_seqr, clearFeederWork_seqr]

theorem restoreFails_seqr (s : State) (u : UnitNo) : (restoreFails s u).seqr = s.seqr := by
  unfold restoreFails
  simp only
  split
  · exact restoreReturns_seqr s u
  · split
    · rw [record_seqr, setShed_seqr]
      rfl
    · rw [setShed_seqr]
      rfl

theorem shedOrderEnd_seqr (s : State) (i : SlotNo) (o : Order) (e : OrderEnd) : (shedOrderEnd s i o e).seqr = s.seqr := by
  have opens (t : State) (u : UnitNo) : (openEnd t u e).seqr = t.seqr := by
    unfold openEnd
    split
    · exact setShed_seqr _ _ _
    · exact shedFailed_seqr _ _ _
    · exact shedFailed_seqr _ _ _
    · exact setShed_seqr _ _ _
    · rfl
  have closes (t : State) (u : UnitNo) : (closeEnd t u e).seqr = t.seqr := by
    unfold closeEnd
    split
    · simp only
      split
      · rw [restoreSucceeds_seqr]
        rfl
      · rfl
    · exact restoreFails_seqr t u
    · exact restoreFails_seqr t u
    · exact restoreReturns_seqr t u
    · rfl
  unfold shedOrderEnd
  simp only
  split
  · rfl
  · split
    · rfl
    · split
      · exact opens _ _
      · exact closes _ _
      · rfl

theorem shedCompletion_seqr (s : State) : (shedCompletion s).seqr = s.seqr := by
  have restored (t : State) : (restoreDecision t).seqr = t.seqr := by
    unfold restoreDecision
    split
    · rfl
    · simp only
      split
      · split
        next asked => exact (setShed_seqr _ _ .restoring).trans (requestOrder_seqr asked)
        next asked => exact requestOrder_seqr asked
      · rfl
  unfold shedCompletion
  simp only
  split
  · exact (restored _).trans (servePending_seqr s)
  · exact servePending_seqr s

/-! ## A step of a running plan -/

theorem wholeLoad_of_seqr {s t : State} {n : Nat} (same : t.seqr = s.seqr) (less : load t ≤ load s + n) :
    wholeLoad t ≤ wholeLoad s + n := by
  rw [wholeLoad, wholeLoad, progress_of_seqr same]
  omega

theorem wholeLoad_le_of_seqr {s t : State} (same : t.seqr = s.seqr) (less : load t ≤ load s) : wholeLoad t ≤ wholeLoad s := by
  rw [wholeLoad, wholeLoad, progress_of_seqr same]
  omega

/-- Of a running plan's progress, what it is counted by. -/
structure SameStep (s t : State) : Prop where
  planState : t.progress.planState = s.progress.planState
  stepState : t.progress.stepState = s.progress.stepState
  current   : t.progress.current = s.progress.current
  attempt   : t.progress.attempt = s.progress.attempt
  restart   : t.progress.restartPending = s.progress.restartPending
  lighter   : load t ≤ load s

theorem SameStep.refl (s : State) : SameStep s s := ⟨rfl, rfl, rfl, rfl, rfl, le_rfl⟩

theorem SameStep.trans {s t u : State} (a : SameStep s t) (b : SameStep t u) : SameStep s u :=
  ⟨b.planState.trans a.planState, b.stepState.trans a.stepState, b.current.trans a.current, b.attempt.trans a.attempt,
    b.restart.trans a.restart, b.lighter.trans a.lighter⟩

theorem SameStep.of_seqr {s t : State} (same : t.seqr = s.seqr) (lighter : load t ≤ load s) : SameStep s t := by
  have := progress_of_seqr same
  constructor
  all_goals first | exact lighter | rw [this]

theorem SameStep.planLoad {s t : State} (h : SameStep s t) : planLoad t.progress = planLoad s.progress := by
  unfold Machine.planLoad Progress.stepOpen beginsLeft
  rw [h.planState, h.stepState, h.current, h.attempt, h.restart]

theorem SameStep.wholeLoad {s t : State} (h : SameStep s t) : wholeLoad t ≤ wholeLoad s := by
  rw [Machine.wholeLoad, Machine.wholeLoad, h.planLoad]
  exact Nat.add_le_add_right h.lighter _

theorem addIssue_step (s : State) (u : UnitNo) (k : OrderKind) : SameStep s (addIssue s u k) :=
  ⟨rfl, rfl, rfl, rfl, rfl, le_rfl⟩

theorem foldl_step {α : Type} {f : State → α → State} (keeps : ∀ (s : State) (x : α), SameStep s (f s x)) (l : List α)
    (s : State) : SameStep s (l.foldl f s) := by
  induction l generalizing s with
  | nil => exact .refl s
  | cons x l ih => exact (keeps s x).trans (ih _)

theorem takeFeeder_step (s : State) (u : UnitNo) : SameStep s (takeFeeder s u) := by
  have issued (t : State) (b : Bool) : SameStep t (if b then t else addIssue t u .opn) := by
    cases b
    · exact addIssue_step t u _
    · exact .refl t
  unfold takeFeeder
  simp only
  split
  · exact .refl s
  · split
    · exact issued _ _
    · exact (SameStep.of_seqr (claim_seqr s u) (claim_load s u).le).trans (issued _ _)

theorem watchUnit_step (s : State) (u : UnitNo) : SameStep s (watchUnit s u) := by
  unfold watchUnit
  simp only
  split
  · exact .refl s
  · split
    · exact ⟨rfl, rfl, rfl, rfl, rfl, le_rfl⟩
    · split
      · exact ⟨rfl, rfl, rfl, rfl, rfl, le_rfl⟩
      · exact .refl s

theorem takeZone_step (s : State) : SameStep s (takeZone s) := by
  unfold takeZone
  simp only
  split
  · exact ⟨rfl, rfl, rfl, rfl, rfl, le_rfl⟩
  · split <;> exact ⟨rfl, rfl, rfl, rfl, rfl, le_rfl⟩

theorem noteGenset_step (s : State) (u : UnitNo) : SameStep s (noteGenset s u) := by
  unfold noteGenset
  simp only
  split
  · exact ⟨rfl, rfl, rfl, rfl, rfl, le_rfl⟩
  · exact .refl s

theorem prepare_step (s : State) (t : Trigger) : SameStep s (prepare s t) := by
  unfold prepare
  split
  · exact foldl_step takeFeeder_step _ s
  · exact noteGenset_step s _
  · split
    · exact ⟨rfl, rfl, rfl, rfl, rfl, le_rfl⟩
    · exact .refl s
  · exact watchUnit_step s _
  · exact takeZone_step s
  · exact .refl s

theorem planLoad_of_running {p : Progress} (running : p.planState = .running) :
    planLoad p = (if p.stepOpen then 170 else 0) + 171 * beginsLeft p + 240 := if_pos running

theorem planLoad_of_stopped {p : Progress} (stopped : p.planState ≠ .running) : planLoad p = 0 := if_neg stopped

/-- An open step that is left has its count given up. -/
theorem planLoad_closed {p q : Progress} (running : p.planState = .running) (open_ : p.stepOpen = true)
    (planState : q.planState = p.planState) (closed : q.stepOpen = false) (begins : beginsLeft q = beginsLeft p) :
    planLoad q + 170 = planLoad p := by
  rw [planLoad_of_running running, planLoad_of_running (planState.trans running), open_, closed, begins]
  simp
  omega

theorem stepDone_whole {s : State} (running : s.progress.planState = .running) (open_ : s.progress.stepOpen = true) :
    wholeLoad (stepDone s) ≤ wholeLoad s := by
  have progress : (stepDone s).progress = { s.progress with stepState := .done, deadline := none, toIssue := [] } :=
    progress_of_seqr (record_seqr _ _ _ _ _)
  have left : planLoad (stepDone s).progress + 170 = planLoad s.progress := by
    rw [progress]
    exact planLoad_closed running open_ rfl rfl rfl
  have loads : load (stepDone s) = load s + 1 := by
    unfold stepDone
    simp only
    rw [load_defer, load_record]
    rfl
  rw [wholeLoad, wholeLoad]
  omega

/-! ## A step fails -/

/-- The slots that are taken. -/
def slotsTaken (s : State) : Nat := weighSlots (fun k => if k.isSome then 1 else 0) s

theorem slotsTaken_le (s : State) : slotsTaken s ≤ 12 := weighSlots_le (n := 1) (fun k => by cases k <;> simp) s

/-- An order taken back is paid for by its slot. -/
theorem withdrawPlan_load (s : State) (x : PlanOrder) :
    load (withdrawPlan s x) + 14 * slotsTaken (withdrawPlan s x) ≤ load s + 14 * slotsTaken s := by
  unfold withdrawPlan
  rcases withdraw_cases s x.slot .plan x.target x.kind with ⟨late, -⟩ | ⟨o, t, taken, able, freed⟩
  · simp only [late]
    exact le_rfl
  · obtain ⟨there, -⟩ := able
    have loads := freed.load
    have slots := weighSlots_change (fun k => if k.isSome then 1 else 0) freed.others
    rw [freed.slot, there] at slots
    simp only [Option.map_none, Option.map_some, Option.isSome_none, Option.isSome_some, Bool.false_eq_true, if_false,
      if_true] at slots
    have tasks := tasksLoad_endTasks t x.slot o (.unsent .withdrawn)
    simp only [taken]
    rw [load_deferAll, tasksLoad_append, tasksLoad_releasesOf]
    have same : slotsTaken (t.deferAll (endTasks t x.slot o (.unsent .withdrawn) ++ t.releasesOf x.target)) = slotsTaken t := rfl
    rw [same, slotsTaken, slotsTaken]
    omega

theorem withdrawAll_load (l : List PlanOrder) (s : State) :
    load (l.foldl withdrawPlan s) + 14 * slotsTaken (l.foldl withdrawPlan s) ≤ load s + 14 * slotsTaken s := by
  induction l generalizing s with
  | nil => exact le_rfl
  | cons x l ih => exact (ih _).trans (withdrawPlan_load s x)

theorem stepFail_load {s : State} (open_ : s.progress.stepState = .issued ∨ s.progress.stepState = .waiting) (cause : Nat)
    (unit : Option UnitNo) : load (stepFail s cause unit) ≤ load s + 169 := by
  have withdrawn := withdrawAll_load s.progress.orders (s.setProgress (failedProgress s.progress cause))
  have taken := slotsTaken_le s
  have same : slotsTaken (s.setProgress (failedProgress s.progress cause)) = slotsTaken s := rfl
  rw [same, load_setProgress] at withdrawn
  rw [stepFail_eq open_, load_defer, load_record]
  simp only [taskLoad]
  omega

theorem stepFail_whole {s : State} (running : s.progress.planState = .running) (cause : Nat) (unit : Option UnitNo) :
    wholeLoad (stepFail s cause unit) ≤ wholeLoad s := by
  by_cases open_ : s.progress.stepState = .issued ∨ s.progress.stepState = .waiting
  · have left : planLoad (stepFail s cause unit).progress + 170 = planLoad s.progress := by
      rw [stepFail_progress open_]
      exact planLoad_closed running ((stepOpen_iff _).mpr open_) rfl rfl rfl
    have := stepFail_load open_ cause unit
    rw [wholeLoad, wholeLoad]
    omega
  · rw [stepFail_of_closed (not_or.mp open_)]

/-! ## The requests of a step -/

theorem setIssue_step (s : State) (l : List (UnitNo × OrderKind)) (orders : List PlanOrder) :
    SameStep s (s.setProgress { s.progress with toIssue := l, orders := orders }) := ⟨rfl, rfl, rfl, rfl, rfl, le_rfl⟩

theorem planStartRequest_step {s s' : State} {u : UnitNo} {st : Fin 32} {a : PlanStart}
    (asked : planStartRequest s u st = (s', a)) : SameStep s s' :=
  .of_seqr (planStartRequest_duties asked).apart.seqr (planStartRequest_load asked)

/-- What keeps the step, or ends in its failure, leaves no more than there was. -/
theorem SameStep.fails {s t : State} (h : SameStep s t) (running : s.progress.planState = .running) (cause : Nat)
    (unit : Option UnitNo) : Machine.wholeLoad (stepFail t cause unit) ≤ Machine.wholeLoad s :=
  (stepFail_whole (h.planState.trans running) cause unit).trans h.wholeLoad

theorem askStart_whole {s : State} (running : s.progress.planState = .running) (u : UnitNo) :
    wholeLoad (askStart s u) ≤ wholeLoad s := by
  have again (t : State) : SameStep t (if t.progress.holds u .start then t else addIssue t u .start) := by
    split
    · exact .refl t
    · exact addIssue_step t u .start
  have settled (t : State) : SameStep t (t.setProgress { t.progress with toIssue := [] }) :=
    ⟨rfl, rfl, rfl, rfl, rfl, le_rfl⟩
  have joined (t : State) (l : List PlanOrder) : SameStep t (t.setProgress { t.progress with orders := l }) :=
    ⟨rfl, rfl, rfl, rfl, rfl, le_rfl⟩
  unfold askStart
  simp only
  split
  next asked => exact ((planStartRequest_step asked).trans ((settled _).trans (joined _ _))).wholeLoad
  next asked => exact ((planStartRequest_step asked).trans (settled _)).wholeLoad
  next asked => exact ((planStartRequest_step asked).trans (settled _)).wholeLoad
  next asked => exact (planStartRequest_step asked).fails running _ _
  next asked => exact ((planStartRequest_step asked).trans (again _)).wholeLoad
  next asked => exact (planStartRequest_step asked).fails running _ _
  next asked => exact (planStartRequest_step asked).fails running _ _
  next asked => exact ((planStartRequest_step asked).trans (again _)).wholeLoad
  next asked => exact (planStartRequest_step asked).fails running _ _
  next asked => exact ((planStartRequest_step asked).trans (again _)).wholeLoad

theorem requestOrder_step {s s' : State} {u : UnitNo} {k : OrderKind} {v : Option Nat} {st : Option (Fin 32)} {a : Answer}
    (asked : requestOrder s u k v .plan st = (s', a)) : SameStep s s' :=
  .of_seqr (requestOrder_seqr asked) (requestOrder_load (.inr (by decide)) asked)

theorem issueAll_whole (l : List (UnitNo × OrderKind)) (s : State) (running : s.progress.planState = .running) :
    wholeLoad (issueAll s l) ≤ wholeLoad s := by
  induction l generalizing s with
  | nil => exact le_rfl
  | cons x l ih =>
    unfold issueAll
    split
    next asked =>
      have made := requestOrder_step asked
      refine le_trans (ih _ ?_) (made.trans (setIssue_step _ _ _)).wholeLoad
      exact made.planState.trans running
    next asked => exact (requestOrder_step asked).fails running _ _
    next asked => exact (requestOrder_step asked).fails running _ _
    next asked => exact (ih _ ((requestOrder_step asked).planState.trans running)).trans (requestOrder_step asked).wholeLoad

theorem serveStep_whole {s : State} (running : s.progress.planState = .running) (t : Trigger) (added : Bool) :
    wholeLoad (serveStep s t added) ≤ wholeLoad s := by
  unfold serveStep
  split
  · split
    · exact askStart_whole running _
    · exact le_rfl
  · split
    · exact issueAll_whole _ s running
    · exact le_rfl

theorem followLists_whole (s : State) : wholeLoad (followLists s) ≤ wholeLoad s := by
  have same : planLoad (listsFollowed s.progress) = planLoad s.progress := by
    unfold listsFollowed
    split
    next open_ =>
      have stays : ∀ x : StepState, (x = .waiting ∨ x = .issued) →
          planLoad { s.progress with stepState := x } = planLoad s.progress := fun x at_ => by
        have was : s.progress.stepOpen = true := (stepOpen_iff _).mpr open_
        have still : ({ s.progress with stepState := x } : Progress).stepOpen = true := (stepOpen_iff _).mpr at_.symm
        unfold planLoad
        rw [was, still]
        rfl
      split
      · exact stays _ (.inl rfl)
      · exact stays _ (.inr rfl)
    · rfl
  rw [followLists_eq, wholeLoad, wholeLoad, load_setProgress, State.setProgress_progress, same]

/-- An event at a step leaves no more than there was: what it hands on, the step was counted for. -/
theorem stepEvent_whole (s : State) (t : Trigger) : wholeLoad (stepEvent s t) ≤ wholeLoad s := by
  unfold stepEvent
  simp only
  split
  · exact le_rfl
  next acts =>
    simp only [Bool.or_eq_true, Bool.not_eq_true', not_or, Bool.not_eq_false, Bool.not_eq_true] at acts
    obtain ⟨⟨runs, open_⟩, -⟩ := acts
    have ready := prepare_step s t
    have running : (prepare s t).progress.planState = .running :=
      ready.planState.trans (by simpa [State.planRunning] using runs)
    have still : (prepare s t).progress.stepOpen = true := by
      unfold Progress.stepOpen at open_ ⊢
      rwa [ready.stepState]
    refine le_trans ?_ ready.wholeLoad
    split
    · exact stepDone_whole running still
    · split
      · exact stepFail_whole running _ _
      · exact (followLists_whole _).trans (serveStep_whole running _ _)

/-! ## The plan ends, begins and moves on -/

theorem stripSteps_agenda (s : State) : (stripSteps s).agenda = s.agenda := rfl

theorem stripSteps_load (s : State) : load (stripSteps s) = load s := by
  have weighed : slotsLoad (stripSteps s) = slotsLoad s := by
    rw [slotsLoad, slotsLoad, weighSlots, weighSlots]
    refine Finset.sum_congr rfl fun i _ => ?_
    rw [stripSteps_slot]
    cases s.slot i <;> rfl
  rw [load, load, weighed, stripSteps_agenda]

theorem planEnded_load (s : State) (cause : Nat) : load (planEnded s cause) = load s := load_record _ _ _ _ _

theorem planAbort_load (s : State) (cause : Nat) (m : Mode) : load (planAbort s cause m) ≤ load s + 240 := by
  unfold planAbort
  simp only
  rw [stripSteps_load]
  refine (changeMode_load _ m).trans (Nat.add_le_add_right ?_ 240)
  rw [load_setProgress]
  refine (planRelease_load _ false).trans ?_
  rw [load_rise, planEnded_load]

theorem planAbort_whole {s : State} (running : s.progress.planState = .running) (cause : Nat) (m : Mode) :
    wholeLoad (planAbort s cause m) ≤ wholeLoad s := by
  have stopped : planLoad (planAbort s cause m).progress = 0 :=
    planLoad_of_stopped (by rw [planAbort_progress]; exact nofun)
  have counted := planLoad_of_running running
  have := planAbort_load s cause m
  rw [wholeLoad, wholeLoad, stopped]
  omega

theorem noteLeftOpen_load (s : State) (u : UnitNo) : load (noteLeftOpen s u) = load s := load_record _ _ _ _ _

theorem planComplete_load (s : State) : load (planComplete s) ≤ load s := by
  unfold planComplete
  simp only
  rw [stripSteps_load]
  refine (changeMode_orders_load _ rfl).trans ?_
  rw [load_setProgress]
  refine (load_foldl_le (fun s u => (noteLeftOpen_load s u).le) _ _).trans ?_
  exact (planRelease_load _ true).trans (planEnded_load s 0).le

theorem planComplete_whole (s : State) : wholeLoad (planComplete s) ≤ load s := by
  have stopped : planLoad (planComplete s).progress = 0 :=
    planLoad_of_stopped (by rw [planComplete_progress]; exact nofun)
  rw [wholeLoad, stopped, Nat.add_zero]
  exact planComplete_load s

theorem beginCloseUnit_whole {s : State} (running : s.progress.planState = .running) (u : UnitNo) :
    wholeLoad (beginCloseUnit s u) ≤ wholeLoad s := by
  have claimed : SameStep s (if (s.unit u).kind == .feeder then claim s u else s) := by
    split
    · exact .of_seqr (claim_seqr s u) (claim_load s u).le
    · exact .refl s
  have wanted (t : State) : SameStep t (if (t.unit u).readsClosed then t else addIssue t u .close) := by
    split
    · exact .refl t
    · exact addIssue_step t u .close
  unfold beginCloseUnit
  simp only
  split
  · exact (stepEvent_whole _ _).trans (claimed.trans (wanted _)).wholeLoad
  · exact stepFail_whole running _ _

theorem setMembers_step (s : State) (l : List UnitNo) : SameStep s (s.setProgress { s.progress with members := l }) :=
  ⟨rfl, rfl, rfl, rfl, rfl, le_rfl⟩

theorem limitSweep_step (s : State) (pct : Nat) : SameStep s (limitSweep s pct) :=
  .of_seqr (limitSweep_duties s pct).apart.seqr (limitSweep_load s pct)

theorem beginAction_whole {s : State} (running : s.progress.planState = .running) :
    wholeLoad (beginAction s) ≤ wholeLoad s := by
  unfold beginAction
  simp only
  split
  · refine (planComplete_whole _).trans ?_
    rw [load_setProgress]
    exact Nat.le_add_right _ _
  · exact beginCloseUnit_whole running _
  · exact stepFail_whole running _ _
  · exact (stepEvent_whole _ _).trans (setMembers_step s _).wholeLoad
  · exact (stepEvent_whole _ _).trans (limitSweep_step s _).wholeLoad
  · exact stepFail_whole running _ _
  · exact stepEvent_whole s _

/-- A step begun is counted for as an open one, with the beginnings that are left after it. -/
theorem begun_whole {s : State} (running : s.progress.planState = .running) (k : Fin 32) (attempt : Nat) :
    wholeLoad (s.setProgress (begunProgress s k attempt)) =
      load s + (170 + 171 * beginsLeft (begunProgress s k attempt) + 240) := by
  have open_ : (begunProgress s k attempt).stepOpen = true := rfl
  rw [wholeLoad, load_setProgress, State.setProgress_progress, planLoad_of_running (p := begunProgress s k attempt) running,
    open_, if_pos rfl]

theorem beginPlan_whole {s : State} (running : s.progress.planState = .running) :
    wholeLoad (beginPlan s) ≤ load s + (170 + 171 * beginsLeft (begunProgress s 0 1) + 240) := by
  rw [← begun_whole running]
  have still : (s.setProgress (begunProgress s 0 1)).progress.planState = .running := running
  unfold beginPlan
  simp only
  split
  · exact planAbort_whole still _ _
  · exact beginAction_whole still

theorem planLoad_moved {p : Progress} (running : p.planState = .running) {n : Nat} (fewer : n + 1 ≤ beginsLeft p) :
    170 + 171 * n + 240 ≤ planLoad p := by
  rw [planLoad_of_running running]
  omega

theorem stepBegin_whole {s : State} (running : s.progress.planState = .running) (k attempt : Nat)
    (fewer : ∀ h : k < 32, beginsLeft (begunProgress s ⟨k, h⟩ attempt) + 1 ≤ beginsLeft s.progress) :
    wholeLoad (stepBegin s k attempt) ≤ wholeLoad s := by
  unfold stepBegin
  split
  next h =>
    split
    · exact planAbort_whole running _ _
    · refine (beginAction_whole (s := s.setProgress (begunProgress s ⟨k, h⟩ attempt)) running).trans ?_
      rw [begun_whole running]
      exact Nat.add_le_add_left (planLoad_moved running (fewer h)) _
  · exact planAbort_whole running _ _

/-- The next step, or the next attempt, has fewer beginnings after it. -/
theorem beginsLeft_next (s : State) (h : s.progress.current.val + 1 < 32) :
    beginsLeft (begunProgress s ⟨s.progress.current.val + 1, h⟩ 1) + 1 ≤ beginsLeft s.progress := by
  have left : beginsLeft (begunProgress s ⟨s.progress.current.val + 1, h⟩ 1) =
      (if s.progress.restartPending then 100 else 0) + 3 * (31 - (s.progress.current.val + 1)) + (3 - 1) := rfl
  rw [left, beginsLeft]
  omega

theorem beginsLeft_again (s : State) (more : s.progress.attempt < 3) (h : s.progress.current.val < 32) :
    beginsLeft (begunProgress s ⟨s.progress.current.val, h⟩ (s.progress.attempt + 1)) + 1 ≤ beginsLeft s.progress := by
  have left : beginsLeft (begunProgress s ⟨s.progress.current.val, h⟩ (s.progress.attempt + 1)) =
      (if s.progress.restartPending then 100 else 0) + 3 * (31 - s.progress.current.val) + (3 - (s.progress.attempt + 1)) := rfl
  rw [left, beginsLeft]
  omega

theorem applyPolicy_whole {s : State} (running : s.progress.planState = .running) : wholeLoad (applyPolicy s) ≤ wholeLoad s := by
  unfold applyPolicy
  simp only
  split
  · split
    next more => exact stepBegin_whole running _ _ (beginsLeft_again s more)
    next => exact planAbort_whole running _ _
  · exact stepBegin_whole running _ _ (beginsLeft_next s)
  · exact planAbort_whole running _ _

theorem planAdvance_whole (s : State) : wholeLoad (planAdvance s) ≤ wholeLoad s := by
  unfold planAdvance
  simp only
  split
  · exact le_rfl
  next acts =>
    simp only [Bool.or_eq_true, Bool.not_eq_true', not_or, Bool.not_eq_false] at acts
    obtain ⟨⟨⟨runs, -⟩, -⟩, -⟩ := acts
    have running : s.progress.planState = .running := by simpa [State.planRunning] using runs
    split
    next pending =>
      obtain ⟨t, swept⟩ : ∃ t, t = limitSweep (s.setProgress { s.progress with restartPending := false }) 0 := ⟨_, rfl⟩
      have step : SameStep (s.setProgress { s.progress with restartPending := false }) t := swept ▸ limitSweep_step _ 0
      have lighter : load t ≤ load s := step.lighter
      have restart : t.progress.restartPending = false := step.restart
      have left : beginsLeft (begunProgress t 0 1) + 1 ≤ beginsLeft s.progress := by
        have after_ : beginsLeft (begunProgress t 0 1) = (if t.progress.restartPending then 100 else 0) + 3 * 31 + 2 := rfl
        rw [after_, restart, beginsLeft, if_pos pending]
        simp
        omega
      have begun := beginPlan_whole (s := t) (step.planState.trans running)
      have counted := planLoad_moved running left
      have total : wholeLoad s = load s + planLoad s.progress := rfl
      rw [← swept]
      omega
    · split
      · exact stepBegin_whole running _ _ (beginsLeft_next s)
      · exact applyPolicy_whole running

/-! ## Ends and notices at the Sequencer -/

theorem wholeLoad_defer (s : State) : wholeLoad (s.defer .planAdvance) = wholeLoad s + 1 := by
  rw [wholeLoad, wholeLoad, load_defer, progress_defer]
  simp only [taskLoad]
  omega

theorem seqEnd_whole (s : State) (i : SlotNo) (o : Order) (e : OrderEnd) : wholeLoad (seqEnd s i o e) ≤ wholeLoad s + 1 := by
  have noted : SameStep s (s.setProgress (endNoted s.progress ⟨i, o.target, o.kind⟩ e)) := ⟨rfl, rfl, rfl, rfl, rfl, le_rfl⟩
  unfold seqEnd
  simp only
  split
  · exact Nat.le_succ _
  next acts =>
    simp only [Bool.or_eq_true, Bool.not_eq_true', not_or, Bool.not_eq_false] at acts
    obtain ⟨runs, -⟩ := acts
    have running : s.progress.planState = .running := by simpa [State.planRunning] using runs
    rw [wholeLoad_defer]
    refine Nat.succ_le_succ ((followLists_whole _).trans ?_)
    split
    · split
      · exact noted.wholeLoad
      · exact noted.fails running _ _
    · exact (stepEvent_whole _ _).trans noted.wholeLoad

theorem cancelNoticed_whole (s : State) : wholeLoad (cancelNoticed s) ≤ wholeLoad s + 1 := by
  have noted : SameStep s (s.setProgress { s.progress with cancelPending := false }) := ⟨rfl, rfl, rfl, rfl, rfl, le_rfl⟩
  unfold cancelNoticed
  split
  · exact Nat.le_succ _
  next acts =>
    have running : s.progress.planState = .running := by simpa [State.planRunning] using acts
    simp only
    rw [wholeLoad_defer]
    exact Nat.succ_le_succ (noted.fails running _ _)

/-! ## The hand-offs taken -/

theorem handEnd_whole (s : State) (job : Job) (i : SlotNo) (o : Order) (e : OrderEnd) :
    wholeLoad (handEnd s job i o e) ≤ wholeLoad s + 3 := by
  cases job with
  | allocator => exact Nat.le_add_right _ _
  | dispatcher => exact wholeLoad_of_seqr (dispatcherEnd_duties s i o e).apart.seqr (dispatcherEnd_load s i o e)
  | shed => exact wholeLoad_of_seqr (shedOrderEnd_seqr s i o e) ((shedOrderEnd_load s i o e).trans (Nat.le_add_right _ _))
  | sequencer => exact (seqEnd_whole s i o e).trans (Nat.add_le_add_left (by decide) _)

theorem handRelease_whole (s : State) (job : Job) : wholeLoad (handRelease s job) ≤ wholeLoad s := by
  cases job with
  | allocator => exact le_rfl
  | dispatcher => exact wholeLoad_le_of_seqr (dispatcherRelease_duties s).apart.seqr (dispatcherRelease_load s)
  | shed => exact wholeLoad_le_of_seqr (servePending_seqr s) (servePending_load s)
  | sequencer => exact stepEvent_whole s _

theorem handCompletion_whole (s : State) (job : Job) : wholeLoad (handCompletion s job) ≤ wholeLoad s + 71 := by
  cases job with
  | allocator =>
    exact wholeLoad_of_seqr (allocatorCompletion_duties s).apart.seqr ((allocatorCompletion_load s).trans (Nat.le_add_right _ _))
  | dispatcher => exact wholeLoad_of_seqr (dispatcherCompletion_duties s).apart.seqr (dispatcherCompletion_load s)
  | shed => exact wholeLoad_of_seqr (shedCompletion_seqr s) ((shedCompletion_load s).trans (Nat.le_add_right _ _))
  | sequencer => exact (stepEvent_whole s _).trans (Nat.le_add_right _ _)

/-- A hand-off taken leaves less than it was counted for. -/
theorem handleTask_whole (s : State) (t : Task) : wholeLoad (handleTask s t) + 1 ≤ wholeLoad s + taskLoad t := by
  cases t with
  | ended job i o e => exact Nat.succ_le_succ (handEnd_whole s job i o e)
  | released job u => exact Nat.succ_le_succ (handRelease_whole s job)
  | completion job => exact Nat.succ_le_succ ((handCompletion_whole s job).trans (Nat.add_le_add_left (by decide) _))
  | dispatchChange u left entered => exact Nat.succ_le_succ (stepEvent_whole s _)
  | cancelNotice => exact Nat.succ_le_succ (cancelNoticed_whole s)
  | planAdvance => exact Nat.succ_le_succ (planAdvance_whole s)

theorem wholeLoad_agenda (s : State) (l : List Task) :
    wholeLoad { s with agenda := l } = slotsLoad s + tasksLoad l + planLoad s.progress := rfl

/-- Within what the state is counted for, the hand-offs come to an end. -/
theorem drain_ends (n : Nat) (s : State) (enough : wholeLoad s ≤ n) : (drain n s).agenda = [] := by
  induction n generalizing s with
  | zero =>
    have none : tasksLoad s.agenda = 0 := by
      have := tasksLoad_le_load s
      rw [wholeLoad] at enough
      omega
    show s.agenda = []
    cases agenda : s.agenda with
    | nil => rfl
    | cons t rest =>
      rw [agenda, tasksLoad_cons] at none
      cases t <;> simp [taskLoad] at none
  | succ n ih =>
    unfold drain
    split
    next empty => exact empty
    next t rest agenda =>
      refine ih _ ?_
      have taken := handleTask_whole { s with agenda := [] } t
      have before : wholeLoad s = slotsLoad s + (taskLoad t + tasksLoad rest) + planLoad s.progress := by
        rw [← tasksLoad_cons, ← agenda]
        rfl
      have emptied : wholeLoad { s with agenda := [] } = slotsLoad s + 0 + planLoad s.progress := wholeLoad_agenda s []
      generalize left : handleTask { s with agenda := [] } t = s' at taken
      have parts : wholeLoad s' = slotsLoad s' + tasksLoad s'.agenda + planLoad s'.progress := rfl
      rw [wholeLoad_agenda, tasksLoad_append]
      omega

/-- The hand-offs of a state with few of them are all taken. -/
theorem settle_ends {s : State} (few : load s ≤ 30000) : (settle s).agenda = [] := by
  refine drain_ends Config.cascadeFuel s ?_
  have := planLoad_le s.progress
  have fuel : Config.cascadeFuel = 65536 := rfl
  rw [wholeLoad, fuel]
  omega

end Sys2Proof.Machine
end

section
/-! CANCEL ORDERS (R77, R78): the ends of a widened scope, their hand-offs and the record of the cancellation. -/

namespace Sys2Proof.Machine

/-! ## The scope and the slots in it -/

/-- What a scope's code and argument ask of an order (R77). -/
def Asked (s : State) (code arg : Nat) (o : Order) : Prop :=
  code = 0 ∨ code = 1 ∧ (s.unit o.target).zone = arg ∨ code = 2 ∧ o.target.val = arg

/-- A scope is that of a code and an argument: its orders, the scope it reports, and the unit that its record names (R77, R78). -/
structure ScopeIs (sc : Scope) (code arg : Nat) : Prop where
  orders   : ∀ (s : State) (o : Order), inScope s sc o = true ↔ Asked s code arg o
  reported : ∀ s : State, (cancelReport s sc).scope =
    if code ≠ 0 ∧ (widened s sc).2.isEmpty = false then .stepWidened
    else if code = 0 then .all else if code = 1 then .zone else .unit
  recorded : ∀ (s : State) (c : Cancelled) (u : Option UnitNo), (code = 2 → u.map Fin.val = some arg) →
    (code ≠ 2 → u = none) → recordCancelled s sc c = if c.unsent + c.unknown = 0 then s else
      record s .ordersCancelled u (some ((c.unsent + c.unknown : Nat) : Int)) (some c.scope.code)

/-- A code and an argument in their ranges name a scope. -/
theorem scopeOf_good {code arg : Nat} (good : code = 0 ∨ code = 1 ∧ arg < 8 ∨ code = 2 ∧ arg < 64) :
    ∃ sc : Scope, scopeOf code arg = some sc ∧ ScopeIs sc code arg := by
  rcases good with rfl | ⟨rfl, small⟩ | ⟨rfl, small⟩
  · refine ⟨.all, rfl, fun s o => by simp [inScope, Asked], fun s => by simp [cancelReport], fun s c u _ unitNone => ?_⟩
    obtain rfl := unitNone (by decide)
    rfl
  · refine ⟨.zone arg, if_pos small, fun s o => by simp [inScope, Asked], fun s => by simp [cancelReport], fun s c u _ unitNone => ?_⟩
    obtain rfl := unitNone (by decide)
    rfl
  · refine ⟨.unit ⟨arg, small⟩, by simp [scopeOf, unitNo, small], fun s o => by simp [inScope, Asked, Fin.ext_iff],
      fun s => by simp [cancelReport], fun s c u unitIs _ => ?_⟩
    obtain ⟨n, rfl, same⟩ := Option.map_eq_some_iff.mp (unitIs rfl)
    obtain rfl : n = ⟨arg, small⟩ := Fin.ext same
    rfl

theorem scopeOf_bad {code arg : Nat} (bad : 2 < code ∨ code = 1 ∧ 8 ≤ arg ∨ code = 2 ∧ 64 ≤ arg) :
    scopeOf code arg = none := by
  rcases bad with large | ⟨rfl, large⟩ | ⟨rfl, large⟩
  · unfold scopeOf
    split
    case h_4 => rfl
    all_goals omega
  · exact if_neg (by omega)
  · simp [scopeOf, unitNo, show ¬ arg < 64 by omega]

/-- A slot in the widened scope (R78). -/
def InWidened (s : State) (sc : Scope) (i : SlotNo) : Prop :=
  ∃ o : Order, s.slot i = some o ∧ (inScope s sc o = true ∨ ∃ (k : Fin 32) (j : SlotNo) (x : Order), o.planStep = some k ∧
    s.slot j = some x ∧ inScope s sc x = true ∧ x.planStep = some k)

theorem mem_inside {s : State} {sc : Scope} {i : SlotNo} {o : Order} :
    (i, o) ∈ (widened s sc).1 ↔ s.slot i = some o ∧ inScope s sc o = true := by
  simp [widened, mem_occupiedOrders]

theorem mem_added {s : State} {sc : Scope} {i : SlotNo} {o : Order} :
    (i, o) ∈ (widened s sc).2 ↔ s.slot i = some o ∧ inScope s sc o = false ∧ ∃ (k : Fin 32) (j : SlotNo) (x : Order),
      o.planStep = some k ∧ s.slot j = some x ∧ inScope s sc x = true ∧ x.planStep = some k := by
  simp only [widened, List.mem_filter, mem_occupiedOrders, Bool.and_eq_true, Bool.not_eq_true', Option.any_eq_true,
    List.contains_iff_mem, List.mem_filterMap, Prod.exists]
  constructor
  · rintro ⟨there, out, k, step, j, x, ⟨found, inn⟩, same⟩
    exact ⟨there, out, k, j, x, step, found, inn, same⟩
  · rintro ⟨there, out, k, j, x, step, found, inn, same⟩
    exact ⟨there, out, k, step, j, x, ⟨found, inn⟩, same⟩

theorem mem_widened {s : State} {sc : Scope} {i : SlotNo} {o : Order} :
    (i, o) ∈ (widened s sc).1 ++ (widened s sc).2 ↔ s.slot i = some o ∧ InWidened s sc i := by
  rw [List.mem_append, mem_inside, mem_added]
  constructor
  · rintro (⟨there, inn⟩ | ⟨there, -, same⟩)
    · exact ⟨there, o, there, .inl inn⟩
    · exact ⟨there, o, there, .inr same⟩
  · rintro ⟨there, p, found, reached⟩
    obtain rfl : o = p := Option.some.inj (there.symm.trans found)
    cases inn : inScope s sc o with
    | true => exact .inl ⟨there, rfl⟩
    | false => exact .inr ⟨there, rfl, reached.resolve_left (by simp [inn])⟩

/-- Widening adds a slot when the widened scope has one that is not in scope. -/
theorem added_isEmpty {s : State} {sc : Scope} : (widened s sc).2.isEmpty = false ↔
    ∃ (i : SlotNo) (o : Order), InWidened s sc i ∧ s.slot i = some o ∧ inScope s sc o = false := by
  rw [List.isEmpty_eq_false_iff_exists_mem, Prod.exists]
  refine exists_congr fun i => exists_congr fun o => ?_
  rw [mem_added]
  constructor
  · rintro ⟨there, out, same⟩
    exact ⟨⟨o, there, .inr same⟩, there, out⟩
  · rintro ⟨⟨p, found, reached⟩, there, out⟩
    obtain rfl : o = p := Option.some.inj (there.symm.trans found)
    exact ⟨there, out, reached.resolve_left (by simp [out])⟩

/-- The widened scope by the slots in scope. -/
theorem inWidened_iff {s : State} {sc : Scope} {inside : SlotNo → Bool}
    (isInside : ∀ i : SlotNo, inside i = true ↔ ∃ o : Order, s.slot i = some o ∧ inScope s sc o = true) (i : SlotNo) :
    InWidened s sc i ↔ inside i = true ∨ ∃ (j : SlotNo) (o x : Order) (k : Fin 32), s.slot i = some o ∧
      o.planStep = some k ∧ inside j = true ∧ s.slot j = some x ∧ x.planStep = some k := by
  rw [isInside]
  constructor
  · rintro ⟨o, there, inn | ⟨k, j, x, step, found, inn, same⟩⟩
    · exact .inl ⟨o, there, inn⟩
    · exact .inr ⟨j, o, x, k, there, step, (isInside j).mpr ⟨x, found, inn⟩, found, same⟩
  · rintro (⟨o, there, inn⟩ | ⟨j, o, x, k, there, step, inn, found, same⟩)
    · exact ⟨o, there, .inl inn⟩
    · obtain ⟨y, there', reached⟩ := (isInside j).mp inn
      obtain rfl : x = y := Option.some.inj (found.symm.trans there')
      exact ⟨o, there, .inr ⟨k, j, x, step, found, reached, same⟩⟩

/-- Widening adds a slot when one of the widened scope is not in scope, by the slots in scope. -/
theorem widens_iff {s : State} {sc : Scope} {inside w : SlotNo → Bool}
    (isInside : ∀ i : SlotNo, inside i = true ↔ ∃ o : Order, s.slot i = some o ∧ inScope s sc o = true)
    (named : ∀ i : SlotNo, w i = true ↔ InWidened s sc i) :
    (widened s sc).2.isEmpty = false ↔ ∃ i : SlotNo, w i = true ∧ inside i = false := by
  rw [added_isEmpty]
  refine exists_congr fun i => ?_
  rw [named]
  constructor
  · rintro ⟨o, reached, there, out⟩
    refine ⟨reached, Bool.eq_false_iff.mpr fun inn => ?_⟩
    obtain ⟨p, found, inn⟩ := (isInside i).mp inn
    obtain rfl : o = p := Option.some.inj (there.symm.trans found)
    rw [out] at inn
    cases inn
  · rintro ⟨reached, out⟩
    obtain ⟨o, there, -⟩ := id reached
    exact ⟨o, reached, there, Bool.eq_false_iff.mpr fun inn => by
      rw [(isInside i).mpr ⟨o, there, inn⟩] at out
      cases out⟩

/-! ## The ends of a cancellation -/

/-- The orders of certain slots with their ends, in ascending slot number. -/
def endsOf (s : State) (w : SlotNo → Bool) (e : SlotNo → Order → OrderEnd) : List (SlotNo × Order × OrderEnd) :=
  allSlots.filterMap fun i => (s.slot i).bind fun o => if w i then some (i, o, e i o) else none

theorem mem_endsOf {s : State} {w : SlotNo → Bool} {e : SlotNo → Order → OrderEnd} {x : SlotNo × Order × OrderEnd} :
    x ∈ endsOf s w e ↔ s.slot x.1 = some x.2.1 ∧ w x.1 = true ∧ x.2.2 = e x.1 x.2.1 := by
  simp only [endsOf, List.mem_filterMap, Option.bind_eq_some_iff, Option.ite_none_right_eq_some, Option.some.injEq]
  constructor
  · rintro ⟨i, -, o, there, named, rfl⟩
    exact ⟨there, named, rfl⟩
  · rintro ⟨there, named, ended⟩
    exact ⟨x.1, mem_allSlots _, x.2.1, there, named, by rw [← ended]⟩

theorem mem_endsOf_slots {s : State} {w : SlotNo → Bool} {e : SlotNo → Order → OrderEnd} {i : SlotNo} :
    i ∈ (endsOf s w e).map Prod.fst ↔ w i = true ∧ ∃ o : Order, s.slot i = some o := by
  rw [List.mem_map]
  constructor
  · rintro ⟨x, listed, rfl⟩
    obtain ⟨there, named, -⟩ := mem_endsOf.mp listed
    exact ⟨named, _, there⟩
  · rintro ⟨named, o, there⟩
    exact ⟨(i, o, e i o), mem_endsOf.mpr ⟨there, named, rfl⟩, rfl⟩

/-- The occupied slots chosen by their orders are those chosen by their numbers. -/
theorem occupied_ends {s : State} {p : SlotNo × Order → Bool} {w : SlotNo → Bool}
    (agree : ∀ (i : SlotNo) (o : Order), s.slot i = some o → p (i, o) = w i) (e : SlotNo → Order → OrderEnd) :
    ((occupiedOrders s).filter p).map (fun x => (x.1, x.2, e x.1 x.2)) = endsOf s w e := by
  rw [occupiedOrders, List.filter_filterMap, List.map_filterMap, endsOf]
  refine List.filterMap_congr fun i _ => ?_
  cases there : s.slot i with
  | none => rfl
  | some o =>
    have := agree i o there
    cases named : w i <;> simp [this, named]

theorem cancelEnds_eq {s : State} {sc : Scope} {w : SlotNo → Bool} (named : ∀ i : SlotNo, w i = true ↔ InWidened s sc i) :
    cancelEnds s sc = endsOf s w (cancelEnd s) := by
  refine occupied_ends (fun i o there => ?_) (cancelEnd s)
  rw [Bool.eq_iff_iff, named, List.contains_iff_mem]
  exact mem_widened.trans (and_iff_right there)

/-- The slots ended in one way are counted. -/
theorem endsOf_count (s : State) (w : SlotNo → Bool) (e : SlotNo → Order → OrderEnd) (q : OrderEnd → Bool) :
    ((endsOf s w e).filter fun x => q x.2.2).length =
      (allSlots.filter fun i => (s.slot i).any (fun o => q (e i o)) && w i).length := by
  rw [endsOf]
  induction allSlots with
  | nil => rfl
  | cons i l ih =>
    cases there : s.slot i with
    | none => simpa [there] using ih
    | some o =>
      cases named : w i
      · simpa [there, named] using ih
      · cases this : q (e i o) <;> simpa [there, named, this] using ih

/-- The slots of several ends are freed, and the others keep their orders. -/
theorem endMany_slots (s : State) (ends : List (SlotNo × Order × OrderEnd)) (later : List Task) (i : SlotNo) :
    ((endMany s ends later).slot i).map Order.content =
      if i ∈ ends.map Prod.fst then none else (s.slot i).map Order.content := by
  obtain ⟨t, work, ended⟩ := endMany_spec s ends later
  have slot : (endMany s ends later).slot i = t.slot i := by rw [ended]; rfl
  rw [slot, work.slots, freeAll_slot]
  split <;> rfl

theorem sameOutside_freeAll (ends : List (SlotNo × Order × OrderEnd)) (s : State) :
    SameOutsidePorts s (ends.foldl (fun s x => freeSlotAt s x.1) s) := by
  induction ends generalizing s with
  | nil => exact (PortWork.refl s).outside
  | cons x ends ih => exact (sameOutsidePorts_freeSlotAt s x.1).trans (ih _)

/-- Several ends are handed on, and nothing outside the ports and the orders changes but the hand-offs. -/
theorem endMany_handed (s : State) (ends : List (SlotNo × Order × OrderEnd)) (later : List Task) :
    SameOutsidePorts s { endMany s ends later with agenda := s.agenda } ∧
      (endMany s ends later).agenda = s.agenda ++
        (ends.flatMap (fun x => (endReceivers s x.2.1).map fun j => Task.ended j x.1 x.2.1 x.2.2) ++ later ++
          ends.flatMap fun x => (jobOrder s.schedule.jobs).map fun j => Task.released j x.2.1.target) := by
  obtain ⟨t, work, ended⟩ := endMany_spec s ends later
  have outside := (sameOutside_freeAll ends s).trans work.outside
  have receivers : (fun x : SlotNo × Order × OrderEnd => endTasks t x.1 x.2.1 x.2.2) =
      fun x => (endReceivers s x.2.1).map fun j => Task.ended j x.1 x.2.1 x.2.2 := by
    funext x
    rw [endTasks_eq, endReceivers_congr outside.units outside.schedule]
  have releases : (fun x : SlotNo × Order × OrderEnd => t.releasesOf x.2.1.target) =
      fun x => (jobOrder s.schedule.jobs).map fun j => Task.released j x.2.1.target := by
    funext x
    rw [State.releasesOf, outside.schedule]
  rw [ended]
  refine ⟨{ outside with agenda := rfl }, ?_⟩
  rw [← receivers, ← releases, ← outside.agenda]

/-! ## CANCEL ORDERS -/

theorem unsentYet_eq_true {s : State} {i : SlotNo} {o : Order} : unsentYet s i o = true ↔ o.state = .waitingRetry ∨
    o.state = .queued ∧ o.pendingPort = none ∧ i ∈ s.queue o.cls := by
  simp [unsentYet, State.unhanded, and_assoc]

theorem cancelEnds_length (s : State) (sc : Scope) : (cancelEnds s sc).length ≤ 12 := by
  simp only [cancelEnds, List.length_map]
  exact (List.length_filter_le _ _).trans (occupiedOrders_length s)

theorem cancelOrders_load (s : State) (sc : Scope) : load (cancelOrders s sc) ≤ load s + 250 := by
  have ended := endMany_load s (cancelEnds s sc) (if (cancelEnds s sc).any fun x => x.2.1.planStep.isSome then [.cancelNotice] else [])
  have few := cancelEnds_length s sc
  have notice : tasksLoad (if (cancelEnds s sc).any fun x => x.2.1.planStep.isSome then [.cancelNotice] else []) ≤ 10 := by
    split
    · decide
    · exact Nat.zero_le _
  refine ended.trans ?_
  omega

/-- What CANCEL ORDERS leaves before its hand-offs are taken (R77, R78). -/
structure OrdersCancelled (s v : State) (w : SlotNo → Bool) : Prop where
  outside : SameOutsidePorts s { v with agenda := s.agenda }
  agenda  : v.agenda = s.agenda ++
    ((endsOf s w (cancelEnd s)).flatMap (fun x => (endReceivers s x.2.1).map fun j => Task.ended j x.1 x.2.1 x.2.2) ++
      (if (endsOf s w (cancelEnd s)).any (fun x => x.2.1.planStep.isSome) then [.cancelNotice] else []) ++
      (endsOf s w (cancelEnd s)).flatMap fun x => (jobOrder s.schedule.jobs).map fun j => Task.released j x.2.1.target)
  slots   : ∀ i : SlotNo, (w i = true → v.slot i = none) ∧
    (w i = false → (v.slot i).map Order.content = (s.slot i).map Order.content)

theorem OrdersCancelled.same {s v : State} {w : SlotNo → Bool} (h : OrdersCancelled s v w) : v.units = s.units ∧
    v.events = s.events ∧ v.seqr = s.seqr ∧ v.shed = s.shed ∧ v.tracker = s.tracker := by
  obtain ⟨outside, -, -⟩ := h
  exact ⟨outside.units, outside.events, outside.seqr, outside.shed, outside.tracker⟩

theorem cancelOrders_cancelled {s : State} {sc : Scope} {w : SlotNo → Bool} (named : ∀ i : SlotNo, w i = true ↔ InWidened s sc i) :
    OrdersCancelled s (cancelOrders s sc) w := by
  have left : cancelOrders s sc = endMany s (cancelEnds s sc)
    (if (cancelEnds s sc).any fun x => x.2.1.planStep.isSome then [.cancelNotice] else []) := rfl
  rw [cancelEnds_eq named] at left
  obtain ⟨outside, agenda⟩ := endMany_handed s (endsOf s w (cancelEnd s))
    (if (endsOf s w (cancelEnd s)).any fun x => x.2.1.planStep.isSome then [.cancelNotice] else [])
  have slots := endMany_slots s (endsOf s w (cancelEnd s))
    (if (endsOf s w (cancelEnd s)).any fun x => x.2.1.planStep.isSome then [.cancelNotice] else [])
  rw [← left] at outside agenda slots
  refine ⟨outside, agenda, fun i => ?_⟩
  refine ⟨fun inn => ?_, fun out => ?_⟩
  · obtain ⟨o, there, -⟩ := (named i).mp inn
    exact Option.map_eq_none_iff.mp ((slots i).trans (if_pos (mem_endsOf_slots.mpr ⟨inn, o, there⟩)))
  · refine (slots i).trans (if_neg fun listed => ?_)
    have inn := (mem_endsOf_slots.mp listed).1
    rw [out] at inn
    cases inn

/-- The counts of a cancellation (R78). -/
theorem cancelReport_counts {s : State} {sc : Scope} {w : SlotNo → Bool} (named : ∀ i : SlotNo, w i = true ↔ InWidened s sc i) :
    (cancelReport s sc).unsent = (allSlots.filter fun i => (s.slot i).any (fun o => unsentYet s i o) && w i).length ∧
    (cancelReport s sc).unknown = (allSlots.filter fun i => (s.slot i).any (fun o => !unsentYet s i o) && w i).length := by
  have ways (i : SlotNo) (o : Order) : (cancelEnd s i o == .unsent .cancelled) = unsentYet s i o ∧
      (cancelEnd s i o == .outcomeUnknown) = !unsentYet s i o := by
    unfold cancelEnd
    cases unsentYet s i o <;> exact ⟨rfl, rfl⟩
  have unsent := endsOf_count s w (cancelEnd s) (· == .unsent .cancelled)
  have unknown := endsOf_count s w (cancelEnd s) (· == .outcomeUnknown)
  simp only [ways, ← cancelEnds_eq named] at unsent unknown
  exact ⟨unsent, unknown⟩

/-- Settles O57, by the slots of the widened scope, the hand-offs of their ends, and the record made once these are taken. -/
theorem cancelOrdersEndsTheWidenedScope : Obligations.CancelOrdersEndsTheWidenedScope := by
  refine ⟨fun s i o => ⟨endReceivers_takers s o, unsentYet_eq_true⟩, fun s r rest code arg head kind args => ?_⟩
  have fits : isKind 9 r = true := (isKind_iff 9 r).mpr ⟨by rw [kind]; rfl, by rw [kind, args]; rfl⟩
  refine ⟨fun bad => ?_, fun good inside w u isInside isWidened unitIs unitNone => ?_⟩
  · refine answered_of_unchanged head fits (handler := serveCancel) ?_ rfl
    simp only [serveCancel, args, scopeOf_bad bad]
    rfl
  obtain ⟨sc, found, scopeIs⟩ := scopeOf_good good
  generalize given : holdPlace (popRequest s rest) true = g
  have slot : g.slot = s.slot := by rw [← given]; rfl
  have unsentSame : unsentYet g = unsentYet s := by
    funext i o
    rw [← given]
    cases o with
    | mk _ _ _ _ _ cls => cases cls <;> rfl
  have receivers : endReceivers g = endReceivers s := by rw [← given]; rfl
  have isInside' (i : SlotNo) : inside i = true ↔ ∃ o : Order, g.slot i = some o ∧ inScope g sc o = true := by
    simp only [isInside, scopeIs.orders, Asked, ← given]
    rfl
  have named (i : SlotNo) : w i = true ↔ InWidened g sc i := by
    rw [isWidened, inWidened_iff isInside', slot]
  have widens := widens_iff isInside' named
  obtain ⟨units, events, seqr, shed, tracker⟩ := (cancelOrders_cancelled named).same
  obtain ⟨-, agenda, slots⟩ := cancelOrders_cancelled named
  obtain ⟨unsent, unknown⟩ := cancelReport_counts named
  have reported : (cancelReport g sc).scope = if code ≠ 0 ∧ ∃ i : SlotNo, w i = true ∧ inside i = false then .stepWidened
      else if code = 0 then .all else if code = 1 then .zone else .unit :=
    (scopeIs.reported g).trans (if_congr (and_congr_right fun _ => widens) rfl rfl)
  have recorded := scopeIs.recorded (settle (cancelOrders g sc)) (cancelReport g sc) u unitIs unitNone
  have quiet : (settle (cancelOrders g sc)).agenda = [] := by
    refine settle_ends ((cancelOrders_load g sc).trans ?_)
    have := load_le g
    have none : g.agenda = [] := by rw [← given]; exact head.ready.2
    rw [none] at this
    have : tasksLoad [] = 0 := rfl
    omega
  have ended : endsOf g w (cancelEnd g) = endsOf s w (cancelEnd s) := by
    simp only [endsOf, slot, cancelEnd, unsentSame]
  rw [ended, receivers, show g.agenda = [] by rw [← given]; exact head.ready.2, List.nil_append] at agenda
  rw [slot] at slots
  rw [slot, unsentSame] at unsent unknown
  have quiet' : (recordCancelled (settle (cancelOrders g sc)) sc (cancelReport g sc)).agenda = [] := by
    rw [recorded]
    split
    · exact quiet
    · exact (record_work _ _ _ _ _).outside.agenda.trans quiet
  refine ⟨cancelOrders g sc, recordCancelled (settle (cancelOrders g sc)) sc (cancelReport g sc), (cancelReport g sc).scope,
    (cancelReport g sc).unsent, (cancelReport g sc).unknown, endsOf s w (cancelEnd s), jobOrder g.schedule.jobs, ?_, recorded,
    fun some_ => ?_, reported, rfl, jobOrder_perm _, agenda, slots, unsent, unknown, ?_⟩
  · refine responds_of_served head fits (handler := serveCancel) ?_ (by rw [settle_nil quiet', quiet']) rfl
    rw [given]
    simp only [serveCancel, args, found]
  · rw [recorded, if_neg (by omega)]
    have code_is : (cancelReport g sc).scope.code =
        if code ≠ 0 ∧ ∃ i : SlotNo, w i = true ∧ inside i = false then 3 else code := by
      rw [reported]
      split
      · rfl
      · rcases good with rfl | ⟨rfl, -⟩ | ⟨rfl, -⟩ <;> rfl
    rw [← code_is]
    exact .of_record rfl rfl
  · exact ⟨units.trans (by rw [← given]; rfl), events.trans (by rw [← given]; rfl), seqr.trans (by rw [← given]; rfl),
      shed.trans (by rw [← given]; rfl), tracker.trans (by rw [← given]; rfl)⟩

end Sys2Proof.Machine
end

section
/-! A change of the engine mode (R191): what recording it leaves while both ports transmit, and its notices (R185). -/

namespace Sys2Proof.Machine

variable {s t u : State}

/-! ## Notices -/

/-- A REPORT entry that is a notice. -/
def ReportItem.IsNotice (x : ReportItem) : Prop := ∃ (g : Fin 8) (i : LogNo) (k : EventKind), x.body = .notice g i k

/-- The notices that a recorded event queues (R185). -/
def noticesOf (s : State) (k : EventKind) (i : LogNo) : List ReportItem :=
  (noticeAddresses s (s.events.routing.get k.index).dest).map fun a =>
    { dst := a.1, ports := PortSet.ofSide a.2, body := .notice (s.events.routing.get k.index).group i k }

theorem noticesOf_notice {k : EventKind} {i : LogNo} {x : ReportItem} (listed : x ∈ noticesOf s k i) : x.IsNotice := by
  obtain ⟨a, -, rfl⟩ := List.mem_map.mp listed
  exact ⟨_, _, _, rfl⟩

theorem judgeNotice_cases (s : State) (k : EventKind) (i : LogNo) : judgeNotice s k i = s ∨ judgeNotice s k i = { s with
    egress := { s.egress with report := s.egress.report ++ noticesOf s k i }
    events := { s.events with groups := s.events.groups.set (s.events.routing.get k.index).group true } } := by
  unfold judgeNotice
  simp only
  split
  · exact .inl rfl
  · exact .inr rfl

/-- With an address named, its group not outstanding and room for the notices, all of them are queued. -/
theorem judgeNotice_queues {s : State} {k : EventKind} {i : LogNo}
    (some_ : noticeAddresses s (s.events.routing.get k.index).dest ≠ [])
    (fresh : s.events.groups.get (s.events.routing.get k.index).group = false)
    (room : (noticeAddresses s (s.events.routing.get k.index).dest).length ≤ reportFree s) : judgeNotice s k i = { s with
      egress := { s.egress with report := s.egress.report ++ noticesOf s k i }
      events := { s.events with groups := s.events.groups.set (s.events.routing.get k.index).group true } } := by
  have test : ((noticeAddresses s (s.events.routing.get k.index).dest).isEmpty ||
      s.events.groups.get (s.events.routing.get k.index).group ||
      decide (reportFree s < (noticeAddresses s (s.events.routing.get k.index).dest).length)) = false := by
    simp [some_, fresh, room]
  unfold judgeNotice
  simp only
  rw [if_neg (by rw [test]; decide)]
  rfl

/-- What an event's record alone does to REPORT: notices join it. -/
theorem recordEntry_notices (s : State) (k : EventKind) (u : Option UnitNo) (x : Option Int) (d : Option Nat) :
    ∃ more : List ReportItem, (recordEntry s k u x d).egress.report = s.egress.report ++ more ∧ ∀ y ∈ more, y.IsNotice := by
  have judged (t : State) (i : LogNo) : ∃ more : List ReportItem,
      (judgeNotice t k i).egress.report = t.egress.report ++ more ∧ ∀ y ∈ more, y.IsNotice := by
    rcases judgeNotice_cases t k i with stays | queues
    · exact ⟨[], by rw [stays, List.append_nil], List.forall_mem_nil _⟩
    · exact ⟨_, by rw [queues], fun y listed => noticesOf_notice listed⟩
  have made := writeLog_made s (eventNow s k u x d)
  unfold recordEntry
  split
  next t left =>
    rw [left] at made
    exact ⟨[], (congrArg (fun t : State => t.egress.report) made).trans (List.append_nil _).symm, List.forall_mem_nil _⟩
  next t i left =>
    rw [left] at made
    obtain ⟨more, report, notices⟩ := judged t i
    have same := congrArg (fun t : State => t.egress.report) made
    exact ⟨more, report.trans (congrArg (· ++ more) same), notices⟩

/-! ## Recording while both ports transmit -/

/-- What recording events does on the bus while both ports transmit: notices join REPORT, and the orders stay. -/
structure NoticesJoin (s t : State) : Prop where
  busy   : Busy t
  orders : t.orders = s.orders
  queue  : ∀ c : QClass, t.queue c = s.queue c
  report : ∃ more : List ReportItem, t.egress.report = s.egress.report ++ more ∧ ∀ x ∈ more, x.IsNotice

theorem NoticesJoin.of_same (busy : Busy s) (frame : t.frame = s.frame) (orders : t.orders = s.orders)
    (egress : t.egress = s.egress) : NoticesJoin s t :=
  ⟨busy_of_frame busy frame, orders, fun c => by cases c <;> simp [State.queue, egress], [], by rw [egress, List.append_nil], List.forall_mem_nil _⟩

theorem NoticesJoin.refl (busy : Busy s) : NoticesJoin s s := .of_same busy rfl rfl rfl

theorem NoticesJoin.trans (a : NoticesJoin s t) (b : NoticesJoin t u) : NoticesJoin s u := by
  obtain ⟨more, report, notices⟩ := a.report
  obtain ⟨more', report', notices'⟩ := b.report
  refine ⟨b.busy, b.orders.trans a.orders, fun c => (b.queue c).trans (a.queue c), more ++ more', ?_, fun x listed => ?_⟩
  · rw [report', report, List.append_assoc]
  · exact (List.mem_append.mp listed).elim (notices x) (notices' x)

theorem NoticesJoin.recordEntry (busy : Busy s) (k : EventKind) (u : Option UnitNo) (x : Option Int) (d : Option Nat) :
    NoticesJoin s (Machine.recordEntry s k u x d) := by
  obtain ⟨orders, frame, queue⟩ := recordEntry_keeps s k u x d
  exact ⟨busy_of_frame busy frame, orders, queue, recordEntry_notices s k u x d⟩

theorem NoticesJoin.pressureRise (busy : Busy s) (before : State) : NoticesJoin s (Machine.pressureRise before s) := by
  unfold Machine.pressureRise
  split
  · have latched : NoticesJoin s (s.latch .queuePressure) := .of_same busy rfl rfl rfl
    exact latched.trans (.recordEntry latched.busy _ _ _ _)
  · exact .refl busy

theorem NoticesJoin.record (busy : Busy s) (k : EventKind) (u : Option UnitNo) (x : Option Int) (d : Option Nat) :
    NoticesJoin s (Machine.record s k u x d) := by
  have entry := NoticesJoin.recordEntry busy k u x d
  rw [Machine.record, joined_of_busy entry.busy]
  exact entry.trans (.pressureRise entry.busy s)

theorem NoticesJoin.rise (busy : Busy s) (c : Condition) : NoticesJoin s (Machine.rise s c) := by
  unfold Machine.rise
  split
  · exact .refl busy
  · have latched : NoticesJoin s (s.latch c) := .of_same busy rfl rfl rfl
    exact latched.trans (.record latched.busy _ _ _ _)

/-! ## The notices of the first record -/

/-- The first record's notices stay first, whatever joins REPORT after them. -/
theorem NoticesFirst.more {k : EventKind} {a b : List ReportItem} (h : NoticesFirst s t k a)
    (groups : ∀ g : Fin 8, t.events.groups.get g = true → u.events.groups.get g = true) : NoticesFirst s u k (a ++ b) := by
  intro x addrs route named some_ room fresh fits
  obtain ⟨outstanding, first, rest, split, perm⟩ := h x addrs route named some_ room fresh fits
  exact ⟨groups _ outstanding, first, rest ++ b, by rw [split, List.append_assoc], perm⟩

/-- The places of REPORT with one held for a response. -/
theorem reportFree_held (held : s.egress.held = true) : reportFree s = 16 - (s.egress.report.length + 1) := by
  simp [reportFree, held, Config.depth]

theorem noticeAddresses_eq (s : State) (d : Destination) : noticeAddresses s d =
    (if d = .primary ∨ d = .both then (s.access.primaryController.map fun a => (a, s.events.primarySide)).toList else []) ++
      (if d = .backup ∨ d = .both then (s.access.backupController.map fun a => (a, s.events.backupSide)).toList else []) := by
  cases d <;> simp [noticeAddresses]

/-- An event recorded while a place is held queues its notices first. -/
theorem recordEntry_noticesFirst (held : s.egress.held = true) (k : EventKind) (u : Option UnitNo) (x : Option Int)
    (d : Option Nat) : ∃ more : List ReportItem, (recordEntry s k u x d).egress.report = s.egress.report ++ more ∧
      (∀ y ∈ more, y.IsNotice) ∧ NoticesFirst s (recordEntry s k u x d) k more := by
  obtain ⟨more, report, notices⟩ := recordEntry_notices s k u x d
  refine ⟨more, report, notices, ?_⟩
  rintro r addrs rfl named some_ room fresh fits
  have addresses : noticeAddresses s (s.events.routing.get k.index).dest = addrs := (noticeAddresses_eq _ _).trans named.symm
  obtain ⟨w, written⟩ : ∃ w : State, w = { s with events := { s.events with
      log := s.events.log.set s.events.writeIndex (some (recordNow s k u x d))
      writeIndex := s.events.writeIndex + 1 } } := ⟨_, rfl⟩
  have judged := recordEntry_of_logOpen room k u x d
  rw [← written] at judged
  have same : noticeAddresses w (w.events.routing.get k.index).dest = addrs := by rw [← addresses, written]; rfl
  have queues := judgeNotice_queues (s := w) (k := k) (i := s.events.writeIndex) (by rwa [same]) (by rw [written]; exact fresh)
    (by
      rw [same, written]
      have := reportFree_held held
      show addrs.length ≤ reportFree s
      omega)
  have gains : (recordEntry s k u x d).egress.report = s.egress.report ++ noticesOf w k s.events.writeIndex := by
    rw [judged, queues, written]
  obtain rfl : more = noticesOf w k s.events.writeIndex := List.append_cancel_left (report.symm.trans gains)
  refine ⟨?_, noticesOf w k s.events.writeIndex, [], (List.append_nil _).symm, ?_⟩
  · rw [judged, queues, written]
    simp [vectorGet_set]
  · rw [noticesOf, same, List.map_map, written]
    exact .refl _

/-- The same with all that recording an event does. -/
theorem record_noticesFirst (busy : Busy s) (held : s.egress.held = true) (k : EventKind) (u : Option UnitNo) (x : Option Int)
    (d : Option Nat) : ∃ more : List ReportItem, (record s k u x d).egress.report = s.egress.report ++ more ∧
      (∀ y ∈ more, y.IsNotice) ∧ NoticesFirst s (record s k u x d) k more := by
  obtain ⟨more, report, notices, first⟩ := recordEntry_noticesFirst held k u x d
  have entry := NoticesJoin.recordEntry busy k u x d
  have rises := NoticesJoin.pressureRise entry.busy s
  have work := pressureRise_work s (recordEntry s k u x d)
  rw [record, joined_of_busy entry.busy]
  obtain ⟨more', report', notices'⟩ := rises.report
  refine ⟨more ++ more', by rw [report', report, List.append_assoc], fun y listed => ?_, first.more work.groups⟩
  exact (List.mem_append.mp listed).elim (notices y) (notices' y)

end Sys2Proof.Machine
end

section
/-! The orders at a change of the engine mode (R79): the unsent ones ended, the owed copies dropped, the others kept. -/

namespace Sys2Proof.Machine

variable {s t u v w : State} {i j : SlotNo} {o x : Order} {p : Port}

/-! ## An order that no queue holds -/

/-- An order stands in its slot, in no queue and not in the waiting line. -/
structure Unqueued (i : SlotNo) (o : Order) (t : State) : Prop where
  slot    : t.slot i = some o
  waiting : i ∉ t.orders.waiting
  queue   : ∀ c : QClass, i ∉ t.queue c

theorem Unqueued.of_same (h : Unqueued i o t) (slot : u.slot i = t.slot i) (waiting : u.orders.waiting = t.orders.waiting)
    (queue : ∀ c : QClass, u.queue c = t.queue c) : Unqueued i o u :=
  ⟨slot.trans h.slot, by rw [waiting]; exact h.waiting, fun c => by rw [queue]; exact h.queue c⟩

theorem Unqueued.dequeue (h : Unqueued i o t) (j : SlotNo) : Unqueued i o (t.dequeue j) := by
  refine ⟨h.slot, fun still => h.waiting (List.mem_of_mem_filter still), fun c still => h.queue c ?_⟩
  cases c with
  | urgent | dispatch | setpoint => exact List.mem_of_mem_filter still
  | report => exact still

theorem Unqueued.setSlot (h : Unqueued i o t) (other : i ≠ j) (x : Option Order) : Unqueued i o (t.setSlot j x) :=
  h.of_same (slot_setSlot_ne other t x) rfl fun c => by cases c <;> rfl

theorem Unqueued.freed (h : Unqueued i o t) (other : i ≠ j) : Unqueued i o (freeSlotAt t j) :=
  (h.dequeue j).setSlot other none

theorem Unqueued.refill (h : Unqueued i o t) : Unqueued i o (Machine.refill t) := by
  refine refill_keeps (P := Unqueued i o) ?_ h
  intro t j x _ waits h
  have apart : i ≠ j := fun same => h.waiting (same ▸ waits)
  refine ⟨?_, ?_, fun c => ?_⟩
  · rw [joinQueue_slot, if_neg apart]
    exact h.slot
  · rw [joinQueue_waiting]
    exact fun still => h.waiting (List.mem_of_mem_filter still)
  · have out := h.queue c
    rw [joinQueue_queue]
    split
    · refine fun still => (List.mem_append.mp still).elim (fun old => out ?_) (fun new => apart (List.mem_singleton.mp new))
      cases c <;> exact old
    · cases c <;> exact out

theorem Unqueued.hand (h : Unqueued i o t) (other : i ≠ j) (there : t.slot j = some x) : Unqueued i o (handOrder t p j) := by
  have taken := handedTo_taken t p j x
  rw [handOrder_eq there]
  refine Unqueued.refill ⟨(taken.others i other).trans h.slot, by rw [taken.waiting]; exact h.waiting, fun c => ?_⟩
  rw [taken.queue]
  split
  · exact fun still => h.queue c (List.mem_of_mem_filter still)
  · exact h.queue c

theorem Unqueued.report (h : Unqueued i o t) {k : Nat} {r : ReportItem} (there : t.egress.report[k]? = some r) :
    Unqueued i o (handReport t p k) := by
  have taken := handReport_taken (p := p) there
  exact h.of_same (slot_of_slots (congrArg Transactor.slots taken.orders) i) (by rw [taken.orders]) taken.queue

theorem Unqueued.pointer (h : Unqueued i o t) (k : Fin 16) : Unqueued i o (t.setPhase p k) := by
  refine h.of_same (setPhase_slot t p k i) ?_ fun c => ?_
  · cases p <;> rfl
  · cases p <;> cases c <;> rfl

/-- The grants hand on what the queues hold, and no other order. -/
theorem Unqueued.pump (h : Unqueued i o t) : Unqueued i o (Machine.pump t) := by
  refine pumpN_keeps (P := Unqueued i o) ?_ _ h
  intro t u p _ offered h
  have apart {c : QClass} {j : SlotNo} (found : itemOf t p c = some (.order j)) : i ≠ j := by
    rintro rfl
    obtain ⟨d, queued⟩ := mem_queue_of_item found
    exact h.queue d queued
  rcases offerOpen_cases offered with ⟨j, found, rfl⟩ | ⟨y, k, c, -, found, rfl⟩
  · have item : itemOf t p .urgent = some (.order j) := by simp [itemOf, found]
    obtain ⟨x, there⟩ := itemOf_there item
    exact h.hand (apart item) there
  · have entry := itemOf_there found
    cases y with
    | order j =>
      obtain ⟨x, there⟩ := entry
      exact (h.pointer k).hand (apart found) ((setPhase_slot t p k j).trans there)
    | report n =>
      obtain ⟨r, there⟩ := entry
      exact (h.pointer k).report (by rw [setPhase_report]; exact there)

/-! ## Owed copies are dropped -/

/-- An order dropped from the queues stays out of them while other owed copies are dropped. -/
theorem Unqueued.dropOne (h : Unqueued i o t) {y : SlotNo × Order} (other : i ≠ y.1) : Unqueued i o (Machine.dropOne t y) := by
  unfold Machine.dropOne
  split
  · exact (h.dequeue y.1).setSlot other _
  · exact h

theorem unqueued_of_owed (owed : o.pendingPort ≠ none) (t : State) :
    Unqueued i { o with pendingPort := none } (dropOne t (i, o)) := by
  have some_ : o.pendingPort.isSome = true := Option.isSome_iff_ne_none.mpr owed
  unfold dropOne
  simp only
  rw [if_pos some_]
  refine ⟨slot_setSlot_self _ i _, ?_, fun c => ?_⟩
  · simp [State.dequeue]
  · cases c <;> simp [State.dequeue, State.queue]

/-- An owed copy is in no queue once the owed copies are dropped (R79). -/
theorem dropOwed_unqueued (there : s.slot i = some o) (owed : o.pendingPort ≠ none) :
    Unqueued i { o with pendingPort := none } (dropOwed s) := by
  have main : ∀ (l : List (SlotNo × Order)) (t : State), (l.map Prod.fst).Nodup → (i, o) ∈ l →
      Unqueued i { o with pendingPort := none } (l.foldl dropOne t) := by
    intro l
    induction l with
    | nil => exact fun _ _ listed => absurd listed List.not_mem_nil
    | cons x l ih =>
      intro t once listed
      obtain ⟨fresh, once⟩ := List.nodup_cons.mp once
      rcases List.mem_cons.mp listed with rfl | later
      · have rest (m : List (SlotNo × Order)) (absent : i ∉ m.map Prod.fst) :
            ∀ t : State, Unqueued i { o with pendingPort := none } t →
              Unqueued i { o with pendingPort := none } (m.foldl dropOne t) := by
          induction m with
          | nil => exact fun _ h => h
          | cons y m ih' =>
            rw [List.map_cons, List.mem_cons, not_or] at absent
            exact fun t h => ih' absent.2 _ (h.dropOne absent.1)
        exact rest l fresh _ (unqueued_of_owed owed t)
      · exact ih _ once later
  exact main _ s (occupiedOrders_nodup s) (mem_occupiedOrders.mpr there)

/-! ## The orders discarded -/

theorem discardEnds_eq (s : State) : discardEnds s = endsOf s (fun i => (s.slot i).any (unsentYet s i)) (fun _ _ => .unsent .discarded) :=
  occupied_ends (s := s) (p := fun x => unsentYet s x.1 x.2) (w := fun i => (s.slot i).any (unsentYet s i))
    (fun i o there => by simp [there]) fun _ _ => .unsent .discarded

theorem mem_discardEnds : i ∈ (discardEnds s).map Prod.fst ↔ ∃ o : Order, s.slot i = some o ∧ unsentYet s i o = true := by
  rw [discardEnds_eq, mem_endsOf_slots]
  constructor
  · rintro ⟨unsent, o, there⟩
    exact ⟨o, there, by simpa [there] using unsent⟩
  · rintro ⟨o, there, unsent⟩
    exact ⟨by simpa [there] using unsent, o, there⟩

theorem discardOrders_slots (s : State) (i : SlotNo) : ((discardOrders s).slot i).map Order.content =
    if i ∈ (discardEnds s).map Prod.fst then none else (s.slot i).map Order.content := by
  refine (endMany_slots (dropOwed s) (discardEnds s) [] i).trans ?_
  rw [(dropOwed_work s).slots]

theorem Unqueued.freeAll (h : Unqueued i o t) {ends : List (SlotNo × Order × OrderEnd)} (absent : i ∉ ends.map Prod.fst) :
    Unqueued i o (ends.foldl (fun s x => freeSlotAt s x.1) t) := by
  induction ends generalizing t with
  | nil => exact h
  | cons x ends ih =>
    rw [List.map_cons, List.mem_cons, not_or] at absent
    exact ih (h.freed absent.1) absent.2

theorem Unqueued.endMany (h : Unqueued i o t) {ends : List (SlotNo × Order × OrderEnd)} (absent : i ∉ ends.map Prod.fst)
    (later : List Task) : Unqueued i o (Machine.endMany t ends later) :=
  ((h.freeAll absent).refill.pump).of_same rfl rfl fun c => by cases c <;> rfl

/-- The discards of a change of mode (R79). -/
theorem discardOrders_discards (quiet : s.agenda = []) : OrdersDiscarded s (discardOrders s) false := by
  have slots := discardOrders_slots s
  refine ⟨fun i free => ?_, fun i o there unsent => ?_, fun i o there sent => ?_, fun i o o' there sent owed now => ?_, ?_⟩
  · have := slots i
    rw [free] at this
    exact Option.map_eq_none_iff.mp (this.trans (ite_self _))
  · exact Option.map_eq_none_iff.mp ((slots i).trans (if_pos (mem_discardEnds.mpr ⟨o, there, unsent⟩)))
  · refine (slots i).trans ((if_neg ?_).trans (by rw [there]; rfl))
    rw [mem_discardEnds]
    rintro ⟨x, found, unsent⟩
    rw [Option.some.inj (found.symm.trans there), sent] at unsent
    cases unsent
  · have absent : i ∉ (discardEnds s).map Prod.fst := by
      rw [mem_discardEnds]
      rintro ⟨x, found, unsent⟩
      rw [Option.some.inj (found.symm.trans there), sent] at unsent
      cases unsent
    obtain ⟨slot, -, queue⟩ := (dropOwed_unqueued there owed).endMany absent []
    obtain rfl := Option.some.inj (now.symm.trans slot)
    exact ⟨rfl, queue⟩
  · have ends : endsOf s (fun i => (s.slot i).any (unsentYet s i)) (fun _ _ => .unsent .discarded) =
        allSlots.filterMap (fun i => (s.slot i).bind fun o =>
          if unsentYet s i o then some (i, o, .unsent .discarded) else none) := by
      refine List.filterMap_congr fun i _ => ?_
      cases there : s.slot i with
      | none => rfl
      | some o => simp [there]
    obtain ⟨-, agenda⟩ := endMany_handed (dropOwed s) (discardEnds s) []
    have dropped := (dropOwed_work s).outside
    refine ⟨_, jobOrder (dropOwed s).schedule.jobs, ends, jobOrder_perm _, ?_⟩
    rw [← discardEnds_eq]
    refine agenda.trans ?_
    rw [dropped.agenda, quiet, List.nil_append, List.append_nil]
    simp only [endReceivers_congr dropped.units dropped.schedule]

end Sys2Proof.Machine
end

section
/-! A change of the engine mode (R191): the state it reaches before its orders are discarded, by the event recorded first. -/

namespace Sys2Proof.Machine

variable {s t u v w : State} {k : EventKind} {x : Option Int} {d : Option Nat}

/-! ## The blocks that a change of mode rewrites -/

/-- The state with the blocks that a change of mode or the end of a plan rewrites. -/
def State.rewritten (s : State) (t : State) : State :=
  { s with tracker := t.tracker, units := t.units, shed := t.shed, seqr := t.seqr, service := t.service }

theorem RecordWork.rewrite (h : RecordWork s t) (w : State) : RecordWork (s.rewritten w) (t.rewritten w) := by
  obtain ⟨outside, latched, log, routing, primarySide, backupSide, groups, station, delivered, up, rx, buffer, phases, held,
    counters, slots, waiting, sent⟩ := h
  refine ⟨?_, latched, log, routing, primarySide, backupSide, groups, station, delivered, fun p => ?_, fun p => ?_, fun p => ?_, phases,
    held, counters, slots, waiting, sent⟩
  · exact { outside with tracker := rfl, units := rfl, shed := rfl, seqr := rfl, service := rfl }
  · cases p
    · exact up .pa
    · exact up .pb
  · cases p
    · exact rx .pa
    · exact rx .pb
  · cases p
    · exact buffer .pa
    · exact buffer .pb

/-- A state reached by recording an event first, then other events, and by rewriting the blocks of a change of mode: the log, the
orders and REPORT. -/
structure Recorded (s t : State) (k : EventKind) (x : Option Int) (d : Option Nat) : Prop where
  work    : RecordWork (s.rewritten t) t
  first   : logOpen s → t.events.log.get s.events.writeIndex = some (recordNow s k none x d)
  notices : Busy s → ∃ more : List ReportItem, t.egress.report = s.egress.report ++ more ∧ (∀ y ∈ more, y.IsNotice) ∧
    NoticesFirst s t k more
  joined  : Busy s → NoticesJoin s t

theorem Recorded.record (held : s.egress.held = true) (k : EventKind) (x : Option Int) (d : Option Nat) :
    Recorded s (Machine.record s k none x d) k x d := by
  have work := record_work s k none x d
  refine ⟨?_, fun room => record_log room k none x d, fun busy => record_noticesFirst busy held k none x d,
    fun busy => .record busy k none x d⟩
  have outside := work.outside
  have same : s.rewritten (Machine.record s k none x d) = s := by
    unfold State.rewritten
    rw [outside.tracker, outside.units, outside.shed, outside.seqr, outside.service]
  rw [same]
  exact work

/-- More work of recording follows. -/
theorem Recorded.work' (h : Recorded s t k x d) (work : RecordWork t u) (joins : Busy t → NoticesJoin t u) : Recorded s u k x d := by
  have outside := work.outside
  refine ⟨?_, fun room => work.log _ _ (h.first room), fun busy => ?_, fun busy => (h.joined busy).trans (joins (h.joined busy).busy)⟩
  · have same : s.rewritten u = s.rewritten t := by
      unfold State.rewritten
      rw [outside.tracker, outside.units, outside.shed, outside.seqr, outside.service]
    rw [same]
    exact h.work.trans work
  · obtain ⟨more, report, notices, first⟩ := h.notices busy
    obtain ⟨more', report', notices'⟩ := (joins (h.joined busy).busy).report
    refine ⟨more ++ more', by rw [report', report, List.append_assoc], fun y listed => ?_, first.more work.groups⟩
    exact (List.mem_append.mp listed).elim (notices y) (notices' y)

theorem Recorded.andRecord (h : Recorded s t k x d) (k' : EventKind) (x' : Option Int) (d' : Option Nat) :
    Recorded s (Machine.record t k' none x' d') k x d :=
  h.work' (record_work _ _ _ _ _) fun busy => .record busy _ _ _ _

theorem Recorded.andRise (h : Recorded s t k x d) (c : Condition) : Recorded s (rise t c) k x d :=
  h.work' (rise_work t c) fun busy => .rise busy c

/-- Blocks of a change of mode are rewritten. -/
theorem Recorded.rewrite (h : Recorded s t k x d) (u : State) : Recorded s (t.rewritten u) k x d where
  work := h.work.rewrite u
  first := h.first
  notices busy := by
    obtain ⟨more, report, notices, first⟩ := h.notices busy
    exact ⟨more, report, notices, first⟩
  joined busy := by
    obtain ⟨busy, orders, queue, report⟩ := h.joined busy
    exact ⟨busy_of_frame busy rfl, orders, fun c => (by cases c <;> rfl : (t.rewritten u).queue c = t.queue c).trans (queue c), report⟩

/-- A record made after blocks other than the tracker and the access settings have been rewritten. -/
theorem Recorded.after (h : Recorded (s.rewritten u) t k x d) (tracker : u.tracker = s.tracker) (access : u.access = s.access) :
    Recorded s t k x d where
  work := h.work
  first room := by
    have := h.first room
    rwa [show recordNow (s.rewritten u) = recordNow s by funext; simp [recordNow, State.rewritten, tracker]] at this
  notices busy := by
    obtain ⟨more, report, notices, first⟩ := h.notices (busy_of_frame busy rfl)
    refine ⟨more, report, notices, fun r addrs route named => first r addrs route ?_⟩
    rw [named]
    have same : (s.rewritten u).access = s.access := access
    rw [same]
    rfl
  joined busy := by
    obtain ⟨busy, orders, queue, report⟩ := h.joined (busy_of_frame busy rfl)
    exact ⟨busy, orders, fun c => (queue c).trans (by cases c <;> rfl), report⟩

end Sys2Proof.Machine
end

section
/-! A change of the engine mode (R191): the mode noted and the tracker moved, and the orders, the Dispatcher and the Shed
Controller on leaving ACTIVE or RESTORE. -/

namespace Sys2Proof.Machine

variable {s t u v w : State} {k : EventKind} {x : Option Int} {d : Option Nat} {m : Mode}

/-! ## The mode noted -/

/-- The state at a change of mode once it is recorded and the tracker has moved. -/
def modeNoted (s : State) (m : Mode) : State :=
  trackerMode (record { s with service := { s.service with mode := m } } .modeChanged none (some (s.mode.code : Int))
    (some m.code)) s.mode

theorem changeMode_of_other (other : s.mode ≠ m) : changeMode s m =
    limitModeChanged (retryModeLeft (ordersModeLeft (modeNoted s m) s.mode) s.mode) s.mode :=
  if_neg (by simpa using other)

theorem Recorded.trackerSet (h : Recorded s t k x d) (b : Tracker) : Recorded s (t.setTracker b) k x d :=
  h.rewrite (t.setTracker b)

theorem Recorded.trackerMoves (h : Recorded s t k x d) (left : Mode) : Recorded s (trackerMode t left) k x d := by
  unfold trackerMode restartTracker
  split
  · simp only
    split
    · exact h.trackerSet _
    · unfold sourceChanged
      simp only
      split
      · exact (h.trackerSet _).andRecord _ _ _
      · exact ((h.trackerSet _).andRecord _ _ _).andRise _
  · split
    · exact h.trackerSet _
    · exact h

theorem Recorded.noted (h : Recorded s t k x d) (m : Mode) : Recorded s (modeNoted t m) k x d :=
  ((h.rewrite { t with service := { t.service with mode := m } }).andRecord .modeChanged (some (t.mode.code : Int))
    (some m.code)).trackerMoves t.mode

theorem modeNoted_recorded (held : s.egress.held = true) (m : Mode) :
    Recorded s (modeNoted s m) .modeChanged (some (s.mode.code : Int)) (some m.code) := by
  have first := Recorded.record (s := s.rewritten { s with service := { s.service with mode := m } }) held .modeChanged
    (some (s.mode.code : Int)) (some m.code)
  exact (first.after rfl rfl).trackerMoves s.mode

/-- The blocks other than the tracker that a change of mode may move stay as a mode is noted. -/
theorem trackerMode_blocks (s : State) (left : Mode) : (trackerMode s left).units = s.units ∧
    (trackerMode s left).shed = s.shed ∧ (trackerMode s left).seqr = s.seqr ∧ (trackerMode s left).service = s.service := by
  unfold trackerMode restartTracker
  split
  · simp only
    split
    · exact ⟨rfl, rfl, rfl, rfl⟩
    · have outside := (sourceChanged_work (s.setTracker (clearedTracker s.tracker none)) s.tracker.state).outside
      exact ⟨outside.units, outside.shed, outside.seqr, outside.service⟩
  · split <;> exact ⟨rfl, rfl, rfl, rfl⟩

theorem modeNoted_blocks (s : State) (m : Mode) : (modeNoted s m).units = s.units ∧ (modeNoted s m).shed = s.shed ∧
    (modeNoted s m).seqr = s.seqr ∧ (modeNoted s m).service = { s.service with mode := m } := by
  obtain ⟨units, shed, seqr, service⟩ := trackerMode_blocks (record { s with service := { s.service with mode := m } }
    .modeChanged none (some (s.mode.code : Int)) (some m.code)) s.mode
  have outside := (record_work { s with service := { s.service with mode := m } } .modeChanged none (some (s.mode.code : Int))
    (some m.code)).outside
  exact ⟨units.trans outside.units, shed.trans outside.shed, seqr.trans outside.seqr, service.trans outside.service⟩

/-- The tracker at a change of mode (R32). -/
theorem trackerMode_tracker (s : State) (left : Mode) : (trackerMode s left).tracker =
    if s.mode = .halted then clearedTracker s.tracker none
    else if left = .halted then { s.tracker with unsetDeadline := some (s.later 3000) } else s.tracker := by
  unfold trackerMode restartTracker
  by_cases halted : s.mode = .halted
  · simp only [halted, beq_self_eq_true, if_true]
    split
    · rfl
    · exact (sourceChanged_work _ _).outside.tracker
  · rw [if_neg (by simpa using halted), if_neg halted]
    by_cases was : left = .halted
    · simp only [was, beq_self_eq_true, if_true]
      rfl
    · rw [if_neg (by simpa using was), if_neg was]

theorem modeNoted_tracker (s : State) (m : Mode) : (modeNoted s m).tracker = trackerAfterMode s m := by
  have outside := (record_work { s with service := { s.service with mode := m } } .modeChanged none (some (s.mode.code : Int))
    (some m.code)).outside
  unfold modeNoted
  generalize record { s with service := { s.service with mode := m } } .modeChanged none (some (s.mode.code : Int))
    (some m.code) = r at outside ⊢
  have mode : r.mode = m := congrArg Service.mode outside.service
  have later : r.later 3000 = after s.now 3000 := congrArg (after · 3000) outside.now
  rw [trackerMode_tracker, mode, later, outside.tracker]
  rfl

/-! ## The second record -/

/-- UNSET entered raises no condition. -/
theorem sourceChanged_unset (unset : s.tracker.state = .unset) (left : EpochState) :
    sourceChanged s left = record s .epochSourceChanged none (some (left.code : Int)) (some 0) := by
  have code : s.tracker.state.code = 0 := by rw [unset]; rfl
  have state := congrArg Tracker.state
    (record_work s .epochSourceChanged none (some (left.code : Int)) (some s.tracker.state.code)).outside.tracker
  unfold sourceChanged
  rw [code] at state ⊢
  generalize record s .epochSourceChanged none (some (left.code : Int)) (some 0) = r at state ⊢
  simp only [state.trans unset, epochCause]

/-- EPOCH_SOURCE_CHANGED is recorded after MODE_CHANGED at a change to HALTED, and QUEUE_PRESSURE may come between (R31, R80). -/
theorem modeNoted_source (s : State) (tracking : s.tracker.state ≠ .unset) (room : logOpen s)
    (free : ∀ k : Fin 32, k.val < 3 → s.events.log.get (s.events.writeIndex + k) = none) :
    ∃ k : Fin 32, 0 < k.val ∧ k.val < 3 ∧ (modeNoted s .halted).events.log.get (s.events.writeIndex + k) =
      some (recordNow s .epochSourceChanged none (some (s.tracker.state.code : Int)) (some 0)) := by
  obtain ⟨r, noted⟩ : ∃ r, r = record { s with service := { s.service with mode := .halted } } .modeChanged none
    (some (s.mode.code : Int)) (some Mode.halted.code) := ⟨_, rfl⟩
  have work := record_work { s with service := { s.service with mode := .halted } } .modeChanged none (some (s.mode.code : Int))
    (some Mode.halted.code)
  have gained := record_gains { s with service := { s.service with mode := .halted } } .modeChanged none (some (s.mode.code : Int))
    (some Mode.halted.code)
  rw [← noted] at work gained
  have state : r.tracker.state = s.tracker.state := congrArg Tracker.state work.outside.tracker
  have left : modeNoted s .halted = record (r.setTracker (clearedTracker r.tracker none)) .epochSourceChanged none
      (some (r.tracker.state.code : Int)) (some 0) := by
    have halted : r.mode = .halted := congrArg Service.mode work.outside.service
    unfold modeNoted trackerMode restartTracker
    rw [← noted, if_pos (by simp [halted]), if_neg (by rw [state]; simpa using tracking)]
    exact sourceChanged_unset rfl r.tracker.state
  have second : LogGains r (modeNoted s .halted) [recordNow s .epochSourceChanged none (some (s.tracker.state.code : Int)) (some 0)] ∨
      LogGains r (modeNoted s .halted) [recordNow s .epochSourceChanged none (some (s.tracker.state.code : Int)) (some 0),
        pressureRecord (r.setTracker (clearedTracker r.tracker none))] := by
    have now : recordNow (r.setTracker (clearedTracker r.tracker none)) = recordNow s := by
      funext k u x d
      simp [recordNow, State.setTracker, clearedTracker, work.outside.now, work.outside.tracker]
    have gains := record_gains (r.setTracker (clearedTracker r.tracker none)) .epochSourceChanged none
      (some (r.tracker.state.code : Int)) (some 0)
    rwa [now, state, ← state, ← left, state] at gains
  obtain ⟨more, short, first⟩ : ∃ more : List EventRec, more.length ≤ 1 ∧
      LogGains s r (recordNow s .modeChanged none (some (s.mode.code : Int)) (some Mode.halted.code) :: more) :=
    gained.elim (fun one => ⟨[], by decide, one⟩) fun two => ⟨[_], by simp, two⟩
  obtain ⟨later, next⟩ : ∃ later : List EventRec, LogGains r (modeNoted s .halted)
      (recordNow s .epochSourceChanged none (some (s.tracker.state.code : Int)) (some 0) :: later) :=
    second.elim (fun one => ⟨[], one⟩) fun two => ⟨[_], two⟩
  have gains := first.trans next
  obtain ⟨k, place⟩ : ∃ k : Fin 32, k.val = more.length + 1 := ⟨⟨more.length + 1, by omega⟩, rfl⟩
  refine ⟨k, by omega, by omega, ?_⟩
  have stands := gains.get room.1 free k (by omega) (by simp; omega)
  rw [stands]
  simp [place]

/-! ## The orders stand, then are discarded -/

theorem Recorded.ordersStand (h : Recorded s w k x d) (kinds : ∀ u : UnitNo, (w.unit u).kind = (s.unit u).kind) :
    OrdersStand s w where
  contents := h.work.slots
  kinds := kinds
  schedule := h.work.outside.schedule
  waiting := h.work.waiting
  sent := h.work.sent
  busy busy := ⟨(h.joined busy).orders, (h.joined busy).queue⟩

theorem freeAll_report (ends : List (SlotNo × Order × OrderEnd)) (s : State) :
    (ends.foldl (fun s x => freeSlotAt s x.1) s).egress.report = s.egress.report := by
  induction ends generalizing s with
  | nil => rfl
  | cons x ends ih => exact ih _

theorem freeAll_frame (ends : List (SlotNo × Order × OrderEnd)) (s : State) :
    (ends.foldl (fun s x => freeSlotAt s x.1) s).frame = s.frame := by
  induction ends generalizing s with
  | nil => rfl
  | cons x ends ih => exact ih _

theorem dropOne_still (s : State) (x : SlotNo × Order) :
    (dropOne s x).egress.report = s.egress.report ∧ (dropOne s x).frame = s.frame := by
  unfold dropOne
  split <;> exact ⟨rfl, rfl⟩

theorem dropAll_still (l : List (SlotNo × Order)) (s : State) :
    (l.foldl dropOne s).egress.report = s.egress.report ∧ (l.foldl dropOne s).frame = s.frame := by
  induction l generalizing s with
  | nil => exact ⟨rfl, rfl⟩
  | cons x l ih =>
    obtain ⟨report, frame⟩ := ih (dropOne s x)
    obtain ⟨report', frame'⟩ := dropOne_still s x
    exact ⟨report.trans report', frame.trans frame'⟩

/-- While both ports transmit the discards leave REPORT. -/
theorem discardOrders_report (busy : Busy s) : (discardOrders s).egress.report = s.egress.report := by
  obtain ⟨report, frame⟩ : (dropOwed s).egress.report = s.egress.report ∧ (dropOwed s).frame = s.frame := dropAll_still _ s
  obtain ⟨t, freed⟩ : ∃ t, t = (discardEnds s).foldl (fun s x => freeSlotAt s x.1) (dropOwed s) := ⟨_, rfl⟩
  have moved := refill_movedUp t
  have busy' : Busy (refill t) := fun p => by
    rw [moved.port p, show t.port p = s.port p by rw [freed]; cases p <;> simp [State.port, freeAll_frame, frame]]
    exact busy p
  have left : (discardOrders s).egress.report = (pump (refill t)).egress.report := by rw [freed]; rfl
  rw [left, pump_of_busy busy', moved.report, freed, freeAll_report, report]

/-- The discards change the ports, the orders and the hand-offs alone. -/
theorem discardOrders_outside (s : State) : SameOutsidePorts s { discardOrders s with agenda := s.agenda } := by
  obtain ⟨outside, -⟩ := endMany_handed (dropOwed s) (discardEnds s) []
  have dropped := (dropOwed_work s).outside
  rw [dropped.agenda] at outside
  exact dropped.trans outside

theorem OrdersDiscarded.of_same {plan : Bool} (h : OrdersDiscarded s v plan) (slot : ∀ i : SlotNo, w.slot i = v.slot i)
    (queue : ∀ c : QClass, w.queue c = v.queue c) (agenda : w.agenda = v.agenda) : OrdersDiscarded s w plan where
  free i empty := (slot i).trans (h.free i empty)
  unsent i o there unsent := (slot i).trans (h.unsent i o there unsent)
  kept i o there sent := by rw [slot]; exact h.kept i o there sent
  owed i o o' there sent owed now := by
    obtain ⟨none, out⟩ := h.owed i o o' there sent owed ((slot i).symm.trans now)
    exact ⟨none, fun c => by rw [queue]; exact out c⟩
  ends := by
    obtain ⟨ends, jobs, listed, perm, handed⟩ := h.ends
    exact ⟨ends, jobs, listed, perm, agenda.trans handed⟩

/-- What has been discarded, with the plan steps taken off the orders kept (R175). -/
theorem OrdersDiscarded.stripped (h : OrdersDiscarded s v false) : OrdersDiscarded s (stripSteps v) true where
  free i empty := by rw [stripSteps_slot, h.free i empty]; rfl
  unsent i o there unsent := by rw [stripSteps_slot, h.unsent i o there unsent]; rfl
  kept i o there sent := by
    have same := h.kept i o there sent
    rw [stripSteps_slot]
    obtain ⟨o', now, content⟩ := Option.map_eq_some_iff.mp same
    rw [now]
    simp only [Order.content, Bool.false_eq_true, if_false, Prod.mk.injEq] at content
    obtain ⟨target, kind, value, number, owner, cls, -, attempt⟩ := content
    simp [Order.content, target, kind, value, number, owner, cls, attempt]
  owed i o o' there sent owed now := by
    rw [stripSteps_slot] at now
    obtain ⟨p, found, rfl⟩ := Option.map_eq_some_iff.mp now
    obtain ⟨none, out⟩ := h.owed i o p there sent owed found
    exact ⟨none, fun c still => out c (by cases c <;> exact still)⟩
  ends := h.ends

end Sys2Proof.Machine
end

section
/-! SET MODE (R191): what a change of mode leaves. -/

namespace Sys2Proof.Machine

variable {s t u v w : State} {m : Mode}

/-! ## ACTIVE or RESTORE left for OBSERVE or HALTED -/

/-- The orders discarded, and what the Shed Controller and the Dispatcher drop with them (R79, R140, R159). -/
def ordersLeft (w : State) : State := setRetry (shedModeLeft (discardOrders w)) false

/-- What leaving a mode with orders leaves of the state that noted the change. -/
structure OrdersLeft (w v : State) : Prop where
  same       : v.units = w.units ∧ v.tracker = w.tracker ∧ v.seqr = w.seqr ∧ v.service = w.service ∧
    v.balance = w.balance ∧ v.lastSource = w.lastSource ∧ v.alloc = w.alloc ∧ v.events = w.events
  shed       : v.shed = { w.shed with pending := [], predictive := none }
  dispatcher : v.dispatcher = { w.dispatcher with startRetry := false }
  report     : Busy w → v.egress.report = w.egress.report

theorem ordersLeft_left (w : State) : OrdersLeft w (ordersLeft w) := by
  have outside := discardOrders_outside w
  have report := fun busy : Busy w => discardOrders_report busy
  have left : ordersLeft w = setRetry (shedModeLeft (discardOrders w)) false := rfl
  generalize discardOrders w = t at outside report left
  rw [left]
  refine ⟨⟨outside.units, outside.tracker, outside.seqr, outside.service, outside.balance, outside.lastSource, outside.alloc,
    outside.events⟩, ?_, ?_, report⟩
  · have shed : t.shed = w.shed := outside.shed
    rw [← shed]
    rfl
  · have dispatcher : t.dispatcher = w.dispatcher := outside.dispatcher
    rw [← dispatcher]
    rfl

theorem ordersLeft_discards (quiet : w.agenda = []) : OrdersDiscarded w (ordersLeft w) false := by
  have discards := discardOrders_discards quiet
  unfold ordersLeft
  generalize discardOrders w = t at discards ⊢
  exact discards.of_same (fun _ => rfl) (fun c => by cases c <;> rfl) rfl

theorem modeNoted_mode (s : State) (m : Mode) : (modeNoted s m).mode = m := by
  obtain ⟨-, -, -, service⟩ := modeNoted_blocks s m
  exact congrArg Service.mode service

theorem ordersModeLeft_of_left {left : Mode} (from_ : left.orders = true) (into : t.mode.orders = false) :
    ordersModeLeft t left = ordersLeft t := if_pos (by simp [from_, into])

theorem ordersModeLeft_of_none {left : Mode} (from_ : left.orders = false) : ordersModeLeft t left = t :=
  if_neg (by simp [from_])

theorem orders_eq_false : m.orders = false ↔ m = .halted ∨ m = .observe := by cases m <;> simp [Mode.orders]

theorem setRetry_again (t : State) : setRetry (setRetry t false) false = setRetry t false := rfl

theorem retryModeLeft_ordersLeft (w : State) : retryModeLeft (ordersLeft w) .active = ordersLeft w :=
  (if_pos (by decide)).trans (setRetry_again (shedModeLeft (discardOrders w)))

theorem retryModeLeft_restore (t : State) : retryModeLeft t .restore = t := if_neg (by decide)

theorem limitModeChanged_active (still : t.mode ≠ .restore) : limitModeChanged t .active = t :=
  (if_neg (by simpa using still)).trans (if_neg (by decide))

theorem limitModeChanged_restore (still : t.mode ≠ .restore) : limitModeChanged t .restore = dropLimit t :=
  (if_neg (by simpa using still)).trans (if_pos (by decide))

theorem ordersLeft_mode (w : State) : (ordersLeft w).mode = w.mode := by
  obtain ⟨⟨-, -, -, service, -⟩, -, -, -⟩ := ordersLeft_left w
  exact congrArg Service.mode service

/-- ACTIVE left for OBSERVE or HALTED. -/
theorem changeMode_of_active (active : s.mode = .active) (into : m.orders = false) :
    changeMode s m = ordersLeft (modeNoted s m) := by
  have mode := modeNoted_mode s m
  have other : s.mode ≠ m := by rw [active]; rintro rfl; cases into
  have still : m ≠ .restore := by rintro rfl; cases into
  rw [changeMode_of_other other, active, ordersModeLeft_of_left rfl (by rwa [mode]), retryModeLeft_ordersLeft,
    limitModeChanged_active (by rwa [ordersLeft_mode, mode])]

/-- RESTORE left for OBSERVE or HALTED. -/
theorem changeMode_of_restore (restore : s.mode = .restore) (into : m.orders = false) :
    changeMode s m = dropLimit (ordersLeft (modeNoted s m)) := by
  have mode := modeNoted_mode s m
  have other : s.mode ≠ m := by rw [restore]; rintro rfl; cases into
  have still : m ≠ .restore := by rintro rfl; cases into
  rw [changeMode_of_other other, restore, ordersModeLeft_of_left rfl (by rwa [mode]), retryModeLeft_restore,
    limitModeChanged_restore (by rwa [ordersLeft_mode, mode])]

/-- HALTED or OBSERVE left for a mode other than RESTORE: nothing but the tracker follows. -/
theorem changeMode_of_idle (idle : s.mode.orders = false) (still : m ≠ .restore) (other : s.mode ≠ m) :
    changeMode s m = modeNoted s m := by
  have mode := modeNoted_mode s m
  have left : s.mode ≠ .active ∧ s.mode ≠ .restore := by
    rcases orders_eq_false.mp idle with h | h <;> rw [h] <;> decide
  rw [changeMode_of_other other, ordersModeLeft_of_none idle]
  unfold limitModeChanged retryModeLeft
  rw [if_neg (c := (s.mode == .active) = true) (by simpa using left.1), if_neg (by simpa [mode] using still),
    if_neg (by simpa using left.2)]

/-! ## What a change from a mode other than RESTORE leaves -/

/-- The state that a handler is given: the request taken off the queue, and a place of REPORT held. -/
def givenTo (s : State) (rest : List Request) : State := holdPlace (popRequest s rest) true

theorem OrdersStand.ofGiven {rest : List Request} (h : OrdersStand (givenTo s rest) w) : OrdersStand s w where
  contents := h.contents
  kinds := h.kinds
  schedule := h.schedule
  waiting := h.waiting
  sent := h.sent
  busy busy := by
    obtain ⟨orders, queue⟩ := h.busy busy
    exact ⟨orders, fun c => (queue c).trans (by cases c <;> rfl)⟩

/-- The blocks that leaving a mode to another does not touch, and what it does to the Dispatcher and the Shed Controller. -/
structure ModeLeft (w v : State) (active : Bool) : Prop where
  same       : v.units = w.units ∧ v.tracker = w.tracker ∧ v.seqr = w.seqr ∧ v.service = w.service ∧
    v.balance = w.balance ∧ v.lastSource = w.lastSource ∧ v.alloc = w.alloc ∧ v.events = w.events
  shed       : v.shed = if active then { w.shed with pending := [], predictive := none } else w.shed
  dispatcher : v.dispatcher = if active then { w.dispatcher with startRetry := false } else w.dispatcher
  report     : Busy w → v.egress.report = w.egress.report
  orders     : active = true → OrdersDiscarded w v false
  standing   : active = false → v.agenda = w.agenda ∧ ∀ i : SlotNo, v.slot i = w.slot i

theorem modeLeft_of_active (quiet : w.agenda = []) : ModeLeft w (ordersLeft w) true := by
  obtain ⟨same, shed, dispatcher, report⟩ := ordersLeft_left w
  exact ⟨same, shed, dispatcher, report, fun _ => ordersLeft_discards quiet, nofun⟩

theorem modeLeft_of_idle (w : State) : ModeLeft w w false :=
  ⟨⟨rfl, rfl, rfl, rfl, rfl, rfl, rfl, rfl⟩, rfl, rfl, fun _ => rfl, nofun, fun _ => ⟨rfl, fun _ => rfl⟩⟩

/-- From the state that noted the change, all that SET MODE leaves. -/
theorem ModeLeft.changed {rest : List Request} {active : Bool} (h : ModeLeft (modeNoted (givenTo s rest) m) v active)
    (queue : rest = s.service.queue.tail) (quiet : s.agenda = []) (from_ : active = true ↔ s.mode = .active) :
    ModeChanged s v m := by
  have noted := modeNoted_recorded (s := givenTo s rest) rfl m
  obtain ⟨units', shed', seqr', service'⟩ := modeNoted_blocks (givenTo s rest) m
  have tracker' := modeNoted_tracker (givenTo s rest) m
  have source : m = .halted → s.tracker.state ≠ .unset → logOpen s →
      (∀ k : Fin 32, k.val < 3 → s.events.log.get (s.events.writeIndex + k) = none) →
      ∃ k : Fin 32, 0 < k.val ∧ k.val < 3 ∧ (modeNoted (givenTo s rest) m).events.log.get (s.events.writeIndex + k) =
        some (recordNow s .epochSourceChanged none (some (s.tracker.state.code : Int)) (some 0)) := by
    rintro rfl
    exact modeNoted_source (givenTo s rest)
  generalize modeNoted (givenTo s rest) m = w at h noted units' shed' seqr' service' tracker' source
  obtain ⟨⟨units, tracker, seqr, service, balance, lastSource, alloc, events⟩, shed, dispatcher, report, orders, standing⟩ := h
  have outside := noted.work.outside
  have service : v.service = { s.service with queue := rest, mode := m } := service.trans service'
  have settings : v.settings = s.settings := by rw [State.settings, service]; rfl
  have access : v.access = s.access := by rw [State.access, service]; rfl
  have active_eq : active = decide (s.mode = .active) := by rw [Bool.eq_iff_iff, from_, decide_eq_true_iff]
  refine ⟨congrArg Service.mode service, ⟨settings, access, ?_⟩,
    tracker.trans tracker', ⟨units.trans units', balance.trans outside.balance, alloc.trans outside.alloc, seqr.trans seqr',
    lastSource.trans outside.lastSource⟩, ?_, ?_, fun active => ?_, fun idle => ?_, fun room => ?_, fun halted tracking room free => ?_,
    fun busy => ?_⟩
  · rw [service, ← queue]
  · have old : w.dispatcher = s.dispatcher := outside.dispatcher
    rw [dispatcher, old, active_eq]
    simp only [decide_eq_true_eq]
  · have old : w.shed = s.shed := shed'
    rw [shed, old, active_eq]
    simp only [decide_eq_true_eq]
  · exact ⟨w, (noted.ordersStand fun u => by rw [unit_of_units units' u]).ofGiven, orders (from_.mpr active)⟩
  · obtain ⟨agenda, slots⟩ := standing (Bool.eq_false_iff.mpr fun on => idle (from_.mp on))
    exact ⟨agenda.trans (outside.agenda.trans quiet), fun i => by rw [slots]; exact noted.work.slots i⟩
  · rw [events]
    exact noted.first room
  · rw [events]
    exact source halted tracking room free
  · obtain ⟨more, more_report, notices, first⟩ := noted.notices busy
    refine ⟨more, (report (noted.joined busy).busy).trans more_report, ?_, notices⟩
    intro x addrs route named some_ room fresh fits
    rw [events]
    exact first x addrs route named some_ room fresh fits

end Sys2Proof.Machine
end

section
/-! The end of a plan that is aborted (R175): its feeders released by their breakers (R158), and the mode changed. -/

namespace Sys2Proof.Machine

variable {s t u v w : State} {m : Mode}

/-! ## The feeders released (R158) -/

/-- Work of the Shed Controller on the units and its own block alone, its timers, ROCOF items, stages and last restore kept. -/
structure ShedWork (s t : State) : Prop where
  only : t = { s with units := t.units, shed := t.shed }
  kept : t.shed.timers = s.shed.timers ∧ t.shed.rocof = s.shed.rocof ∧ t.shed.stages = s.shed.stages ∧
    t.shed.lastRestore = s.shed.lastRestore

theorem ShedWork.refl (s : State) : ShedWork s s := ⟨rfl, rfl, rfl, rfl, rfl⟩

theorem ShedWork.trans (a : ShedWork s t) (b : ShedWork t u) : ShedWork s u := by
  obtain ⟨only, timers, rocof, stages, lastRestore⟩ := a
  obtain ⟨only', timers', rocof', stages', lastRestore'⟩ := b
  refine ⟨?_, timers'.trans timers, rocof'.trans rocof, stages'.trans stages, lastRestore'.trans lastRestore⟩
  rw [only] at only'
  exact only'

theorem setShed_shedWork (s : State) (u : UnitNo) (x : ShedState) : ShedWork s (setShed s u x) := by
  obtain ⟨p, entered⟩ := setShed_eq s u x
  rw [entered]
  exact ⟨rfl, rfl, rfl, rfl, rfl⟩

/-- A feeder released as an aborted plan's is, by its breaker. -/
theorem releaseClaimed_aborted (s : State) (u : UnitNo) : releaseClaimed false s u = setShed s u (stateByBreaker s u) := by
  unfold releaseClaimed stateByBreaker
  split <;> rfl

theorem stateByBreaker_unstacked (s : State) (u : UnitNo) : stacked (stateByBreaker s u) = false := by
  unfold stateByBreaker
  split <;> rfl

/-- A record of a feeder settled by its breaker (R158). -/
def settledByBreaker (r : UnitRec) : UnitRec :=
  { r with feederJob := {
    r.feederJob with
    shed := if r.live.values.breaker = .closed then .closed else .openOther
    restoreFail := if r.live.values.breaker = .closed then 0 else r.feederJob.restoreFail } }

theorem releaseClaimed_unit (s : State) (u x : UnitNo) : (releaseClaimed false s u).unit x =
    if x = u then settledByBreaker (s.unit u) else s.unit x := by
  rw [releaseClaimed_aborted, unit_setShed]
  refine if_congr Iff.rfl ?_ rfl
  unfold stateByBreaker settledByBreaker enteredShed
  by_cases closed : (s.unit u).live.values.breaker = .closed <;> simp [closed]

theorem releaseAll_leaves (l : List UnitNo) (s : State) (once : l.Nodup) :
    ShedWork s (l.foldl (releaseClaimed false) s) ∧
    (∀ x : UnitNo, (l.foldl (releaseClaimed false) s).unit x = if x ∈ l then settledByBreaker (s.unit x) else s.unit x) ∧
    (l.foldl (releaseClaimed false) s).shed.stack = s.shed.stack.filter fun e => !decide (e.feeder ∈ l) := by
  induction l generalizing s with
  | nil => exact ⟨.refl s, fun x => by simp, by simp⟩
  | cons u l ih =>
    obtain ⟨fresh, once⟩ := List.nodup_cons.mp once
    obtain ⟨work, units, stack⟩ := ih (releaseClaimed false s u) once
    have first : ShedWork s (releaseClaimed false s u) := by
      rw [releaseClaimed_aborted]
      exact setShed_shedWork s u _
    refine ⟨first.trans work, fun x => ?_, ?_⟩
    · rw [List.foldl_cons, units, releaseClaimed_unit]
      by_cases same : x = u
      · subst same
        simp [fresh]
      · simp [same]
    · rw [List.foldl_cons, stack, releaseClaimed_aborted, setShed_stack, stateByBreaker_unstacked, if_neg (by decide),
        List.filter_filter]
      refine List.filter_congr fun e _ => ?_
      by_cases same : e.feeder = u <;> simp [same, fresh]

theorem mem_planFeeders {x : UnitNo} : x ∈ byPriority s (planFeeders s) ↔
    (s.unit x).kind = .feeder ∧ (s.unit x).feederJob.shed = .openPlan := by
  rw [byPriority, (sortBy_perm _ _).mem_iff]
  simp [planFeeders, UnitRec.shedIs, mem_allUnits]

/-- What the release of an aborted plan's feeders leaves. -/
theorem planRelease_aborted (s : State) : ShedWork s (planRelease s false) ∧
    (∀ x : UnitNo, (planRelease s false).unit x = feederAfterAbort (s.unit x)) ∧
    (planRelease s false).shed.stack = s.shed.stack.filter fun e =>
      !decide ((s.unit e.feeder).kind = .feeder ∧ (s.unit e.feeder).feederJob.shed = .openPlan) := by
  obtain ⟨work, units, stack⟩ := releaseAll_leaves (byPriority s (planFeeders s)) s (byPriority_filter_nodup s _)
  refine ⟨work, fun x => (units x).trans ?_, stack.trans ?_⟩
  · exact if_congr mem_planFeeders rfl rfl
  · exact List.filter_congr fun e _ => by rw [decide_eq_decide.mpr mem_planFeeders]

/-! ## The abort -/

/-- The state of an abort with PLAN_ENDED recorded, PLAN_FAILED raised, the feeders released and the plan ABORTED. -/
def abortReleased (s : State) (cause : Nat) : State :=
  let c := planRelease (rise (planEnded s cause) .planFailed) false
  c.setProgress { c.progress with planState := .aborted }

theorem planAbort_eq (s : State) (cause : Nat) (m : Mode) : planAbort s cause m = stripSteps (changeMode (abortReleased s cause) m) := rfl

/-- The progress of a plan that has ended. -/
def endedProgress (p : Progress) (cause : Nat) : Progress := { p with endCause := some cause, deadline := none }

/-- What an abort leaves before it changes the mode: the feeders released, and the first record made. -/
structure AbortReleased (s e : State) (cause : Nat) : Prop where
  recorded : Recorded s e .planEnded (some (s.progress.current.val : Int)) (some cause)
  same     : e.tracker = s.tracker ∧ e.service = s.service
  units    : ∀ x : UnitNo, e.unit x = feederAfterAbort (s.unit x)
  stack    : e.shed.stack = s.shed.stack.filter fun y =>
    !decide ((s.unit y.feeder).kind = .feeder ∧ (s.unit y.feeder).feederJob.shed = .openPlan)
  kept     : e.shed.timers = s.shed.timers ∧ e.shed.rocof = s.shed.rocof ∧ e.shed.stages = s.shed.stages ∧
    e.shed.lastRestore = s.shed.lastRestore

theorem abortReleased_released (held : s.egress.held = true) (cause : Nat) : AbortReleased s (abortReleased s cause) cause := by
  obtain ⟨b, raised⟩ : ∃ b, b = rise (planEnded s cause) .planFailed := ⟨_, rfl⟩
  have ended : Recorded s b .planEnded (some (s.progress.current.val : Int)) (some cause) := by
    have first := Recorded.record (s := s.rewritten (s.setProgress (endedProgress s.progress cause))) held .planEnded
      (some (s.progress.current.val : Int)) (some cause)
    rw [raised]
    exact (first.after rfl rfl).andRise .planFailed
  have work : RecordWork (s.setProgress (endedProgress s.progress cause)) b := by
    rw [raised]
    exact (record_work _ _ _ _ _).trans (rise_work _ _)
  obtain ⟨released, units, stack⟩ := planRelease_aborted b
  obtain ⟨only, kept⟩ := released
  have left : abortReleased s cause = (planRelease b false).setProgress { (planRelease b false).progress with
    planState := .aborted } := by rw [raised]; rfl
  generalize planRelease b false = c at units stack only kept left
  have tracker : c.tracker = s.tracker := (by rw [only] : c.tracker = b.tracker).trans work.outside.tracker
  have service : c.service = s.service := (by rw [only] : c.service = b.service).trans work.outside.service
  have shed : b.shed = s.shed := work.outside.shed
  have unit (x : UnitNo) : b.unit x = s.unit x := work.unit x
  have recorded : Recorded s c .planEnded (some (s.progress.current.val : Int)) (some cause) := by
    have same : c = b.rewritten c := by
      rw [only]
      rfl
    rw [same]
    exact ended.rewrite c
  rw [left]
  refine ⟨recorded.rewrite (c.setProgress { c.progress with planState := .aborted }), ⟨tracker, service⟩, fun x => (units x).trans (by rw [unit]), stack.trans ?_, ?_⟩
  · simp only [shed, unit]
  · rw [← shed]
    exact kept

theorem planAbort_seqr (s : State) (cause : Nat) (m : Mode) : (planAbort s cause m).seqr.plan = s.seqr.plan ∧
    (planAbort s cause m).seqr.asserted = s.seqr.asserted ∧ (planAbort s cause m).seqr.lowSince = s.seqr.lowSince := by
  have released : (planRelease (rise (planEnded s cause) .planFailed) false).seqr =
      { s.seqr with progress := endedProgress s.progress cause } :=
    ((planRelease_seqr _ _).trans (rise_work _ _).outside.seqr).trans (record_seqr _ _ _ _ _)
  have left : (planAbort s cause m).seqr = (abortReleased s cause).seqr := changeMode_seqr _ m
  rw [left]
  unfold abortReleased
  generalize planRelease (rise (planEnded s cause) .planFailed) false = c at released ⊢
  have plan : c.seqr.plan = s.seqr.plan := by rw [released]
  have asserted : c.seqr.asserted = s.seqr.asserted := by rw [released]
  have lowSince : c.seqr.lowSince = s.seqr.lowSince := by rw [released]
  exact ⟨plan, asserted, lowSince⟩

/-- What stripping the plan steps leaves, and dropping the plan limit. -/
theorem stripped_same (t : State) : (stripSteps (dropLimit t)).units = t.units ∧ (stripSteps (dropLimit t)).tracker = t.tracker ∧
    (stripSteps (dropLimit t)).service = t.service ∧ (stripSteps (dropLimit t)).balance = t.balance ∧
    (stripSteps (dropLimit t)).lastSource = t.lastSource ∧ (stripSteps (dropLimit t)).alloc = { t.alloc with planLimit := none } ∧
    (stripSteps (dropLimit t)).events = t.events ∧ (stripSteps (dropLimit t)).shed = t.shed ∧
    (stripSteps (dropLimit t)).dispatcher = t.dispatcher ∧ (stripSteps (dropLimit t)).egress = t.egress :=
  ⟨rfl, rfl, rfl, rfl, rfl, rfl, rfl, rfl, rfl, rfl⟩

/-- All that an abort in RESTORE leaves (R175). -/
theorem planAbort_aborts {rest : List Request} (quiet : s.agenda = []) (restore : s.mode = .restore) (into : m.orders = false)
    (cause : Nat) : PlanAborts s (planAbort (givenTo s rest) cause m) m cause := by
  have mode := planAbort_mode (givenTo s rest) cause m
  have progress := planAbort_progress (givenTo s rest) cause m
  have failed := planAbort_latched (givenTo s rest) cause m
  obtain ⟨plan, asserted, lowSince⟩ := planAbort_seqr (givenTo s rest) cause m
  obtain ⟨e, released⟩ : ∃ e, e = abortReleased (givenTo s rest) cause := ⟨_, rfl⟩
  obtain ⟨recorded, ⟨tracker', service'⟩, units', stack', kept'⟩ := abortReleased_released (s := givenTo s rest) rfl cause
  have eq := planAbort_eq (givenTo s rest) cause m
  rw [← released] at recorded tracker' service' units' stack' kept' eq
  have left : e.mode = .restore := (congrArg Service.mode service').trans restore
  rw [changeMode_of_restore left into] at eq
  have noted := recorded.noted m
  obtain ⟨unitsN, shedN, -, serviceN⟩ := modeNoted_blocks e m
  have trackerN := modeNoted_tracker e m
  have now : e.now = s.now := recorded.work.outside.now
  have after : trackerAfterMode e m = trackerAfterMode s m := by
    unfold trackerAfterMode
    rw [left, restore, tracker', now]
    rfl
  generalize modeNoted e m = w at eq noted unitsN shedN serviceN trackerN
  have outside := noted.work.outside
  have discards := (ordersLeft_discards (w := w) (outside.agenda.trans quiet))
  obtain ⟨⟨units, tracker, -, service, balance, lastSource, alloc, events⟩, shed, dispatcher, report⟩ := ordersLeft_left w
  generalize ordersLeft w = t at eq discards units tracker service balance lastSource alloc events shed dispatcher report
  obtain ⟨unitsS, trackerS, serviceS, balanceS, lastSourceS, allocS, eventsS, shedS, dispatcherS, egressS⟩ := stripped_same t
  have stripped : OrdersDiscarded w (stripSteps (dropLimit t)) true :=
    (discards.of_same (w := dropLimit t) (fun _ => rfl) (fun c => by cases c <;> rfl) rfl).stripped
  rw [← eq] at unitsS trackerS serviceS balanceS lastSourceS allocS eventsS shedS dispatcherS egressS stripped
  generalize planAbort (givenTo s rest) cause m = v at *
  have shedV : v.shed = { e.shed with pending := [], predictive := none } := by rw [shedS, shed, shedN]
  have serviceV : v.service = { s.service with queue := rest, mode := m } := by
    rw [serviceS, service, serviceN, service']
    rfl
  have unitsV (x : UnitNo) : v.unit x = feederAfterAbort (s.unit x) := by
    rw [unit_of_units ((unitsS.trans units).trans unitsN) x]
    exact units' x
  have eventsV : v.events = w.events := eventsS.trans events
  refine ⟨mode, ?_, ⟨?_, plan, asserted, lowSince⟩, failed, unitsV, ?_, ?_, ⟨?_, ?_, ?_, ?_, ?_, ?_⟩, ?_, fun room => ?_, fun busy => ?_⟩
  · rw [trackerS, tracker, trackerN, after]
  · rw [progress]
    rfl
  · rw [shedV]
    exact stack'
  · rw [shedV]
    exact ⟨rfl, rfl, kept'⟩
  · rw [balanceS, balance]
    exact outside.balance
  · rw [allocS, alloc, show w.alloc = s.alloc from outside.alloc]
  · rw [dispatcherS, dispatcher, show w.dispatcher = s.dispatcher from outside.dispatcher]
  · rw [lastSourceS, lastSource]
    exact outside.lastSource
  · rw [State.settings, serviceV]
    rfl
  · rw [State.access, serviceV]
    rfl
  · refine ⟨w, (noted.ordersStand fun x => ?_).ofGiven, stripped⟩
    rw [unit_of_units unitsN x, units']
    unfold feederAfterAbort
    split <;> rfl
  · rw [eventsV]
    exact noted.first room
  · obtain ⟨more, more_report, notices, first⟩ := noted.notices busy
    have reportV : v.egress.report = w.egress.report := by rw [egressS, report (noted.joined busy).busy]
    refine ⟨more, reportV.trans more_report, ?_, notices⟩
    intro x addrs route named some_ room fresh fits
    rw [eventsV]
    exact first x addrs route named some_ room fresh fits

end Sys2Proof.Machine
end

section
/-! SET MODE (R191): every row of its table. -/

namespace Sys2Proof.Machine

variable {s : State} {r : Request} {rest : List Request} {m : Mode}

theorem ofCode_code (m : Mode) : Mode.ofCode m.code = some m := by cases m <;> rfl

theorem ofCode_large {code : Nat} (large : 3 < code) : Mode.ofCode code = none := by
  unfold Mode.ofCode
  split
  case h_5 => rfl
  all_goals omega

/-- With no hand-off waiting, a state is counted for its slots alone. -/
theorem load_of_quiet (quiet : s.agenda = []) : load s ≤ 96 := by
  have := load_le s
  rw [quiet] at this
  exact this

/-- SET MODE served for a mode that it changes to. -/
theorem serveMode_some {g v : State} (args : r.args = .mode m.code) (makes : setModeTo g m = some v) :
    serveMode g r = ⟨v, .done, .mode v.mode⟩ := by
  unfold serveMode
  rw [args]
  simp only [ofCode_code, makes]

theorem serveMode_none {g : State} (args : r.args = .mode m.code) (makes : setModeTo g m = none) :
    serveMode g r = refusal g .wrongMode := by
  unfold serveMode
  rw [args]
  simp only [ofCode_code, makes]

theorem referenceNamed_iff (s : State) : referenceNamed s = true ↔
    ∃ u : UnitNo, s.settings.reference = some u ∧ (s.unit u).kind = .meter := by
  simp [referenceNamed, Option.any_eq_true]

/-- The changes that SET MODE makes, by the mode found and the reference meter (R191). -/
theorem setModeTo_changes {g : State} (allowed : (m = .observe ∧ (g.mode = .halted ∨ g.mode = .active)) ∨
    (m = .halted ∧ (g.mode = .observe ∨ g.mode = .active)) ∨
    (m = .active ∧ (g.mode = .halted ∨ g.mode = .observe) ∧ referenceNamed g = true)) :
    setModeTo g m = some (changeMode g m) ∧ g.mode ≠ m ∧ m ≠ .restore ∧ g.mode ≠ .restore ∧
      (g.mode = .active → m.orders = false) := by
  unfold setModeTo
  rcases allowed with ⟨rfl, found | found⟩ | ⟨rfl, found | found⟩ | ⟨rfl, found | found, named⟩ <;>
    simp [Mode.orders, *]

theorem setModeTo_refuses {g : State} (refused : (g.mode = .restore ∧ (m = .active ∨ m = .observe)) ∨
    (m = .restore ∧ g.mode ≠ .restore) ∨
    (m = .active ∧ (g.mode = .halted ∨ g.mode = .observe) ∧ referenceNamed g = false)) : setModeTo g m = none := by
  unfold setModeTo
  rcases refused with ⟨found, rfl | rfl⟩ | ⟨rfl, found⟩ | ⟨rfl, found | found, named⟩
  · simp [found]
  · simp [found]
  · cases mode : g.mode <;> simp_all
  · simp [found, named]
  · simp [found, named]

theorem changeMode_changes (head : HeadIs s r rest) (other : s.mode ≠ m) (into : m ≠ .restore) (from_ : s.mode ≠ .restore)
    (leaves : s.mode = .active → m.orders = false) : ModeChanged s (changeMode (givenTo s rest) m) m := by
  have queue : rest = s.service.queue.tail := by rw [head.queue]; rfl
  have quiet : s.agenda = [] := head.ready.2
  by_cases active : s.mode = .active
  · rw [changeMode_of_active (s := givenTo s rest) active (leaves active)]
    have noted := (modeNoted_recorded (s := givenTo s rest) rfl m).work.outside.agenda
    exact (modeLeft_of_active (noted.trans quiet)).changed queue quiet (iff_of_true rfl active)
  · have idle : (givenTo s rest).mode.orders = false := by
      have same : (givenTo s rest).mode = s.mode := rfl
      rw [same]
      cases mode : s.mode
      · rfl
      · rfl
      · exact absurd mode active
      · exact absurd mode from_
    rw [changeMode_of_idle idle into other]
    exact (modeLeft_of_idle _).changed queue quiet (iff_of_false nofun active)

/-- Settles O56, by the rows of SET MODE's table, with what each allowed change leaves before its hand-offs are taken. -/
theorem setModeFollowsItsTable : Obligations.SetModeFollowsItsTable := by
  intro s r rest code head kind args
  have fits : isKind 8 r = true := (isKind_iff 8 r).mpr ⟨by rw [kind]; rfl, by rw [kind, args]; rfl⟩
  have light : load (givenTo s rest) ≤ 96 := load_of_quiet head.ready.2
  have named : referenceNamed (givenTo s rest) = true ↔ ∃ u : UnitNo, s.settings.reference = some u ∧ (s.unit u).kind = .meter :=
    referenceNamed_iff _
  refine ⟨fun large => ?_, ?_⟩
  · refine answered_of_unchanged head fits (handler := serveMode) ?_ rfl
    unfold serveMode
    rw [args]
    simp only [ofCode_large large]
    rfl
  rintro m rfl
  refine ⟨fun same => ?_, fun allowed => ?_, ?_, fun refused => ?_⟩
  · refine answered_of_unchanged head fits (handler := serveMode) ?_ rfl
    have stays : setModeTo (givenTo s rest) m = some (givenTo s rest) := if_pos (beq_iff_eq.mpr same)
    refine (serveMode_some args stays).trans ?_
    rw [← same]
    rfl
  · obtain ⟨makes, other, into, from_, leaves⟩ := setModeTo_changes (g := givenTo s rest) (m := m)
      (allowed.imp_right (Or.imp_right (And.imp_right (And.imp_right named.mpr))))
    have changed := changeMode_changes head other into from_ leaves
    have few : load (changeMode (givenTo s rest) m) ≤ 30000 := (changeMode_load _ _).trans (by omega)
    have served := serveMode_some args makes
    generalize changeMode (givenTo s rest) m = v at changed few served
    rw [changed.mode] at served
    exact ⟨v, responds_of_served head fits (handler := serveMode) served (settle_ends few) rfl, changed.mode, changed.config.1,
      changed.config.2.1, changed.jobs.2.2.2.1, changed, changed.recorded⟩
  · rintro rfl restore
    have makes : setModeTo (givenTo s rest) .halted = some (planAbort (givenTo s rest) 6 .halted) := by
      have found : (givenTo s rest).mode = .restore := restore
      unfold setModeTo
      simp [found]
    have aborts := planAbort_aborts (rest := rest) head.ready.2 restore (m := .halted) rfl 6
    have few : load (planAbort (givenTo s rest) 6 .halted) ≤ 30000 := (planAbort_load _ _ _).trans (by omega)
    have served := serveMode_some args makes
    generalize planAbort (givenTo s rest) 6 .halted = v at aborts few served
    rw [aborts.mode] at served
    obtain ⟨progress, -⟩ := aborts.plan
    exact ⟨v, responds_of_served head fits (handler := serveMode) served (settle_ends few) rfl, aborts.mode, aborts,
      by rw [progress], by rw [progress], aborts.failed, aborts.recorded⟩
  · refine answered_of_unchanged head fits (handler := serveMode) ?_ rfl
    refine (serveMode_none args (setModeTo_refuses (g := givenTo s rest) ?_)).trans rfl
    refine refused.imp_right (Or.imp_right (And.imp_right (And.imp_right fun none => ?_)))
    rw [Bool.eq_false_iff, Ne, named]
    rintro ⟨u, reference, meter⟩
    exact none u reference meter

end Sys2Proof.Machine
end

section
/-! START PLAN and ABORT PLAN (R164, R175, R176). -/

namespace Sys2Proof.Machine

variable {s t v : State} {r : Request} {rest : List Request} {m : Mode}

/-! ## RESTORE entered -/

/-- The state in which the plan of a START PLAN begins: RESTORE entered, the plan RUNNING, and the PV limit at 0 (R116, R164). -/
def startEntered (s : State) : State := changeMode (s.setProgress (startedProgress s.progress)) .restore

theorem askAll_limit (s : State) (p : UnitNo → Proposal) : (askAll s p).alloc = s.alloc := (askAll_stands s p).alloc

/-- RESTORE entered from OBSERVE or ACTIVE sweeps the PV limits with 0. -/
theorem changeMode_restore (from_ : s.mode ≠ .restore) :
    changeMode s .restore = limitSweep (retryModeLeft (modeNoted s .restore) s.mode) 0 := by
  have mode := modeNoted_mode s .restore
  have kept : ordersModeLeft (modeNoted s .restore) s.mode = modeNoted s .restore := if_neg (by simp [mode, Mode.orders])
  have still : (retryModeLeft (modeNoted s .restore) s.mode).mode = .restore := by
    unfold retryModeLeft
    split
    · exact mode
    · exact mode
  rw [changeMode_of_other from_, kept]
  exact if_pos (by simp [still])

theorem startEntered_limit (from_ : s.mode ≠ .restore) : (startEntered s).alloc.planLimit = some 0 := by
  unfold startEntered
  rw [changeMode_restore (by exact from_)]
  unfold limitSweep
  simp only
  rw [askAll_limit]

/-- MODE_CHANGED is the first record of a plan's start. -/
theorem startEntered_first (from_ : s.mode ≠ .restore) (held : s.egress.held = true) (room : logOpen s) :
    (startEntered s).events.log.get s.events.writeIndex =
      some (recordNow s .modeChanged none (some (s.mode.code : Int)) (some 3)) := by
  have first := (modeNoted_recorded (s := s.setProgress (startedProgress s.progress)) held .restore).first room
  unfold startEntered
  rw [changeMode_restore (by exact from_)]
  have moves := (retryModeLeft_moves (modeNoted (s.setProgress (startedProgress s.progress)) .restore)
    (s.setProgress (startedProgress s.progress)).mode).trans (limitSweep_duties _ 0).moves
  exact moves.shifts.frame.log _ _ first

theorem planStart_begins (s : State) : planStart s = beginPlan (startEntered s) := rfl

/-! ## A plan whose step 0 is NONE or END -/

theorem beginPlan_none (none : (s.seqr.plan.get 0).action = .noAction) :
    beginPlan s = planAbort (s.setProgress (begunProgress s 0 1)) 3 .observe := by
  have step : currentStep (s.setProgress (begunProgress s 0 1)) = s.seqr.plan.get 0 := rfl
  unfold beginPlan
  simp only
  rw [if_pos (by simp [step, none])]

theorem beginPlan_begins (first : (s.seqr.plan.get 0).action ≠ .noAction) :
    beginPlan s = beginAction (s.setProgress (begunProgress s 0 1)) := by
  have step : currentStep (s.setProgress (begunProgress s 0 1)) = s.seqr.plan.get 0 := rfl
  unfold beginPlan
  simp only
  rw [if_neg (by rw [step]; simpa using first)]

theorem beginAction_end (ends : (currentStep s).action = .endPlan) :
    beginAction s = planComplete (s.setProgress { s.progress with stepState := .done, deadline := none }) := by
  unfold beginAction
  simp only [ends]

theorem abortReleased_mode (s : State) (cause : Nat) : (abortReleased s cause).mode = s.mode := by
  have released := (planRelease_moves (rise (planEnded s cause) .planFailed) false).mode
  have raised : (rise (planEnded s cause) .planFailed).mode = s.mode := by
    have service := (rise_work (planEnded s cause) .planFailed).outside.service.trans
      (record_work (s.setProgress (endedProgress s.progress cause)) .planEnded none (some (s.progress.current.val : Int))
        (some cause)).outside.service
    exact congrArg Service.mode service
  exact released.trans raised

theorem planAbort_limit (restore : s.mode = .restore) (into : m.orders = false) (cause : Nat) :
    (planAbort s cause m).alloc.planLimit = none := by
  rw [planAbort_eq, changeMode_of_restore ((abortReleased_mode s cause).trans restore) into]
  generalize ordersLeft (modeNoted (abortReleased s cause) m) = t
  rfl

/-- RESTORE left for ACTIVE: the PV limit is dropped. -/
theorem changeMode_restored (restore : s.mode = .restore) : changeMode s .active = dropLimit (modeNoted s .active) := by
  have mode := modeNoted_mode s .active
  have kept : ordersModeLeft (modeNoted s .active) .restore = modeNoted s .active := if_neg (by simp [mode, Mode.orders])
  rw [changeMode_of_other (by rw [restore]; decide), restore, kept, retryModeLeft_restore,
    limitModeChanged_restore (by rw [mode]; decide)]

theorem planComplete_limit (restore : s.mode = .restore) : (planComplete s).alloc.planLimit = none := by
  obtain ⟨t, left⟩ : ∃ t, t = ((planFeeders (planEnded s 0)).filter (leftOpen (planEnded s 0))).foldl noteLeftOpen
    (planRelease (planEnded s 0) true) := ⟨_, rfl⟩
  have moves : Moves s t := by
    rw [left]
    exact ((planEnded_moves s 0).trans (planRelease_moves _ true)).trans (Moves.foldl fun t _ x _ => Moves.record _ _ _ _ _)
  have ends : planComplete s = stripSteps (changeMode (t.setProgress { t.progress with planState := .completed }) .active) := by
    rw [left]
    rfl
  have still : (t.setProgress { t.progress with planState := .completed }).mode = .restore := moves.mode.trans restore
  rw [ends, changeMode_restored still]
  generalize modeNoted (t.setProgress { t.progress with planState := .completed }) .active = w
  rfl

/-! ## What a start leaves -/

theorem startEntered_progress (s : State) : (startEntered s).progress = startedProgress s.progress := started_progress s

theorem startEntered_mode (s : State) : (startEntered s).mode = .restore := changeMode_mode _ _

theorem startEntered_plan (s : State) : (startEntered s).seqr.plan = s.seqr.plan := (started_frame s).plan

/-- The hand-offs of a plan's start all come to an end. -/
theorem planStart_ends (light : load s ≤ 96) : (settle (planStart s)).agenda = [] := by
  have progress := startEntered_progress s
  have running : (startEntered s).progress.planState = .running := by rw [progress]; rfl
  have whole := beginPlan_whole running
  have entered : load (startEntered s) ≤ 96 := (changeMode_orders_load _ rfl).trans light
  have few : beginsLeft (begunProgress (startEntered s) 0 1) ≤ 196 := by
    unfold beginsLeft
    split <;> omega
  refine drain_ends Config.cascadeFuel _ ?_
  have fuel : Config.cascadeFuel = 65536 := rfl
  rw [planStart_begins, fuel]
  omega

/-- A plan started whose step 0 is neither NONE nor END has not ended, and bounds the PV outputs unless its step frees them. -/
theorem planStart_bounded (from_ : s.mode ≠ .restore) (first : (s.seqr.plan.get 0).action ≠ .noAction)
    (other : (s.seqr.plan.get 0).action ≠ .endPlan) : (planStart s).progress.endCause = none ∧
    ((s.seqr.plan.get 0).action ≠ .releasePv → (planStart s).alloc.planLimit = some 0) := by
  have plan := startEntered_plan s
  have step : currentStep ((startEntered s).setProgress (begunProgress (startEntered s) 0 1)) = s.seqr.plan.get 0 := by
    rw [← plan]
    rfl
  rw [planStart_begins, beginPlan_begins (by rwa [plan])]
  refine ⟨(beginAction_endCause (by rwa [step])).trans ?_, fun calm => ?_⟩
  · have kept : (begunProgress (startEntered s) 0 1).endCause = (startEntered s).progress.endCause := rfl
    exact kept.trans (congrArg Progress.endCause (startEntered_progress s))
  · rw [(beginAction_course (by rwa [step]) (by rwa [step])).alloc]
    exact startEntered_limit from_

/-- A plan started whose step 0 is NONE has been ABORTED. -/
theorem planStart_of_none (none_ : (s.seqr.plan.get 0).action = .noAction) :
    planStart s = planAbort ((startEntered s).setProgress (begunProgress (startEntered s) 0 1)) 3 .observe := by
  rw [planStart_begins, beginPlan_none (by rwa [startEntered_plan])]

/-- A plan started whose step 0 is END has been COMPLETED. -/
theorem planStart_of_end (ends : (s.seqr.plan.get 0).action = .endPlan) : planStart s = planComplete
    ((startEntered s).setProgress { begunProgress (startEntered s) 0 1 with stepState := .done, deadline := none }) := by
  have plan := startEntered_plan s
  have step : currentStep ((startEntered s).setProgress (begunProgress (startEntered s) 0 1)) = s.seqr.plan.get 0 := by
    rw [← plan]
    rfl
  rw [planStart_begins, beginPlan_begins (by rw [plan, ends]; decide), beginAction_end (by rw [step, ends])]
  rfl

theorem planComplete_mode (s : State) : (planComplete s).mode = .active := by
  unfold planComplete
  exact (stripSteps_moves _).mode.trans (changeMode_mode _ .active)

/-- A step that has just begun, its plan ended at once: no cause, no order and no deadline, and no PV limit (R174 to R176). -/
structure EndedAtOnce (v : State) (m : Mode) (x : PlanState) (cause : Nat) : Prop where
  failCause : v.progress.failCause = none
  orders    : v.progress.orders = []
  deadline  : v.progress.deadline = none
  limit     : v.alloc.planLimit = none
  mode      : v.mode = m
  planState : v.progress.planState = x
  endCause  : v.progress.endCause = some cause

theorem begun_aborts (restore : s.mode = .restore) :
    EndedAtOnce (planAbort (s.setProgress (begunProgress s 0 1)) 3 .observe) .observe .aborted 3 := by
  have limit := planAbort_limit (s := s.setProgress (begunProgress s 0 1)) (m := .observe) restore rfl 3
  have progress := planAbort_progress (s.setProgress (begunProgress s 0 1)) 3 .observe
  have mode := planAbort_mode (s.setProgress (begunProgress s 0 1)) 3 .observe
  generalize planAbort (s.setProgress (begunProgress s 0 1)) 3 .observe = v at limit progress mode
  refine ⟨?_, ?_, ?_, limit, mode, ?_, ?_⟩ <;> rw [progress] <;> rfl

theorem begun_completes (restore : s.mode = .restore) : EndedAtOnce
    (planComplete (s.setProgress { begunProgress s 0 1 with stepState := .done, deadline := none })) .active .completed 0 ∧
    (planComplete (s.setProgress { begunProgress s 0 1 with stepState := .done, deadline := none })).progress.stepState = .done := by
  have limit := planComplete_limit (s := s.setProgress { begunProgress s 0 1 with stepState := .done, deadline := none }) restore
  have progress := planComplete_progress (s.setProgress { begunProgress s 0 1 with stepState := .done, deadline := none })
  have mode := planComplete_mode (s.setProgress { begunProgress s 0 1 with stepState := .done, deadline := none })
  generalize planComplete (s.setProgress { begunProgress s 0 1 with stepState := .done, deadline := none }) = v
    at limit progress mode
  refine ⟨⟨?_, ?_, ?_, limit, mode, ?_, ?_⟩, ?_⟩ <;> rw [progress] <;> rfl

theorem planStart_none_ends (none_ : (s.seqr.plan.get 0).action = .noAction) :
    EndedAtOnce (planStart s) .observe .aborted 3 ∧ (planStart s).isLatched .planFailed = true := by
  rw [planStart_of_none none_]
  exact ⟨begun_aborts (startEntered_mode s), planAbort_latched _ _ _⟩

theorem planStart_end_ends (ends : (s.seqr.plan.get 0).action = .endPlan) :
    EndedAtOnce (planStart s) .active .completed 0 ∧ (planStart s).progress.stepState = .done := by
  rw [planStart_of_end ends]
  exact begun_completes (startEntered_mode s)

/-! ## The requests -/

theorem serveStartPlan_starts (from_ : s.mode = .observe ∨ s.mode = .active) (named : referenceNamed s = true) :
    serveStartPlan s r = ⟨settle (planStart s), .done, .planState (settle (planStart s)).progress.planState⟩ := by
  refine if_pos ?_
  rcases from_ with found | found <;> simp [found, named]

theorem serveStartPlan_refuses (refused : (s.mode = .halted ∨ s.mode = .restore) ∨ referenceNamed s = false) :
    serveStartPlan s r = refusal s .wrongMode := by
  refine if_neg ?_
  rcases refused with (found | found) | named
  · simp [found]
  · simp [found]
  · simp [named]

/-- What an abort in RESTORE leaves of its feeders and its orders (R158, R175). -/
theorem planAbort_releases {cause : Nat} (aborts : PlanAborts s (planAbort t cause m) m cause) :
    (∀ u : UnitNo, ((planAbort t cause m).unit u).kind = .feeder →
      ((planAbort t cause m).unit u).feederJob.shed ≠ .openPlan) ∧
    ∀ (i : SlotNo) (o : Order), (planAbort t cause m).slot i = some o → o.planStep = none := by
  refine ⟨fun u feeder claimed => ?_, fun i o there => ?_⟩
  · rw [aborts.units, feederAfterAbort] at feeder claimed
    split at claimed
    · simp only at claimed
      split at claimed <;> cases claimed
    next free =>
      rw [if_neg free] at feeder
      exact free ⟨feeder, claimed⟩
  · rw [planAbort_eq, stripSteps_slot] at there
    obtain ⟨p, -, rfl⟩ := Option.map_eq_some_iff.mp there
    rfl

/-- Settles O58, by the step that begins, the plan that ends at once, and the abort as SET MODE's rule for it has it. -/
theorem planStartsAndAborts : Obligations.PlanStartsAndAborts := by
  intro s r rest head args
  have light : load (givenTo s rest) ≤ 96 := load_of_quiet head.ready.2
  have named : referenceNamed (givenTo s rest) = true ↔ ∃ u : UnitNo, s.settings.reference = some u ∧ (s.unit u).kind = .meter :=
    referenceNamed_iff _
  have starts (kind : r.kind = 10) : isKind 10 r = true :=
    (isKind_iff 10 r).mpr ⟨by rw [kind]; rfl, by rw [kind, args]; rfl⟩
  have stops (kind : r.kind = 11) : isKind 11 r = true :=
    (isKind_iff 11 r).mpr ⟨by rw [kind]; rfl, by rw [kind, args]; rfl⟩
  have quiet := planStart_ends light
  have responds (kind : r.kind = 10) (from_ : s.mode = .observe ∨ s.mode = .active)
      (reference : ∃ u : UnitNo, s.settings.reference = some u ∧ (s.unit u).kind = .meter) :
      Responds .startPlan s (settle (planStart (givenTo s rest))) r .done
        (.planState (settle (planStart (givenTo s rest))).progress.planState) :=
    responds_of_served head (starts kind) (handler := serveStartPlan) (serveStartPlan_starts from_ (named.mpr reference))
      ((congrArg State.agenda (settle_nil quiet)).trans quiet) rfl
  have outside (from_ : s.mode = .observe ∨ s.mode = .active) : (givenTo s rest).mode ≠ .restore := by
    show s.mode ≠ .restore
    rcases from_ with found | found <;> rw [found] <;> decide
  obtain ⟨current, attempt, restarts, startTime⟩ := planStart_place (givenTo s rest)
  refine ⟨fun kind from_ reference first other => ?_, fun kind from_ reference early => ?_, fun kind refused => ?_,
    fun kind restore => ?_, fun kind other => ?_⟩
  · obtain ⟨mode, running⟩ := planStart_runs (s := givenTo s rest) first other
    obtain ⟨endCause, limit⟩ := planStart_bounded (outside from_) first other
    have frame := (planStart_shifts (givenTo s rest)).shifts.frame
    refine ⟨planStart (givenTo s rest), responds kind from_ reference, mode, running, current, attempt, restarts, endCause,
      startTime, limit, frame.plan, fun room => ?_⟩
    have begun := (beginPlan_shifts (startEntered (givenTo s rest))).shifts.frame
    exact begun.log _ _ (startEntered_first (outside from_) rfl room)
  · refine ⟨planStart (givenTo s rest), responds kind from_ reference, current, attempt, restarts, startTime, ?_⟩
    rcases early with none_ | ends
    · obtain ⟨⟨failCause, orders, deadline, limit, mode, planState, endCause⟩, latched⟩ :=
        planStart_none_ends (s := givenTo s rest) none_
      refine ⟨failCause, orders, deadline, limit, fun _ => ⟨mode, planState, endCause, latched⟩, fun ends => ?_⟩
      rw [none_] at ends
      cases ends
    · obtain ⟨⟨failCause, orders, deadline, limit, mode, planState, endCause⟩, done⟩ :=
        planStart_end_ends (s := givenTo s rest) ends
      refine ⟨failCause, orders, deadline, limit, fun none_ => ?_, fun _ => ⟨mode, planState, endCause, done⟩⟩
      rw [ends] at none_
      cases none_
  · refine answered_of_unchanged head (starts kind) (handler := serveStartPlan) ?_ rfl
    refine (serveStartPlan_refuses (s := givenTo s rest) (refused.imp_right fun none_ => ?_)).trans rfl
    rw [Bool.eq_false_iff, Ne, named]
    rintro ⟨u, reference, meter⟩
    exact none_ u reference meter
  · have aborts := planAbort_aborts (rest := rest) head.ready.2 restore (m := .observe) rfl 5
    obtain ⟨free, stripped⟩ := planAbort_releases aborts
    have few : load (planAbort (givenTo s rest) 5 .observe) ≤ 30000 := (planAbort_load _ _ _).trans (by omega)
    have served : serveAbortPlan (givenTo s rest) r = ⟨settle (planAbort (givenTo s rest) 5 .observe), .done,
        .planState (settle (planAbort (givenTo s rest) 5 .observe)).progress.planState⟩ := if_pos (by
      show (s.mode == .restore) = true
      rw [restore]
      rfl)
    generalize planAbort (givenTo s rest) 5 .observe = v at aborts free stripped few served
    have quiet := settle_ends few
    obtain ⟨progress, -⟩ := aborts.plan
    obtain ⟨-, alloc, -⟩ := aborts.jobs
    exact ⟨v, responds_of_served head (stops kind) (handler := serveAbortPlan) served (by rw [settle_nil quiet, quiet]) rfl,
      aborts, aborts.mode, by rw [progress], by rw [progress], aborts.failed, by rw [alloc], free, stripped, aborts.recorded⟩
  · refine answered_of_unchanged head (stops kind) (handler := serveAbortPlan) ?_ rfl
    have found : ((givenTo s rest).mode == .restore) = false := beq_false_of_ne other
    exact if_neg (Bool.eq_false_iff.mp found)

end Sys2Proof.Machine
end
